-- ==== Sys2Proof/Word.lean ====
section
/-! DEFINITION. The words that cross the EW-128's ports and buses. Chapter 11 sends every number high byte first in fields of
one to four bytes; everything the controller merely counts is a `Nat` in the state. -/

namespace Sys2Proof

/-- One byte of a frame or of a request body (chapter 11.1). -/
abbrev Byte := BitVec 8

/-- A two-byte field: a day, a minute, a price, a word of the card image. -/
abbrev Half := BitVec 16

/-- A three-byte field: a card number or an allowance (Table 11-3). -/
abbrev Triple := BitVec 24

/-- A set of gates, gate `g` at bit `g` (chapter 11.1; the byte's bits 6 and 7 name no gate). -/
abbrev GateSet := BitVec 6

end Sys2Proof
end

