-- ==== Sys2Proof/Config.lean ====
section
/-! DEFINITION. The figures the EW-128 fixes: capacities, ceilings and durations, each under the rule that gives it.
The spec leaves no value free, so this file holds no opaque constant. -/

namespace Sys2Proof.Config

/-- Credential records the table holds at most (R40). -/
def maxCards : Nat := 1024

/-- Room-bound records of one slot that are not REVOKED, at most (R54); also the largest batch (R25). -/
def maxRoomCards : Nat := 8

/-- The highest card number (R49). -/
def lastCardNumber : Nat := 16777215

/-- Entry records the log holds at most (R170). -/
def maxRecords : Nat := 4096

/-- Sequence numbers and cursors wrap here (R168). -/
def seqModulus : Nat := 4294967296

/-- Events one port's queue holds at most (R189). -/
def maxEvents : Nat := 16

/-- Entries of the gate schedule at most (R149). -/
def maxSchedule : Nat := 32

/-- The lease of a claim, in seconds (R31). -/
def leaseSeconds : Nat := 120

/-- The highest minute index, day 65535 minute 1439 (R5). -/
def lastMinuteIndex : Nat := 94371839

/-- The ceiling of the 16-bit saturating counts: bus counts (R92), lost count (R171), skipped counts (R172). -/
def countCeiling : Nat := 65535

/-- The ceiling of a charge total and of an overdraft (R139). -/
def chargeCeiling : Nat := 16777215

/-- The ceiling of a granted allowance (R131). -/
def allowanceCeiling : Nat := 999999

/-- The ceiling of a tally count and of a removed-in-session count (R141). -/
def itemCeiling : Nat := 255

/-- The checkout grace after a cold start, in minutes (R4). -/
def coldGrace : Nat := 60

/-- The largest checkout grace (R11). -/
def maxGrace : Nat := 240

/-- The reserve after a cold start (R130). -/
def coldReserve : Nat := 500

/-- The log threshold after every start (R180). -/
def startThreshold : Nat := 256

/-- The correct KEEPALIVE token (R192). -/
def keepaliveToken : Half := 0x5A3C

/-- Seconds a pending grant outlives its unlock time (R113). -/
def grantMargin : Nat := 2

/-- The characters after which a frame being received is closed (R67). -/
def maxFrame : Nat := 53

/-- The vendor code IDENTIFY reports (R195). -/
def vendorCode : Nat := 0x5347

/-- The part code IDENTIFY reports (R195). -/
def partCode : Nat := 128

/-- The revision IDENTIFY reports (R195). -/
def revision : Nat := 1

end Sys2Proof.Config
end

