-- ==== Sys2Proof/Syntax.lean ====
section
/-! DEFINITION. The commands of the EW-128: one constructor of `Instr` for each row of spec/opcode_table.json. A station
request carries the fields of its body in the order its rule names them and at the widths of chapter 11.4, just as the
office system sent them, so a field may hold a value its rule refuses (R202). -/

namespace Sys2Proof

/-- The two station ports (chapter 9.1). -/
inductive Port where
  | fo
  | se
  deriving DecidableEq, Repr

/-- The two Quaybus lines (chapter 4.1). -/
inductive Bus where
  | a
  | b
  deriving DecidableEq, Repr

/-- A room slot, 0 to 127 (chapter 2.1). -/
abbrev Slot := Fin 128

/-- A gate, 0 to 5 (chapter 7.1). -/
abbrev Gate := Fin 6

/-- A unit record of the Unit Table, numbered in the order R116 and R136 visit them: `0` to `119` are A-1 to A-120 and `120`
to `239` are B-1 to B-120. -/
abbrev UnitId := Fin 240

/-- A (day, minute) field of a request body: 4 bytes, the day first (chapter 11.4). -/
structure DayMinute where
  day : Half
  minute : Half
  deriving DecidableEq, Repr

/-- The steps of the EW-128 (spec/95_what_each_step_holds.md). Ticks and timer expiries come from the crystal, station
transactions from the two office systems, bus steps from the Quaybus Controllers and the lock units, and the line, power and
reset steps from the wing. -/
inductive Instr where
  -- the Clock Unit and the elapsed timers
  | secondTick
  | crystalCycle
  | claimLeaseExpiry (slot : Slot)
  | pendingGrantExpiry (unit : UnitId)
  | ajarTimerExpiry (unit : UnitId)
  | minibarSessionExpiry (unit : UnitId)
  | gatePulseExpiry (gate : Gate)
  | supervisionTimerExpiry (port : Port)
  -- station transactions that are no request
  | transactionDiscarded (port : Port) (bytes : List Byte)
  | rspByteReceived (port : Port)
  | responseTransaction (port : Port) (clocked : Nat)
  | badRequest (port : Port) (bytes : List Byte)
  -- requests of the front office
  | checkIn (port : Port) (slot cls count : Byte) (arrival departure : DayMinute) (allowance : Triple)
  | addCards (port : Port) (slot cls count : Byte)
  | changeStay (port : Port) (slot : Byte) (departure : DayMinute)
  | checkOut (port : Port) (slot : Byte)
  | settle (port : Port) (slot : Byte)
  | setPrices (port : Port) (prices : Vector Half 12)
  | setReserve (port : Port) (reserve : Half)
  | setGrace (port : Port) (grace : Byte)
  -- requests of the security office
  | configureRoom (port : Port) (slot : Byte) (number : Half)
  | removeRoom (port : Port) (slot : Byte)
  | holdRoom (port : Port) (slot : Byte)
  | freeRoom (port : Port) (slot : Byte)
  | configureUnit (port : Port) (bus address kind cls slot gate : Byte)
  | removeUnit (port : Port) (bus address : Byte)
  | readmitUnit (port : Port) (bus address : Byte)
  | issueStaff (port : Port) (cls : Byte) (start stop : DayMinute) (replaced : Triple)
  | suspend (port : Port) (card : Triple)
  | resume (port : Port) (card : Triple)
  | setSite (port : Port) (site : Half)
  | setCondition (port : Port) (cls entrance code : Byte)
  | setEntranceClass (port : Port) (entrance unlock : Byte) (ajarLimit : Half) (exposed : Byte)
  | setShift (port : Port) (cls : Byte) (opens closes : Half)
  | setGate (port : Port) (enabled exposed : Byte)
  | addScheduleEntry (port : Port) (minute : Half) (gates level : Byte)
  | removeScheduleEntry (port : Port) (position : Byte)
  | clearSchedule (port : Port)
  | setMode (port : Port) (mode : Byte)
  | restore (port : Port)
  | clearBusCounters (port : Port) (bus : Byte)
  -- requests of both offices
  | claim (port : Port) (slot preempt : Byte)
  | releaseClaim (port : Port) (slot : Byte)
  | revoke (port : Port) (card : Triple) (reason : Byte)
  | setClock (port : Port) (reading : DayMinute)
  | readClock (port : Port)
  | readRoom (port : Port) (slot : Byte)
  | readCard (port : Port) (card : Triple)
  | readUnit (port : Port) (bus address : Byte)
  | readBus (port : Port) (bus : Byte)
  | readGates (port : Port)
  | readLog (port : Port) (count : Byte)
  | setLogPolicy (port : Port) (policy : Byte)
  | setLogThreshold (port : Port) (threshold : Half)
  | readEvents (port : Port) (count : Byte)
  | setSupervision (port : Port) (interval : Byte)
  | keepalive (port : Port) (token : Half)
  | identify (port : Port)
  -- the Quaybus Controllers
  | mode (bus : Bus)
  | poll (bus : Bus)
  | pollTimeout (bus : Bus)
  | answer (bus : Bus) (frame : List Byte)
  | verdict (bus : Bus)
  | ack (bus : Bus) (frame : List Byte)
  | verdictTimeout (bus : Bus)
  -- the EVAC line, power and reset
  | evacRisingEdge
  | evacFallingEdge
  | rstAsserted
  | mainPowerFall
  | retentionLost
  | warmStart
  | coldStart
  | startEnd
  deriving DecidableEq, Repr

/-- The requests of the station ports (Table 11-3). A request row of `Instr` carries one of these with its body's fields. -/
inductive Request where
  | checkIn
  | addCards
  | changeStay
  | checkOut
  | settle
  | setPrices
  | setReserve
  | setGrace
  | configureRoom
  | removeRoom
  | holdRoom
  | freeRoom
  | configureUnit
  | removeUnit
  | readmitUnit
  | issueStaff
  | suspend
  | resume
  | setSite
  | setCondition
  | setEntranceClass
  | setShift
  | setGate
  | addScheduleEntry
  | removeScheduleEntry
  | clearSchedule
  | setMode
  | restore
  | clearBusCounters
  | claim
  | releaseClaim
  | revoke
  | setClock
  | readClock
  | readRoom
  | readCard
  | readUnit
  | readBus
  | readGates
  | readLog
  | setLogPolicy
  | setLogThreshold
  | readEvents
  | setSupervision
  | keepalive
  | identify
  deriving DecidableEq, Repr

end Sys2Proof
end

