-- ==== Sys2Proof/Machine/State.lean ====
section
/-! DEFINITION. The state of the EW-128: every piece of state the manual gives the part, block by block, as plain data, with
the queue of commands that wait. INVENTORY.md lists each field beside the rule that names it. -/

namespace Sys2Proof.Machine

open Sys2Proof

/-! ## Time (chapter 1) -/

/-- A day and a minute of day. -/
structure Moment where
  day : Nat
  minute : Nat
  deriving DecidableEq, Repr

/-- A reading of resort time, as records and grants carry it (R166). -/
structure Time where
  day : Nat
  minute : Nat
  second : Nat
  deriving DecidableEq, Repr

/-- A window: the minute indices from `start` up to, but not including, `stop` (R5). -/
structure Window where
  start : Moment
  stop : Moment
  deriving DecidableEq, Repr

/-- The Clock Unit (chapter 1.1). -/
structure Clock where
  day : Nat
  minute : Nat
  second : Nat
  prescaler : Nat
  clockSet : Bool
  clockEnd : Bool
  grace : Nat
  deriving DecidableEq, Repr

/-! ## Rooms, claims and accounts (chapters 2 and 6) -/

/-- A LET room's stay as given by the front office, and the card window derived from it (R12). -/
structure Stay where
  arrival : Moment
  departure : Moment
  window : Window
  deriving DecidableEq, Repr

/-- A room's state with what chapter 2.1 says is present in it. -/
inductive Occupancy where
  | unused
  | vacant (number : Nat)
  | letTo (number : Nat) (stay : Stay)
  | held (number : Nat)
  deriving DecidableEq, Repr

/-- A room's deadbolt state (R38, R39). -/
inductive Privacy where
  | off
  | on
  | unknown
  deriving DecidableEq, Repr

/-- One room record; its claim and its account are kept beside it. -/
structure Room where
  occupancy : Occupancy
  generation : Nat
  issueCounter : Nat
  privacy : Privacy
  deriving DecidableEq, Repr

/-- A held claim: its holder and the remaining count of its lease (R30). A lease of 0 is one whose expiry is due. -/
structure Claim where
  holder : Port
  lease : Nat
  deriving DecidableEq, Repr

/-- A room's minibar account (chapter 6.1). -/
structure Account where
  granted : Nat
  remaining : Nat
  charge : Nat
  overdraft : Nat
  tally : Vector Nat 12
  ceilingMet : Bool
  blocked : Bool
  deriving DecidableEq, Repr

/-- The kind of a minibar session (R133). -/
inductive SessionKind where
  | guest
  | restock
  deriving DecidableEq, Repr

/-- The two states of an open session; in AWAITING OPEN its expiry timer runs, and a count of 0 is an expiry that is due. -/
inductive SessionPhase where
  | awaitingOpen (expiry : Nat)
  | inUse
  deriving DecidableEq, Repr

/-- An open minibar session (chapter 6.4); opened seen is yes exactly in IN USE. -/
structure Session where
  kind : SessionKind
  card : Nat
  slot : Slot
  removed : Vector Nat 12
  phase : SessionPhase
  deriving DecidableEq, Repr

/-! ## Credentials (chapter 3) -/

/-- A revocation reason, in the order of its codes (chapter 11.1). -/
inductive RevokeReason where
  | checkout
  | superseded
  | lost
  | returned
  | withdrawn
  deriving DecidableEq, Repr

/-- A credential record's state (R42). -/
inductive CardState where
  | active
  | suspended
  | revoked (reason : RevokeReason)
  deriving DecidableEq, Repr

/-- What ties a room-bound record to its room (R41). -/
structure RoomBinding where
  slot : Slot
  generation : Nat
  deriving DecidableEq, Repr

/-- One credential record (chapter 3.1); a staff record has no binding. -/
structure Credential where
  number : Nat
  cls : Fin 8
  binding : Option RoomBinding
  issueNumber : Nat
  first : Bool
  final : Bool
  window : Window
  state : CardState
  issuedBy : Port
  deriving DecidableEq, Repr

/-- The Credential Table (R40). Its records stand in ascending card number order, the one canonical form of a table whose
order cannot be seen. -/
structure CardTable where
  cards : List Credential
  revoked : List Nat
  nextNumber : Nat
  site : Nat
  deriving DecidableEq, Repr

/-! ## Units and buses (chapter 4) -/

/-- The wing mode (chapter 7.7). -/
inductive WingMode where
  | normal
  | storm
  | lockdown
  | evacuation
  deriving DecidableEq, Repr

/-- A unit's kind with the binding that kind has (R71). -/
inductive UnitKind where
  | absent
  | roomLock (slot : Slot)
  | passageLock
  | minibarLock (slot : Slot)
  | gateReader (gate : Gate)
  deriving DecidableEq, Repr

/-- A unit's link state (chapter 4.6). -/
inductive LinkState where
  | unknown
  | online
  | silent
  deriving DecidableEq, Repr

/-- A unit's last status: the mode it applies and whether its strike is RELEASED (R69). -/
structure UnitStatus where
  mode : WingMode
  released : Bool
  deriving DecidableEq, Repr

/-- A unit's entrance state (chapter 5.5). -/
inductive Entrance where
  | closed
  | opened
  | ajar
  | unknown
  deriving DecidableEq, Repr

/-- One unit record (R71); no expected answer bit is UNSET. -/
structure UnitRec where
  kind : UnitKind
  entranceClass : Fin 8
  quarantined : Bool
  link : LinkState
  misses : Nat
  expected : Option Bool
  lastStatus : Option UnitStatus
  misreads : Nat
  entrance : Entrance
  relock : Bool
  deriving DecidableEq, Repr

/-- A running ajar timer and the limit it was loaded with (R124, R125). A count of 0 is an expiry that is due. -/
structure AjarTimer where
  remaining : Nat
  limit : Nat
  deriving DecidableEq, Repr

/-- A pending grant (chapter 5.4). An expiry of 0 is one that is due; `pulsed` keeps the Gate Controller's answer (R154). -/
structure Grant where
  card : Option Nat
  grantedAt : Time
  unlock : Nat
  expiry : Nat
  acknowledged : Bool
  evac : Bool
  pulsed : Bool
  deriving DecidableEq, Repr

/-- A denial reason, in the order of its codes (Table 11-2). -/
inductive Reason where
  | quarantine
  | evacuation
  | noClock
  | foreign
  | unknown
  | revoked
  | suspended
  | stale
  | early
  | expired
  | wrongRoom
  | minibarClosed
  | allowance
  | condition
  deriving DecidableEq, Repr

/-- A verdict as the VERDICT frame carries it (R69). -/
inductive Verdict where
  | grant (unlock : Nat)
  | deny (reason : Reason)
  | reread
  deriving DecidableEq, Repr

/-- The transaction in flight on a bus. A poll transaction remembers whether its POLL carried the relock flag (R85), a
verdict transaction whether its VERDICT carried a GRANT (R86). -/
inductive Flight where
  | none
  | poll (unit : UnitId) (relock : Bool)
  | verdict (unit : UnitId) (granted : Bool)
  deriving DecidableEq, Repr

/-- A verdict reached and not yet sent (R86). -/
structure DueVerdict where
  unit : UnitId
  verdict : Verdict
  deriving DecidableEq, Repr

/-- One Quaybus Controller (chapter 4.1). `sent` is its transmit frame buffer: the frame it sent last. -/
structure BusState where
  position : Nat
  round : Nat
  broadcast : Bool
  flight : Flight
  due : Option DueVerdict
  crcErrors : Nat
  strays : Nat
  timeouts : Nat
  malformed : Nat
  sent : List Byte
  deriving DecidableEq, Repr

/-! ## Decisions (chapter 5) -/

/-- The sixteen conditions, in the order of their codes (R109). -/
inductive Condition where
  | always
  | never
  | notPrivate
  | roomLet
  | roomVacant
  | roomNotHeld
  | onShift
  | onShiftNotPrivate
  | modeNormal
  | notLockdown
  | letNotPrivate
  | vacantOrHeld
  | onShiftNotLockdown
  | notExposedClosed
  | notPrivateNotLockdown
  | onShiftVacantOrHeld
  deriving DecidableEq, Repr

/-- One entry of the entrance class table (R111). -/
structure EntranceClass where
  unlock : Nat
  ajarLimit : Nat
  exposed : Bool
  deriving DecidableEq, Repr

/-- One class shift window (R112). -/
structure Shift where
  opens : Nat
  closes : Nat
  deriving DecidableEq, Repr

/-- The Decision Unit's three tables; a condition cell is found by credential class, then entrance class (R108). -/
structure DecisionTables where
  conditions : Vector (Vector Condition 8) 8
  entrances : Vector EntranceClass 8
  shifts : Vector Shift 8
  deriving DecidableEq, Repr

/-! ## Gates and the wing mode (chapter 7) -/

/-- The level of a gate output (chapter 7.1). -/
inductive GateLevel where
  | opened
  | shut
  deriving DecidableEq, Repr

/-- One entry of the gate schedule (chapter 7.3). -/
structure ScheduleEntry where
  minute : Nat
  gates : GateSet
  level : GateLevel
  deriving DecidableEq, Repr

/-- The Gate Controller (chapter 7.1). A pulse that is `some 0` is one whose expiry is due. -/
structure Gates where
  enabled : GateSet
  exposed : GateSet
  schedule : List ScheduleEntry
  scheduled : Vector GateLevel 6
  lastWorking : Nat
  pulses : Vector (Option Nat) 6
  outputs : Vector GateLevel 6
  deriving DecidableEq, Repr

/-- The Mode Controller, and the level the EVAC pin stands at (R158, R199). -/
structure Wing where
  mode : WingMode
  evacSampled : Bool
  evacPin : Bool
  deriving DecidableEq, Repr

/-! ## The entry log (chapter 8) -/

/-- A record's source (R166). -/
inductive Source where
  | unit (unit : UnitId)
  | port (port : Port)
  | evacLine
  | controller
  deriving DecidableEq, Repr

/-- A reader side (R69). -/
inductive Side where
  | inner
  | outer
  deriving DecidableEq, Repr

/-- A log policy (chapter 8.1). -/
inductive Policy where
  | hold
  | yields
  deriving DecidableEq, Repr

/-- What ended a minibar session (R137). -/
inductive EndReason where
  | closed
  | unopened
  | checkout
  | evacuation
  | quarantine
  deriving DecidableEq, Repr

/-- What cut a grant (R120). -/
inductive CutCause where
  | lockdown
  | quarantine
  deriving DecidableEq, Repr

/-- The grant items that every conclusion record holds (R120). -/
structure GrantItems where
  grantedAt : Time
  unlock : Nat
  acknowledged : Bool
  evac : Bool
  deriving DecidableEq, Repr

/-- A record's kind with the items Tables 8-1 to 8-4 give its detail. -/
inductive Detail where
  | entry (items : GrantItems) (revokedSince : Bool)
  | entryUnattributed
  | evacPass (side : Side) (unlock : Nat)
  | denial (reason : Reason) (side : Side) (recordSlot : Option Slot)
  | grantUnused (items : GrantItems) (gatePulsed : Bool)
  | grantCut (items : GrantItems) (cause : CutCause)
  | grantReplaced (items : GrantItems)
  | cardFault (side : Side)
  | forced
  | ajar (limit : Nat)
  | minibarSession (kind : SessionKind) (reason : EndReason) (openedSeen : Bool) (removedSum : Nat)
  | minibarItem (item removed returned credited charge credit : Nat) (guest : Bool)
  | returnUncredited (item count : Nat)
  | restock (item removed returned : Nat)
  | stayCheckIn (generation : Nat) (window : Window) (count : Nat)
  | stayChange (oldStop newStop : Moment)
  | stayCheckOut (count : Nat)
  | issue (cls issueNumber : Nat) (first final : Bool) (generation : Option Nat) (reclaimed : Nat)
  | revoke (reason : RevokeReason)
  | suspend
  | resume
  | claimPreempt (lease : Nat)
  | settle (charge overdraft remaining : Nat) (ceilingMet interim : Bool)
  | unitSilent (before : LinkState) (gate : Option Gate)
  | unitBack (gate : Option Gate)
  | unitTamper (gate : Option Gate)
  | readmit (unit : UnitId)
  | modeChange (old new : WingMode)
  | evac (before : WingMode)
  | evacClear
  | clockSet (old new : Nat)
  | linkExpired (claims : Nat) (policy : Policy)
  | start (warm : Bool) (grants sessions : Nat)
  deriving DecidableEq, Repr

/-- A record as the block that appends it forms it (R166). -/
structure Formed where
  time : Time
  source : Source
  card : Option Nat
  room : Option Slot
  detail : Detail
  deriving DecidableEq, Repr

/-- A record as the Entry Log holds it: the formed record with its sequence number and, where R173 gives one, its gap. -/
structure LogRecord where
  seq : Nat
  formed : Formed
  gap : Option Nat
  deriving DecidableEq, Repr

/-- What the Entry Log keeps for one port (chapter 8.1). -/
structure Reader where
  cursor : Nat
  policy : Policy
  skipped : Nat
  threshold : Nat
  deriving DecidableEq, Repr

/-- The Entry Log; the records stand oldest first. -/
structure EntryLog where
  records : List LogRecord
  next : Nat
  lost : Nat
  fo : Reader
  se : Reader
  deriving DecidableEq, Repr

/-! ## The station ports (chapter 9) -/

/-- A status code, in the order of Table 11-4. -/
inductive Status where
  | ok
  | none
  | badRequest
  | badLength
  | badValue
  | notPermitted
  | notClaimed
  | claimedElsewhere
  | wrongState
  | inUse
  | tableFull
  | limit
  | notFound
  | badWindow
  | unsettled
  | sessionOpen
  | evacActive
  | noClock
  | noSite
  | alreadySet
  | linkLost
  deriving DecidableEq, Repr

/-- A response: its status code and its body (R188). -/
structure Response where
  status : Status
  body : List Byte
  deriving DecidableEq, Repr

/-- Why a claim was lost (chapter 9.5). -/
inductive LossReason where
  | preempted
  | expired
  | link
  deriving DecidableEq, Repr

/-- An event with its argument (chapter 9.5), in the order of the event codes. -/
inductive Event where
  | forced (unit : UnitId)
  | ajar (unit : UnitId)
  | unitSilent (unit : UnitId)
  | unitBack (unit : UnitId)
  | unitTamper (unit : UnitId)
  | revokedCardSeen (unit : UnitId)
  | cardFault (unit : UnitId)
  | minibarTamper (unit : UnitId)
  | minibarOverdraft (slot : Slot)
  | modeChanged (mode : WingMode)
  | evacLine (asserted : Bool)
  | clockSet
  | peerLinkLost
  | claimLost (slot : Slot) (reason : LossReason)
  | logThreshold (unread : Nat)
  deriving DecidableEq, Repr

/-- What a response transaction will send, fixed when its RSP byte has been received (R185). -/
structure Fixed where
  status : Status
  overrun : Bool
  eventsPending : Bool
  eventsLost : Bool
  body : List Byte
  deriving DecidableEq, Repr

/-- One station port (chapter 9.1). `linkLost` is LINK_LOST, a supervision timer of `some 0` is one whose expiry is due,
`fixed` is the response of a response transaction in progress, and `sent` holds the bytes the port sent, after the
transaction's first byte, in the transaction it last took. -/
structure PortState where
  slot : Option Response
  overrun : Bool
  events : List Event
  eventsLost : Bool
  supervised : Bool
  interval : Nat
  timer : Option Nat
  linkLost : Bool
  attn : Bool
  fixed : Option Fixed
  sent : List Byte
  deriving DecidableEq, Repr

/-! ## Power and starts (chapter 10) -/

/-- What a start in progress has yet to commit (R197, R200, R201). -/
inductive Start where
  | warm (mode : WingMode) (record : Formed)
  | cold
  deriving DecidableEq, Repr

/-- Whether main power is absent, RST is asserted, a start is in progress, or the part runs (R197, R199). -/
inductive Phase where
  | off
  | inReset
  | starting (start : Start)
  | running
  deriving DecidableEq, Repr

/-- The Retention Domain's own state and the phase of the part. `retained` says that the domain has a supply. -/
structure Power where
  phase : Phase
  retained : Bool
  latch : Bool
  grantTally : Nat
  sessionTally : Nat
  deriving DecidableEq, Repr

/-! ## The whole part -/

/-- The EW-128. -/
structure State where
  pending : List Instr
  power : Power
  clock : Clock
  rooms : Vector Room 128
  claims : Vector (Option Claim) 128
  accounts : Vector Account 128
  prices : Vector Nat 12
  reserve : Nat
  table : CardTable
  units : Vector UnitRec 240
  grants : Vector (Option Grant) 240
  ajar : Vector (Option AjarTimer) 240
  sessions : Vector (Option Session) 240
  busA : BusState
  busB : BusState
  decision : DecisionTables
  gates : Gates
  wing : Wing
  log : EntryLog
  fo : PortState
  se : PortState
  deriving DecidableEq, Repr

/-- Why the block would stop with a fault. The manual names no fault that stops the EW-128: a station request is answered with
a status code, a bus error is counted and a bad card is denied, so this type has no constructor (safe: no step can end so). -/
inductive Fault where
  deriving DecidableEq, Repr

/-- Why a command has no meaning. -/
inductive Refusal where
  /-- Raised only by an arm of `exec` whose command has no meaning yet. Safe: nothing is claimed of such a command. -/
  | notModelled (mnemonic : String)
  deriving DecidableEq, Repr

/-! ## Values after a start -/

/-- The clock after a cold start (R4). -/
def Clock.cold : Clock :=
  { day := 0, minute := 0, second := 0, prescaler := 0, clockSet := false, clockEnd := false, grace := Config.coldGrace }

/-- A room record after a cold start (R16). -/
def Room.cold : Room := { occupancy := .unused, generation := 0, issueCounter := 0, privacy := .unknown }

/-- An account after a cold start, and a removed room's account (R128, R131). -/
def Account.cold : Account :=
  { granted := 0, remaining := 0, charge := 0, overdraft := 0, tally := .replicate 12 0, ceilingMet := false, blocked := true }

/-- A unit record after a cold start, and a removed unit's record (R71, R74). -/
def UnitRec.cold : UnitRec :=
  { kind := .absent, entranceClass := 0, quarantined := false, link := .unknown, misses := 0, expected := none,
    lastStatus := none, misreads := 0, entrance := .unknown, relock := false }

/-- The Credential Table after a cold start (R40). -/
def CardTable.cold : CardTable := { cards := [], revoked := [], nextNumber := 1, site := 0 }

/-- A Quaybus Controller after any start (R95). -/
def BusState.start : BusState :=
  { position := 0, round := 0, broadcast := true, flight := .none, due := none, crcErrors := 0, strays := 0, timeouts := 0,
    malformed := 0, sent := [] }

/-- The Decision Unit's tables after a cold start (R108, R111, R112). -/
def DecisionTables.cold : DecisionTables :=
  { conditions := .replicate 8 (.replicate 8 .never)
    entrances := .replicate 8 { unlock := 5, ajarLimit := 60, exposed := false }
    shifts := .replicate 8 { opens := 0, closes := 0 } }

/-- The Gate Controller after a cold start (R147). -/
def Gates.cold : Gates :=
  { enabled := 0, exposed := 0, schedule := [], scheduled := .replicate 6 .shut, lastWorking := 0, pulses := .replicate 6 none,
    outputs := .replicate 6 .shut }

/-- A station port after any start (R196). -/
def PortState.start : PortState :=
  { slot := none, overrun := false, events := [], eventsLost := false, supervised := false, interval := 0, timer := none,
    linkLost := false, attn := false, fixed := none, sent := [] }

/-- The START (COLD) record (R167, R169). -/
def LogRecord.startCold : LogRecord :=
  { seq := 0
    formed := { time := { day := 0, minute := 0, second := 0 }, source := .controller, card := none, room := none,
                detail := .start false 0 0 }
    gap := none }

/-- The Entry Log after a cold start (R169). -/
def EntryLog.cold : EntryLog :=
  { records := [LogRecord.startCold], next := 1, lost := 0
    fo := { cursor := 0, policy := .yields, skipped := 0, threshold := Config.startThreshold }
    se := { cursor := 0, policy := .hold, skipped := 0, threshold := Config.startThreshold } }

/-- The part right after reset: a cold start that has ended with the EVAC line deasserted (R201, Table 10-1), its
retention-lost latch cleared and no command waiting. -/
def State.reset : State :=
  { pending := []
    power := { phase := .running, retained := true, latch := false, grantTally := 0, sessionTally := 0 }
    clock := Clock.cold
    rooms := .replicate 128 Room.cold
    claims := .replicate 128 none
    accounts := .replicate 128 Account.cold
    prices := .replicate 12 0
    reserve := Config.coldReserve
    table := CardTable.cold
    units := .replicate 240 UnitRec.cold
    grants := .replicate 240 none
    ajar := .replicate 240 none
    sessions := .replicate 240 none
    busA := BusState.start
    busB := BusState.start
    decision := DecisionTables.cold
    gates := Gates.cold
    wing := { mode := .normal, evacSampled := false, evacPin := false }
    log := EntryLog.cold
    fo := PortState.start
    se := PortState.start }

end Sys2Proof.Machine
end

