-- ==== Sys2Proof/Machine/Bytes.lean ====
section
/-! DEFINITION. Byte order and codes (chapter 11): how numbers, times, enumerations and the card image are laid out in the
bytes the part sends. -/

namespace Sys2Proof.Machine

open Sys2Proof

/-- `n` in `width` bytes, high byte first (chapter 11.1). -/
def be : Nat → Nat → List Byte
  | 0, _ => []
  | width + 1, n => be width (n / 256) ++ [BitVec.ofNat 8 n]

/-- The number a run of bytes holds, high byte first (chapter 11.1). -/
def ofBe (bytes : List Byte) : Nat := bytes.foldl (fun n b => n * 256 + b.toNat) 0

/-- A one-byte item (R204). -/
def byte (n : Nat) : List Byte := [BitVec.ofNat 8 n]

/-- A yes/no item: 1 for set, 0 for clear (chapter 11.1). -/
def flag (b : Bool) : List Byte := byte (if b then 1 else 0)

/-- An item that may be absent, sent at its width as 0 where it is (R204). -/
def orZero (width : Nat) (n : Option Nat) : List Byte := be width (n.getD 0)

/-- A (day, minute) in 4 bytes, the day first (chapter 11.4). -/
def Moment.bytes (m : Moment) : List Byte := be 2 m.day ++ be 2 m.minute

/-- A resort time in 5 bytes (R204). -/
def Time.bytes (t : Time) : List Byte := be 2 t.day ++ be 2 t.minute ++ byte t.second

/-- A card window in 8 bytes (R204). -/
def Window.bytes (w : Window) : List Byte := w.start.bytes ++ w.stop.bytes

/-- Wing mode codes (chapter 11.1). -/
def WingMode.code : WingMode → Nat
  | .normal => 0
  | .storm => 1
  | .lockdown => 2
  | .evacuation => 3

/-- The wing mode a code of 0 to 3 names (chapter 11.1). -/
def WingMode.ofCode : Nat → WingMode
  | 0 => .normal
  | 1 => .storm
  | 2 => .lockdown
  | _ => .evacuation

/-- Port codes (chapter 11.1). -/
def portCode : Port → Nat
  | .fo => 1
  | .se => 2

/-- Bus codes (chapter 11.1). -/
def busCode : Bus → Nat
  | .a => 1
  | .b => 2

/-- Unit kind codes (chapter 11.1). -/
def UnitKind.code : UnitKind → Nat
  | .absent => 0
  | .roomLock _ => 1
  | .passageLock => 2
  | .minibarLock _ => 3
  | .gateReader _ => 4

/-- Revocation reason codes (chapter 11.1). -/
def RevokeReason.code : RevokeReason → Nat
  | .checkout => 1
  | .superseded => 2
  | .lost => 3
  | .returned => 4
  | .withdrawn => 5

/-- Gate level codes (chapter 11.1). -/
def GateLevel.code : GateLevel → Nat
  | .opened => 1
  | .shut => 2

/-- Log policy codes (chapter 11.1). -/
def Policy.code : Policy → Nat
  | .hold => 1
  | .yields => 2

/-- Reader side codes (chapter 11.1). -/
def Side.code : Side → Nat
  | .inner => 1
  | .outer => 2

/-- Room state codes, by R204 in the order chapter 2.1 lists the states. -/
def Occupancy.code : Occupancy → Nat
  | .unused => 1
  | .vacant _ => 2
  | .letTo _ _ => 3
  | .held _ => 4

/-- Privacy codes, by R204 in the order chapter 2.1 lists the values. -/
def Privacy.code : Privacy → Nat
  | .off => 1
  | .on => 2
  | .unknown => 3

/-- Claim holder codes: none is sent as 0 (R204), a port under its own code. DEDUCED, log entry 5. -/
def holderCode : Option Port → Nat
  | none => 0
  | some p => portCode p

/-- Credential state codes, by R204 in the order chapter 3.1 lists the states. -/
def CardState.code : CardState → Nat
  | .active => 1
  | .suspended => 2
  | .revoked _ => 3

/-- The revocation reason of a REVOKED record, and 0 for another (R204). -/
def CardState.reasonCode : CardState → Nat
  | .revoked r => r.code
  | _ => 0

/-- Link state codes of a unit, by R204 in the order R71 lists the values. -/
def LinkState.code : LinkState → Nat
  | .unknown => 1
  | .online => 2
  | .silent => 3

/-- Link state codes of a port, by R204 in the order chapter 9.1 lists the values. -/
def portLinkCode (lost : Bool) : Nat := if lost then 2 else 1

/-- Entrance state codes, by R204 in the order R71 lists the values. -/
def Entrance.code : Entrance → Nat
  | .closed => 1
  | .opened => 2
  | .ajar => 3
  | .unknown => 4

/-- Answer bits as POLL and READ UNIT carry them, UNSET as 0xFF (R203). DEDUCED for READ UNIT, log entry 6. -/
def answerBitCode : Option Bool → Nat
  | none => 0xFF
  | some b => if b then 1 else 0

/-- Strike codes: LOCKED 0, RELEASED 1 (Table 11-1). -/
def strikeCode (released : Bool) : Nat := if released then 1 else 0

/-- EVAC line codes: asserted 1, deasserted 2 (chapter 11.4, events as read). -/
def evacCode (asserted : Bool) : Nat := if asserted then 1 else 2

/-- Session kind codes in an entry record, NONE for items with no session (chapter 11.5). -/
def SessionKind.code : SessionKind → Nat
  | .guest => 1
  | .restock => 2

/-- Session state codes, by R204 in the order the table of chapter 6.4 lists the states. DEDUCED, log entry 6. -/
def SessionPhase.code : SessionPhase → Nat
  | .awaitingOpen _ => 2
  | .inUse => 3

/-- Session end reason codes (chapter 11.5). -/
def EndReason.code : EndReason → Nat
  | .closed => 1
  | .unopened => 2
  | .checkout => 3
  | .evacuation => 4
  | .quarantine => 5

/-- Grant cut cause codes (chapter 11.5). -/
def CutCause.code : CutCause → Nat
  | .lockdown => 1
  | .quarantine => 2

/-- Claim loss reason codes (chapter 11.4, events as read). -/
def LossReason.code : LossReason → Nat
  | .preempted => 1
  | .expired => 2
  | .link => 3

/-- Condition codes (R109). -/
def Condition.code : Condition → Nat
  | .always => 0
  | .never => 1
  | .notPrivate => 2
  | .roomLet => 3
  | .roomVacant => 4
  | .roomNotHeld => 5
  | .onShift => 6
  | .onShiftNotPrivate => 7
  | .modeNormal => 8
  | .notLockdown => 9
  | .letNotPrivate => 10
  | .vacantOrHeld => 11
  | .onShiftNotLockdown => 12
  | .notExposedClosed => 13
  | .notPrivateNotLockdown => 14
  | .onShiftVacantOrHeld => 15

/-- Verdict reason codes (Table 11-2). -/
def Reason.code : Reason → Nat
  | .quarantine => 1
  | .evacuation => 2
  | .noClock => 3
  | .foreign => 4
  | .unknown => 5
  | .revoked => 6
  | .suspended => 7
  | .stale => 8
  | .early => 9
  | .expired => 10
  | .wrongRoom => 11
  | .minibarClosed => 12
  | .allowance => 13
  | .condition => 14

/-- Status codes (Table 11-4). -/
def Status.code : Status → Nat
  | .ok => 0x00
  | .none => 0x01
  | .badRequest => 0x02
  | .badLength => 0x03
  | .badValue => 0x04
  | .notPermitted => 0x05
  | .notClaimed => 0x06
  | .claimedElsewhere => 0x07
  | .wrongState => 0x08
  | .inUse => 0x09
  | .tableFull => 0x0A
  | .limit => 0x0B
  | .notFound => 0x0C
  | .badWindow => 0x0D
  | .unsettled => 0x0E
  | .sessionOpen => 0x0F
  | .evacActive => 0x10
  | .noClock => 0x11
  | .noSite => 0x12
  | .alreadySet => 0x13
  | .linkLost => 0x14

/-! ## Units by bus and address -/

/-- The bus of a unit. -/
def busOf (u : UnitId) : Bus := if u.val < 120 then .a else .b

/-- The address of a unit, 1 to 120. -/
def addressOf (u : UnitId) : Nat := u.val % 120 + 1

/-- A unit as a one-byte bus and a one-byte address. -/
def unitBytes (u : UnitId) : List Byte := byte (busCode (busOf u)) ++ byte (addressOf u)

/-- A unit that may be missing, two bytes of 0 where it is (R29, R204). -/
def optUnitBytes : Option UnitId → List Byte
  | none => [0, 0]
  | some u => unitBytes u

/-- A set of gates in one byte (chapter 11.1). -/
def gateSetByte (g : GateSet) : List Byte := byte g.toNat

/-! ## Events (chapter 11.4) -/

/-- An event in the 4 bytes READ EVENTS returns: the kind code and a 3-byte argument. -/
def Event.bytes : Event → List Byte
  | .forced u => byte 1 ++ unitBytes u ++ [0]
  | .ajar u => byte 2 ++ unitBytes u ++ [0]
  | .unitSilent u => byte 3 ++ unitBytes u ++ [0]
  | .unitBack u => byte 4 ++ unitBytes u ++ [0]
  | .unitTamper u => byte 5 ++ unitBytes u ++ [0]
  | .revokedCardSeen u => byte 6 ++ unitBytes u ++ [0]
  | .cardFault u => byte 7 ++ unitBytes u ++ [0]
  | .minibarTamper u => byte 8 ++ unitBytes u ++ [0]
  | .minibarOverdraft s => byte 9 ++ byte s.val ++ [0, 0]
  | .modeChanged m => byte 10 ++ byte m.code ++ [0, 0]
  | .evacLine a => byte 11 ++ byte (evacCode a) ++ [0, 0]
  | .clockSet => byte 12 ++ [0, 0, 0]
  | .peerLinkLost => byte 13 ++ [0, 0, 0]
  | .claimLost s r => byte 14 ++ byte s.val ++ byte r.code ++ [0]
  | .logThreshold n => byte 15 ++ [0] ++ be 2 n

/-! ## Entry records as read (chapter 11.5) -/

/-- A record's kind code (Table 11-5). -/
def Detail.code : Detail → Nat
  | .entry _ _ => 1
  | .entryUnattributed => 2
  | .evacPass _ _ => 3
  | .denial _ _ _ => 4
  | .grantUnused _ _ => 5
  | .grantCut _ _ => 6
  | .grantReplaced _ => 7
  | .cardFault _ => 8
  | .forced => 9
  | .ajar _ => 10
  | .minibarSession _ _ _ _ => 11
  | .minibarItem _ _ _ _ _ _ _ => 12
  | .returnUncredited _ _ => 13
  | .restock _ _ _ => 14
  | .stayCheckIn _ _ _ => 15
  | .stayChange _ _ => 15
  | .stayCheckOut _ => 15
  | .issue _ _ _ _ _ _ => 16
  | .revoke _ => 17
  | .suspend => 18
  | .resume => 19
  | .claimPreempt _ => 20
  | .settle _ _ _ _ _ => 21
  | .unitSilent _ _ => 23
  | .unitBack _ => 24
  | .unitTamper _ => 25
  | .readmit _ => 26
  | .modeChange _ _ => 27
  | .evac _ => 28
  | .evacClear => 29
  | .clockSet _ _ => 30
  | .linkExpired _ _ => 31
  | .start _ _ _ => 32

/-- The flags byte of a grant record (chapter 11.5). -/
def grantFlags (items : GrantItems) (revokedSince gatePulsed : Bool) : List Byte :=
  byte ((if items.acknowledged then 1 else 0) + (if items.evac then 2 else 0) + (if revokedSince then 4 else 0)
    + (if gatePulsed then 8 else 0))

/-- The items of a grant record in the order of R120: granted-at time, unlock seconds, flags byte. -/
def GrantItems.bytes (items : GrantItems) (revokedSince gatePulsed : Bool) : List Byte :=
  items.grantedAt.bytes ++ byte items.unlock ++ grantFlags items revokedSince gatePulsed

/-- Batch flags: FIRST 1, FINAL 2 (R46). -/
def batchFlags (first final : Bool) : Nat := (if first then 1 else 0) + (if final then 2 else 0)

/-- An item some records of a kind do not carry; it takes no byte of the detail then. DEDUCED, log entry 7. -/
def optByte : Option Nat → List Byte
  | none => []
  | some n => byte n

/-- A record's detail: the items Tables 8-1 to 8-4 list for its kind, in their order, at the widths of chapter 11.5. -/
def Detail.bytes : Detail → List Byte
  | .entry items since => items.bytes since false
  | .entryUnattributed => []
  | .evacPass side unlock => byte side.code ++ byte unlock
  | .denial reason side slot => byte reason.code ++ byte side.code ++ optByte (slot.map Fin.val)
  | .grantUnused items pulsed => items.bytes false pulsed
  | .grantCut items cause => items.bytes false false ++ byte cause.code
  | .grantReplaced items => items.bytes false false
  | .cardFault side => byte side.code
  | .forced => []
  | .ajar limit => be 2 limit
  | .minibarSession kind reason seen sum => byte kind.code ++ byte reason.code ++ flag seen ++ be 2 sum
  | .minibarItem item removed returned credited charge credit guest =>
      byte item ++ byte removed ++ byte returned ++ byte credited ++ be 3 charge ++ be 3 credit ++ byte (if guest then 1 else 3)
  | .returnUncredited item count => byte item ++ byte count
  | .restock item removed returned => byte item ++ byte removed ++ byte returned
  | .stayCheckIn gen w count => byte 1 ++ byte gen ++ w.bytes ++ byte count
  | .stayChange old new => byte 2 ++ old.bytes ++ new.bytes
  | .stayCheckOut count => byte 3 ++ byte count
  | .issue cls number first final gen reclaimed =>
      byte cls ++ be 2 number ++ byte (batchFlags first final) ++ optByte gen ++ byte reclaimed
  | .revoke reason => byte reason.code
  | .suspend => []
  | .resume => []
  | .claimPreempt lease => byte lease
  | .settle charge overdraft remaining ceiling interim =>
      be 3 charge ++ be 3 overdraft ++ be 3 remaining ++ flag ceiling ++ byte (if interim then 1 else 2)
  | .unitSilent before gate => byte before.code ++ optByte (gate.map Fin.val)
  | .unitBack gate => optByte (gate.map Fin.val)
  | .unitTamper gate => optByte (gate.map Fin.val)
  | .readmit u => unitBytes u
  | .modeChange old new => byte old.code ++ byte new.code
  | .evac before => byte before.code
  | .evacClear => []
  | .clockSet old new => be 4 old ++ be 4 new
  | .linkExpired claims policy => byte claims ++ byte policy.code
  | .start warm grants sessions => byte (if warm then 2 else 1) ++ byte grants ++ byte sessions

/-- A record's source type and unit address (chapter 11.5, bytes 10 and 11). -/
def Source.bytes : Source → List Byte
  | .unit u => byte (busCode (busOf u)) ++ byte (addressOf u)
  | .port p => byte (portCode p + 2) ++ [0]
  | .evacLine => [5, 0]
  | .controller => [6, 0]

/-- The presence byte: bit 0 card number, bit 1 room slot, bit 2 gap (chapter 11.5). -/
def LogRecord.presence (r : LogRecord) : List Byte :=
  byte ((if r.formed.card.isSome then 1 else 0) + (if r.formed.room.isSome then 2 else 0) + (if r.gap.isSome then 4 else 0))

/-- A record in the 32 bytes READ LOG returns (chapter 11.5). -/
def LogRecord.bytes (r : LogRecord) : List Byte :=
  let detail := r.formed.detail.bytes
  be 4 r.seq ++ r.formed.time.bytes ++ byte r.formed.detail.code ++ r.formed.source.bytes ++ r.presence
    ++ orZero 3 r.formed.card ++ orZero 1 (r.formed.room.map Fin.val) ++ orZero 2 r.gap ++ byte detail.length
    ++ detail ++ List.replicate (12 - detail.length) 0

end Sys2Proof.Machine
end

