-- ==== Sys2Proof/Machine/Flags.lean ====
section
/-! DEFINITION. The flags of a station port: ATTN, and the three flags every response carries (R185, R186). -/

namespace Sys2Proof.Machine

open Sys2Proof

/-- ATTN is asserted while the response slot is full or an event is queued (R186). -/
def PortState.attnLevel (q : PortState) : Bool := q.slot.isSome || !q.events.isEmpty

/-- The port with ATTN following its slot and its queue (R186). -/
def PortState.withAttn (q : PortState) : PortState := { q with attn := q.attnLevel }

/-- What a response transaction sends: the slot's response, or NONE with an empty body, and the flags as they stand (R185). -/
def PortState.fix (q : PortState) : Fixed :=
  let r := q.slot.getD { status := .none, body := [] }
  { status := r.status, overrun := q.overrun, eventsPending := !q.events.isEmpty, eventsLost := q.eventsLost, body := r.body }

/-- The flags byte of a response: bit 0 OVERRUN, bit 1 EVENTS_PENDING, bit 2 EVENTS_LOST (chapter 11.4). -/
def Fixed.flags (f : Fixed) : Nat :=
  (if f.overrun then 1 else 0) + (if f.eventsPending then 2 else 0) + (if f.eventsLost then 4 else 0)

/-- A response as the port sends it: status code, flags, body length and body (chapter 11.4). -/
def Fixed.bytes (f : Fixed) : List Byte := byte f.status.code ++ byte f.flags ++ be 2 f.body.length ++ f.body

end Sys2Proof.Machine
end

