-- ==== Sys2Proof/Machine/Operands.lean ====
section
/-! DEFINITION. The fields of request bodies: which values a field may hold, and what it names (R202 and each request's own
rule). A field that names nothing gives `none`, and the request's rule then refuses it with BAD_VALUE. -/

namespace Sys2Proof.Machine

open Sys2Proof

/-- A room slot, 0 to 127 (R24, step 2). -/
def slotOf? (b : Byte) : Option Slot := if h : b.toNat < 128 then some ⟨b.toNat, h⟩ else none

/-- A credential class, entrance class or other index 0 to 7 (R110, R111, R112). -/
def indexOf? (b : Byte) : Option (Fin 8) := if h : b.toNat < 8 then some ⟨b.toNat, h⟩ else none

/-- A bus (chapter 11.1). -/
def busOf? (b : Byte) : Option Bus := if b = 1 then some .a else if b = 2 then some .b else none

/-- The unit of a bus at an address, 1 to 120 (R72). -/
def unitAt? (bus : Bus) (address : Nat) : Option UnitId :=
  if h : 1 ≤ address ∧ address ≤ 120 then
    match bus with
    | .a => some ⟨address - 1, by omega⟩
    | .b => some ⟨address + 119, by omega⟩
  else none

/-- A unit named by a bus field and an address field (R72, R74, R75, R90). -/
def unitOf? (bus address : Byte) : Option UnitId := (busOf? bus).bind fun b => unitAt? b address.toNat

/-- A gate number, 0 to 5 (R72). -/
def gateOf? (b : Byte) : Option Gate := if h : b.toNat < 6 then some ⟨b.toNat, h⟩ else none

/-- A set of gates; bits 6 and 7 name no gate (R202). -/
def gateSetOf? (b : Byte) : Option GateSet := if b.toNat < 64 then some (BitVec.ofNat 6 b.toNat) else none

/-- A gate level (chapter 11.1). -/
def levelOf? (b : Byte) : Option GateLevel := if b = 1 then some .opened else if b = 2 then some .shut else none

/-- A log policy (chapter 11.1). -/
def policyOf? (b : Byte) : Option Policy := if b = 1 then some .hold else if b = 2 then some .yields else none

/-- A mode SET MODE may ask: NORMAL, STORM or LOCKDOWN (R159). -/
def modeOf? (b : Byte) : Option WingMode :=
  if b = 0 then some .normal else if b = 1 then some .storm else if b = 2 then some .lockdown else none

/-- A reason REVOKE may give: LOST, RETURNED or WITHDRAWN (R60). -/
def reasonOf? (b : Byte) : Option RevokeReason :=
  if b = 3 then some .lost else if b = 4 then some .returned else if b = 5 then some .withdrawn else none

/-- A condition code, 0 to 15 (R109). -/
def conditionOf? (b : Byte) : Option Condition :=
  match b.toNat with
  | 0 => some .always
  | 1 => some .never
  | 2 => some .notPrivate
  | 3 => some .roomLet
  | 4 => some .roomVacant
  | 5 => some .roomNotHeld
  | 6 => some .onShift
  | 7 => some .onShiftNotPrivate
  | 8 => some .modeNormal
  | 9 => some .notLockdown
  | 10 => some .letNotPrivate
  | 11 => some .vacantOrHeld
  | 12 => some .onShiftNotLockdown
  | 13 => some .notExposedClosed
  | 14 => some .notPrivateNotLockdown
  | 15 => some .onShiftVacantOrHeld
  | _ => none

/-- A unit kind other than ABSENT. The room slot is read only for a ROOM_LOCK or MINIBAR_LOCK and the gate number only for a
GATE_READER; one out of range where it is read names no kind (R72, step 1). -/
def kindOf? (kind slot gate : Byte) : Option UnitKind :=
  match kind.toNat with
  | 1 => (slotOf? slot).map .roomLock
  | 2 => some .passageLock
  | 3 => (slotOf? slot).map .minibarLock
  | 4 => (gateOf? gate).map .gateReader
  | _ => none

/-- A reader side (chapter 11.1). -/
def sideOf? (b : Byte) : Option Side := if b = 1 then some .inner else if b = 2 then some .outer else none

/-- A flag byte: 0 for clear, any other value for set (chapter 11.1). -/
def flagOf (b : Byte) : Bool := b ≠ 0

/-- A (day, minute) field as a moment. -/
def momentOf (d : DayMinute) : Moment := { day := d.day.toNat, minute := d.minute.toNat }

/-- A field clamped to a range (chapter 5.4 of the scope, R202). -/
def clamp (low high n : Nat) : Nat := max low (min high n)

end Sys2Proof.Machine
end

