-- ==== Sys2Proof/Machine/RequestTable.lean ====
section
/-! DEFINITION. What is fixed of each request: its code and body length (Table 11-3), the ports it is allowed from (R187) and
whether it is taken while the port's link is lost (R194). -/

namespace Sys2Proof

/-- The request code (Table 11-3). -/
def Request.code : Request → Nat
  | .checkIn => 0x01
  | .addCards => 0x02
  | .changeStay => 0x03
  | .checkOut => 0x04
  | .settle => 0x05
  | .setPrices => 0x06
  | .setReserve => 0x07
  | .setGrace => 0x08
  | .configureRoom => 0x10
  | .removeRoom => 0x11
  | .holdRoom => 0x12
  | .freeRoom => 0x13
  | .configureUnit => 0x14
  | .removeUnit => 0x15
  | .readmitUnit => 0x16
  | .issueStaff => 0x17
  | .suspend => 0x18
  | .resume => 0x19
  | .setSite => 0x1A
  | .setCondition => 0x1B
  | .setEntranceClass => 0x1C
  | .setShift => 0x1D
  | .setGate => 0x1E
  | .addScheduleEntry => 0x1F
  | .removeScheduleEntry => 0x20
  | .clearSchedule => 0x21
  | .setMode => 0x22
  | .restore => 0x23
  | .clearBusCounters => 0x24
  | .claim => 0x30
  | .releaseClaim => 0x31
  | .revoke => 0x32
  | .setClock => 0x33
  | .readClock => 0x34
  | .readRoom => 0x35
  | .readCard => 0x36
  | .readUnit => 0x37
  | .readBus => 0x38
  | .readGates => 0x39
  | .readLog => 0x3A
  | .setLogPolicy => 0x3B
  | .setLogThreshold => 0x3C
  | .readEvents => 0x3D
  | .setSupervision => 0x3E
  | .keepalive => 0x3F
  | .identify => 0x40

/-- The body length (Table 11-3). -/
def Request.bodyLength : Request → Nat
  | .checkIn => 14
  | .addCards => 3
  | .changeStay => 5
  | .checkOut => 1
  | .settle => 1
  | .setPrices => 24
  | .setReserve => 2
  | .setGrace => 1
  | .configureRoom => 3
  | .removeRoom => 1
  | .holdRoom => 1
  | .freeRoom => 1
  | .configureUnit => 6
  | .removeUnit => 2
  | .readmitUnit => 2
  | .issueStaff => 12
  | .suspend => 3
  | .resume => 3
  | .setSite => 2
  | .setCondition => 3
  | .setEntranceClass => 5
  | .setShift => 5
  | .setGate => 2
  | .addScheduleEntry => 4
  | .removeScheduleEntry => 1
  | .clearSchedule => 0
  | .setMode => 1
  | .restore => 0
  | .clearBusCounters => 1
  | .claim => 2
  | .releaseClaim => 1
  | .revoke => 4
  | .setClock => 4
  | .readClock => 0
  | .readRoom => 1
  | .readCard => 3
  | .readUnit => 2
  | .readBus => 1
  | .readGates => 0
  | .readLog => 1
  | .setLogPolicy => 1
  | .setLogThreshold => 2
  | .readEvents => 1
  | .setSupervision => 1
  | .keepalive => 2
  | .identify => 0

/-- Every request, in the order of the codes. -/
def Request.all : List Request :=
  [.checkIn, .addCards, .changeStay, .checkOut, .settle, .setPrices, .setReserve, .setGrace, .configureRoom, .removeRoom,
   .holdRoom, .freeRoom, .configureUnit, .removeUnit, .readmitUnit, .issueStaff, .suspend, .resume, .setSite, .setCondition,
   .setEntranceClass, .setShift, .setGate, .addScheduleEntry, .removeScheduleEntry, .clearSchedule, .setMode, .restore,
   .clearBusCounters, .claim, .releaseClaim, .revoke, .setClock, .readClock, .readRoom, .readCard, .readUnit, .readBus,
   .readGates, .readLog, .setLogPolicy, .setLogThreshold, .readEvents, .setSupervision, .keepalive, .identify]

/-- The request a code names (R183, step 2). -/
def Request.ofCode? (code : Nat) : Option Request := Request.all.find? (fun r => r.code == code)

/-- The permission table (R187). -/
def Request.permitted (r : Request) (p : Port) : Bool :=
  if r.code < 0x10 then p == .fo else if r.code < 0x30 then p == .se else true

/-- The requests that are taken while the port's link is lost (R194). -/
def Request.takenWhenLost (r : Request) : Bool := r == .keepalive || r == .readEvents || r == .identify

end Sys2Proof
end

