-- ==== Sys2Proof/Machine/Ops.lean ====
section
/-! DEFINITION. The named operations over the state that the meanings share: access to ports, buses and records, events and
the entry log, the response slot, the station port's own checks and the claim check. -/

namespace Sys2Proof.Machine

open Sys2Proof

/-! ## Access -/

/-- The port that is not `p`. -/
def otherPort : Port → Port
  | .fo => .se
  | .se => .fo

def State.port (s : State) : Port → PortState
  | .fo => s.fo
  | .se => s.se

def State.setPort (s : State) (p : Port) (q : PortState) : State :=
  match p with
  | .fo => { s with fo := q }
  | .se => { s with se := q }

def State.bus (s : State) : Bus → BusState
  | .a => s.busA
  | .b => s.busB

def State.setBus (s : State) (b : Bus) (c : BusState) : State :=
  match b with
  | .a => { s with busA := c }
  | .b => { s with busB := c }

def State.setUnit (s : State) (u : UnitId) (r : UnitRec) : State := { s with units := s.units.set u r }

def State.setGrant (s : State) (u : UnitId) (g : Option Grant) : State := { s with grants := s.grants.set u g }

def State.setAjar (s : State) (u : UnitId) (t : Option AjarTimer) : State := { s with ajar := s.ajar.set u t }

def State.setSession (s : State) (u : UnitId) (x : Option Session) : State := { s with sessions := s.sessions.set u x }

def State.setRoom (s : State) (i : Slot) (r : Room) : State := { s with rooms := s.rooms.set i r }

def State.setClaim (s : State) (i : Slot) (c : Option Claim) : State := { s with claims := s.claims.set i c }

def State.setAccount (s : State) (i : Slot) (a : Account) : State := { s with accounts := s.accounts.set i a }

/-- Sets a unit's relock pending; setting it when it is set leaves it set (R85). -/
def State.setRelock (s : State) (u : UnitId) : State := s.setUnit u { s.units[u] with relock := true }

/-- Sets a room's privacy (R38, R39). -/
def State.setPrivacy (s : State) (i : Slot) (p : Privacy) : State := s.setRoom i { s.rooms[i] with privacy := p }

/-- The room slot a unit of this kind is bound to; a passage lock and a gate reader have none (chapter 5.1). -/
def UnitKind.slot? : UnitKind → Option Slot
  | .roomLock i => some i
  | .minibarLock i => some i
  | _ => none

/-- The gate number of a gate reader. -/
def UnitKind.gate? : UnitKind → Option Gate
  | .gateReader g => some g
  | _ => none

/-- A unit's room, where it is bound to one. -/
def State.unitSlot (s : State) (u : UnitId) : Option Slot := s.units[u].kind.slot?

/-- A gate reader's gate. -/
def State.unitGate (s : State) (u : UnitId) : Option Gate := s.units[u].kind.gate?

/-- Every unit in the order R116 and R136 take them: bus A in ascending address order, then bus B. -/
def allUnits : List UnitId := List.finRange 240

/-- Every room slot, ascending (R36). -/
def allSlots : List Slot := List.finRange 128

/-- The room's room lock, if one is bound (chapter 2.1). -/
def State.roomLockOf (s : State) (i : Slot) : Option UnitId := allUnits.find? fun u => s.units[u].kind == .roomLock i

/-- The room's minibar lock, if one is bound (chapter 2.1). -/
def State.minibarLockOf (s : State) (i : Slot) : Option UnitId := allUnits.find? fun u => s.units[u].kind == .minibarLock i

/-- Whether the part runs: no start in progress, RST released and main power present (R199). -/
def State.running (s : State) : Bool :=
  match s.power.phase with
  | .running => true
  | _ => false

/-! ## Events (R189) -/

/-- Queues an event at a port, or drops it and sets EVENTS_LOST where the queue holds 16. -/
def PortState.queue (q : PortState) (e : Event) : PortState :=
  if q.events.length < Config.maxEvents then { q with events := q.events ++ [e] }.withAttn else { q with eventsLost := true }

/-- Queues an event at port `p`. -/
def State.raise (s : State) (p : Port) (e : Event) : State := s.setPort p ((s.port p).queue e)

/-- Queues an event at both ports, each on its own. -/
def State.raiseBoth (s : State) (e : Event) : State := (s.raise .fo e).raise .se e

/-! ## The entry log (chapter 8) -/

def EntryLog.reader (l : EntryLog) : Port → Reader
  | .fo => l.fo
  | .se => l.se

def EntryLog.setReader (l : EntryLog) (p : Port) (r : Reader) : EntryLog :=
  match p with
  | .fo => { l with fo := r }
  | .se => { l with se := r }

/-- The distance from a sequence number forward to another, counted with wrapping (R168). -/
def seqDistance (start stop : Nat) : Nat :=
  if start ≤ stop then stop - start else Config.seqModulus - (start - stop)

/-- A port's unread count (R175). -/
def EntryLog.unread (l : EntryLog) (p : Port) : Nat := seqDistance (l.reader p).cursor l.next

/-- Whether a HOLD cursor stands on this sequence number (R170). -/
def EntryLog.heldAt (l : EntryLog) (seq : Nat) : Bool :=
  (l.fo.policy == .hold && l.fo.cursor == seq) || (l.se.policy == .hold && l.se.cursor == seq)

/-- A saturating 16-bit count raised by one (R92, R171, R172). -/
def countUp (n : Nat) : Nat := min Config.countCeiling (n + 1)

/-- The next sequence number, 4,294,967,295 followed by 0 (R168). -/
def nextSeq (n : Nat) : Nat := (n + 1) % Config.seqModulus

/-- A cursor standing on the discarded record moves to the record after it, and the skipped count rises (R172). -/
def Reader.skip (r : Reader) (seq : Nat) : Reader :=
  if r.cursor = seq then { r with cursor := nextSeq seq, skipped := countUp r.skipped } else r

/-- The log with its oldest record discarded (R172). -/
def EntryLog.discard (l : EntryLog) : EntryLog :=
  match l.records with
  | [] => l
  | oldest :: rest => { l with records := rest, fo := l.fo.skip oldest.seq, se := l.se.skip oldest.seq }

/-- The log with a record stored at the newest end (R168), carrying the lost count as its gap where that is above 0 (R173). -/
def EntryLog.store (l : EntryLog) (r : Formed) : EntryLog :=
  { l with
    records := l.records ++ [{ seq := l.next, formed := r, gap := if l.lost = 0 then none else some l.lost }]
    next := nextSeq l.next
    lost := 0 }

/-- Whether a record handed over now is lost: the log is full and a HOLD cursor stands on its oldest record (R170). -/
def EntryLog.blocked (l : EntryLog) : Bool :=
  match l.records with
  | [] => false
  | oldest :: _ => decide (Config.maxRecords ≤ l.records.length) && l.heldAt oldest.seq

/-- A record handed to the log: stored, stored after the oldest is discarded, or lost (R170, R171). -/
def EntryLog.offer (l : EntryLog) (r : Formed) : EntryLog :=
  if l.records.length < Config.maxRecords then l.store r
  else if l.blocked then { l with lost := countUp l.lost }
  else l.discard.store r

/-- The threshold test of one port after an append: a LOG_THRESHOLD event where the store raised the port's unread count and
raised it to the threshold (R181). -/
def State.notify (s : State) (before : EntryLog) (p : Port) : State :=
  if s.log.unread p = before.unread p + 1 ∧ s.log.unread p = (s.log.reader p).threshold
  then s.raise p (.logThreshold (s.log.unread p)) else s

/-- The clock's reading, as records carry it. -/
def State.now (s : State) : Time := { day := s.clock.day, minute := s.clock.minute, second := s.clock.second }

/-- A record as a block forms it at this moment (R166). -/
def State.form (s : State) (source : Source) (card : Option Nat) (room : Option Slot) (detail : Detail) : Formed :=
  { time := s.now, source := source, card := card, room := room, detail := detail }

/-- Appends a record to the entry log with the threshold test for both ports (R170, R181). -/
def State.append (s : State) (source : Source) (card : Option Nat) (room : Option Slot) (detail : Detail) : State :=
  (({ s with log := s.log.offer (s.form source card room detail) }).notify s.log .fo).notify s.log .se

/-- Appends a record whose source is a unit; its room slot is the unit's room, where it is bound (R166). -/
def State.appendUnit (s : State) (u : UnitId) (card : Option Nat) (detail : Detail) : State :=
  s.append (.unit u) card (s.unitSlot u) detail

/-! ## Responses and requests (chapter 9) -/

/-- What a request's own rule gives: the state with its effects, and its response. -/
abbrev Reply := State × Response

/-- A refusal with an empty body and no effect (R188). -/
def refuse (st : Status) (s : State) : Reply := (s, { status := st, body := [] })

/-- A request carried out, answered OK with this body. -/
def accept (s : State) (body : List Byte) : Reply := (s, { status := .ok, body := body })

/-- Places a response in a port's slot (R183, R186). -/
def State.respond (s : State) (p : Port) (r : Response) : State := s.setPort p { s.port p with slot := some r }.withAttn

/-- The port sends bytes of value 0 during a request transaction (R182); a transaction of this request has two bytes and its
body after the first byte. -/
def State.sendZeros (s : State) (p : Port) (length : Nat) : State :=
  s.setPort p { s.port p with sent := List.replicate length 0 }

/-- A request transaction taken with the slot full is discarded, and OVERRUN is set (R184). -/
def State.overrun (s : State) (p : Port) : State := s.setPort p { s.port p with overrun := true }

/-- The station port's own check of a known request of the right length: permission, then the link (R183 step 4, R187, R194). -/
def State.portCheck (s : State) (rq : Request) (p : Port) : Option Status :=
  if !rq.permitted p then some .notPermitted
  else if (s.port p).linkLost && !rq.takenWhenLost then some .linkLost
  else none

/-- A request answered: refused by the station port's checks, or carried out whole by its own rule (R183). -/
def State.answerRequest (s : State) (rq : Request) (p : Port) (rule : State → Reply) : State :=
  match s.portCheck rq p with
  | some st => s.respond p { status := st, body := [] }
  | none => (rule s).1.respond p (rule s).2

/-- A request transaction of the right length taken from port `p`. The part takes none unless it runs (R199); with the slot
full it is discarded (R184); otherwise it is answered. -/
def State.takeRequest (s : State) (rq : Request) (p : Port) (rule : State → Reply) : State :=
  if !s.running then s
  else if (s.port p).slot.isSome then (s.sendZeros p (2 + rq.bodyLength)).overrun p
  else (s.sendZeros p (2 + rq.bodyLength)).answerRequest rq p rule

/-! ## Claims (chapter 2.4) -/

/-- The holder of a room's claim. -/
def State.holder (s : State) (i : Slot) : Option Port := s.claims[i].map Claim.holder

/-- The lease remaining, 0 where there is no holder. -/
def State.leaseOf (s : State) (i : Slot) : Nat := (s.claims[i].map Claim.lease).getD 0

/-- Gives a room's claim to a port with a full lease (R31, R34). -/
def State.loadLease (s : State) (i : Slot) (p : Port) : State :=
  s.setClaim i (some { holder := p, lease := Config.leaseSeconds })

/-- The part of a claimed request that follows the claim check; a request answered OK loads the lease (R34). -/
def renewing (p : Port) (i : Slot) (r : Reply) : Reply := if r.2.status = .ok then (r.1.loadLease i p, r.2) else r

/-- A claimed request that names a room, by R24 from step 2: the fields, the claim, and then its own rule, which begins with
the room's state. -/
def claimed (p : Port) (slot : Byte) (fieldsOk : Bool) (rule : Slot → State → Reply) (s : State) : Reply :=
  match slotOf? slot with
  | none => refuse .badValue s
  | some i =>
    if !fieldsOk then refuse .badValue s
    else if s.holder i ≠ some p then refuse .notClaimed s
    else renewing p i (rule i s)

/-! ## Elapsed timers (R10) -/

/-- Every running elapsed timer lowered by one by a second tick; the tick then takes the expiry of each count it brought to 0
(R10). -/
def State.tickTimers (s : State) : State :=
  { s with
    claims := s.claims.map fun c => c.map fun c => { c with lease := c.lease - 1 }
    grants := s.grants.map fun g => g.map fun g => { g with expiry := g.expiry - 1 }
    ajar := s.ajar.map fun t => t.map fun t => { t with remaining := t.remaining - 1 }
    sessions := s.sessions.map fun x => x.map fun x =>
      match x.phase with
      | .awaitingOpen n => { x with phase := .awaitingOpen (n - 1) }
      | .inUse => x
    gates := { s.gates with pulses := s.gates.pulses.map fun p => p.map fun n => n - 1 }
    fo := { s.fo with timer := s.fo.timer.map fun n => n - 1 }
    se := { s.se with timer := s.se.timer.map fun n => n - 1 } }

end Sys2Proof.Machine
end

