-- ==== Sys2Proof/Machine/TimeWindows.lean ====
section
/-! DEFINITION. The arithmetic of resort time, windows and shifts (chapter 1). -/

namespace Sys2Proof.Machine

open Sys2Proof

/-- The minute index of a day and a minute of day (R5). -/
def Moment.index (m : Moment) : Nat := m.day * 1440 + m.minute

/-- A minute index turned back into a day and a minute (R5). -/
def Moment.ofIndex (n : Nat) : Moment := { day := n / 1440, minute := n % 1440 }

/-- The clock's present day and minute. -/
def Clock.moment (c : Clock) : Moment := { day := c.day, minute := c.minute }

/-- The present minute index (R5). -/
def State.nowIndex (s : State) : Nat := s.clock.moment.index

/-- The clock after a second tick, and whether a minute tick was produced (R2, R3). The prescaler returns to 0 (R1). -/
def Clock.tick (c : Clock) : Clock × Bool :=
  let c := { c with prescaler := 0 }
  if c.clockEnd then (c, false)
  else if c.second < 59 then
    ({ c with second := c.second + 1, clockEnd := decide (c.day = 65535 ∧ c.minute = 1439 ∧ c.second + 1 = 59) }, false)
  else if c.minute < 1439 then ({ c with second := 0, minute := c.minute + 1 }, true)
  else ({ c with second := 0, minute := 0, day := c.day + 1 }, true)

/-- Steps 1 to 3 of R12: both minutes in range, the end after the start, and the end after the present index. R13 applies the
same checks to a staff window. -/
def windowChecks (start stop : Moment) (present : Nat) : Bool :=
  decide (start.minute ≤ 1439 ∧ stop.minute ≤ 1439 ∧ start.index < stop.index ∧ present < stop.index)

/-- The window derivation of a room-bound card: `none` is a refusal with BAD_WINDOW (R12). -/
def deriveWindow (arrival departure : Moment) (grace present : Nat) : Option Window :=
  if windowChecks arrival departure present then
    some { start := arrival, stop := Moment.ofIndex (min Config.lastMinuteIndex (departure.index + grace)) }
  else none

/-- The window test at a decision: EARLY, EXPIRED, or `none` where the test passes (R14). -/
def windowTest (w : Window) (present : Nat) : Option Reason :=
  if present < w.start.index then some .early else if w.stop.index ≤ present then some .expired else none

/-- The shift test (R15). -/
def Shift.covers (h : Shift) (minute : Nat) : Bool :=
  if h.opens < h.closes then decide (h.opens ≤ minute ∧ minute < h.closes)
  else if h.closes < h.opens then decide (h.opens ≤ minute ∨ minute < h.closes)
  else true

end Sys2Proof.Machine
end

