-- ==== Sys2Proof/Machine/Gates.lean ====
section
/-! DEFINITION. The Gate Controller (chapter 7.1 to 7.6): the output function, the scheduled levels, pulses, and the requests
that set and read the gates. -/

namespace Sys2Proof.Machine

open Sys2Proof

/-- Whether a set of gates holds a gate. -/
def hasGate (gates : GateSet) (g : Gate) : Bool := gates.getLsbD g.val

/-- The output function of a gate (R156). A pulse whose expiry is due has not stopped yet and still counts as running. -/
def outputLevel (gates : Gates) (mode : WingMode) (g : Gate) : GateLevel :=
  if !hasGate gates.enabled g then .shut
  else if mode = .evacuation then .opened
  else if gates.pulses[g].isSome then .opened
  else if mode = .lockdown then .shut
  else if mode = .storm ∧ hasGate gates.exposed g then .shut
  else gates.scheduled[g]

/-- Every output as the output function gives it in this mode (R156). -/
def Gates.applyOutputs (gates : Gates) (mode : WingMode) : Gates :=
  { gates with outputs := Vector.ofFn (outputLevel gates mode) }

/-- The outputs set again (R156). -/
def State.setOutputs (s : State) : State := { s with gates := s.gates.applyOutputs s.wing.mode }

/-- The scheduled level of a gate at a minute of day, from the whole schedule (R152). -/
def scheduledLevel (schedule : List ScheduleEntry) (minute : Nat) (g : Gate) : GateLevel :=
  let naming := schedule.filter fun e => hasGate e.gates g
  match (naming.filter fun e => decide (e.minute ≤ minute)).getLast? with
  | some e => e.level
  | none =>
    match naming.getLast? with
    | some e => e.level
    | none => .shut

/-- A working of the scheduled levels of all six gates for a minute of day (R152). -/
def Gates.work (gates : Gates) (minute : Nat) : Gates :=
  { gates with scheduled := Vector.ofFn (scheduledLevel gates.schedule minute), lastWorking := minute }

/-- The scheduled levels worked out for the clock's present minute of day, and the outputs set again (R152, R153). -/
def State.workLevels (s : State) : State := ({ s with gates := s.gates.work s.clock.minute }).setOutputs

/-- A grant at a reader of this gate: the pulse of an enabled gate is loaded, unless the grant is an evac pass, and the outputs
are set again; the answer says whether a pulse was started (R154). -/
def State.loadPulse (s : State) (g : Gate) (unlock : Nat) (evac : Bool) : State × Bool :=
  if hasGate s.gates.enabled g && !evac then
    (({ s with gates := { s.gates with pulses := s.gates.pulses.set g (some unlock) } }).setOutputs, true)
  else (s, false)

/-- A gate pulse's expiry, where it is due: the pulse stops and the outputs are set again (R155). -/
def expirePulse (g : Gate) (s : State) : State :=
  if s.running && decide (s.gates.pulses[g] = some 0) then
    ({ s with gates := { s.gates with pulses := s.gates.pulses.set g none } }).setOutputs
  else s

/-- GATE_PULSE_EXPIRY (R155). -/
def execGatePulseExpiry (g : Gate) (s : State) : Host.Outcome State Fault Refusal := .next (expirePulse g s)

/-- The six gates' outputs, one byte each. -/
def outputBytes (gates : Gates) : List Byte := gates.outputs.toList.flatMap fun l => byte l.code

/-- SET GATE (R148). -/
def setGate (enabled exposed : Byte) (s : State) : Reply :=
  match gateSetOf? enabled, gateSetOf? exposed with
  | some en, some ex =>
    let pulses := Vector.ofFn fun g : Gate => if hasGate en g then s.gates.pulses[g] else none
    let s := ({ s with gates := { s.gates with enabled := en, exposed := ex, pulses := pulses } }).setOutputs
    accept s (gateSetByte en ++ gateSetByte ex ++ outputBytes s.gates)
  | _, _ => refuse .badValue s

def execSetGate (p : Port) (enabled exposed : Byte) (s : State) : Host.Outcome State Fault Refusal :=
  .next (s.takeRequest .setGate p (setGate enabled exposed))

/-- The place an entry takes: after every entry whose minute is equal to or less than its own (R150). -/
def insertPosition (schedule : List ScheduleEntry) (minute : Nat) : Nat :=
  (schedule.takeWhile fun e => decide (e.minute ≤ minute)).length

/-- The schedule with an entry inserted at its place (R150). -/
def insertEntry (schedule : List ScheduleEntry) (e : ScheduleEntry) : List ScheduleEntry :=
  schedule.takeWhile (fun x => decide (x.minute ≤ e.minute)) ++ e :: schedule.dropWhile fun x => decide (x.minute ≤ e.minute)

/-- ADD SCHEDULE ENTRY (R150). -/
def addScheduleEntry (minute : Half) (gates level : Byte) (s : State) : Reply :=
  match gateSetOf? gates, levelOf? level with
  | some gs, some lv =>
    if 1439 < minute.toNat ∨ gs = 0 then refuse .badValue s
    else if Config.maxSchedule ≤ s.gates.schedule.length then refuse .tableFull s
    else
      let e : ScheduleEntry := { minute := minute.toNat, gates := gs, level := lv }
      accept { s with gates := { s.gates with schedule := insertEntry s.gates.schedule e } }
        (byte (insertPosition s.gates.schedule e.minute) ++ byte (s.gates.schedule.length + 1))
  | _, _ => refuse .badValue s

def execAddScheduleEntry (p : Port) (minute : Half) (gates level : Byte) (s : State) : Host.Outcome State Fault Refusal :=
  .next (s.takeRequest .addScheduleEntry p (addScheduleEntry minute gates level))

/-- A schedule entry's minute, gate set and level. -/
def ScheduleEntry.bytes (e : ScheduleEntry) : List Byte := be 2 e.minute ++ gateSetByte e.gates ++ byte e.level.code

/-- REMOVE SCHEDULE ENTRY (R151). -/
def removeScheduleEntry (position : Byte) (s : State) : Reply :=
  if 31 < position.toNat then refuse .badValue s
  else
    match s.gates.schedule[position.toNat]? with
    | none => refuse .notFound s
    | some e =>
      let schedule := s.gates.schedule.eraseIdx position.toNat
      accept { s with gates := { s.gates with schedule := schedule } } (e.bytes ++ byte schedule.length)

def execRemoveScheduleEntry (p : Port) (position : Byte) (s : State) : Host.Outcome State Fault Refusal :=
  .next (s.takeRequest .removeScheduleEntry p (removeScheduleEntry position))

/-- CLEAR SCHEDULE (R151). -/
def clearSchedule (s : State) : Reply :=
  accept { s with gates := { s.gates with schedule := [] } } (byte s.gates.schedule.length)

def execClearSchedule (p : Port) (s : State) : Host.Outcome State Fault Refusal :=
  .next (s.takeRequest .clearSchedule p clearSchedule)

/-- For each gate: its scheduled level, its pulse's remaining seconds and its output (R157). -/
def gateItems (gates : Gates) (g : Gate) : List Byte :=
  byte gates.scheduled[g].code ++ byte (gates.pulses[g].getD 0) ++ byte gates.outputs[g].code

/-- The schedule's entries in list order, each with its position (R157). -/
def scheduleBytes : Nat → List ScheduleEntry → List Byte
  | _, [] => []
  | n, e :: rest => byte n ++ e.bytes ++ scheduleBytes (n + 1) rest

/-- READ GATES (R157). -/
def readGates (s : State) : Reply :=
  accept s (byte s.wing.mode.code ++ byte (evacCode s.wing.evacSampled) ++ gateSetByte s.gates.enabled
    ++ gateSetByte s.gates.exposed ++ (List.finRange 6).flatMap (gateItems s.gates) ++ be 2 s.gates.lastWorking
    ++ byte s.gates.schedule.length ++ scheduleBytes 0 s.gates.schedule)

def execReadGates (p : Port) (s : State) : Host.Outcome State Fault Refusal :=
  .next (s.takeRequest .readGates p readGates)

end Sys2Proof.Machine
end

