-- ==== Sys2Proof/Machine/Minibar.lean ====
section
/-! DEFINITION. Minibar Accounts (chapter 6): charges and credits, sessions, item reports, and the requests that settle an
account and set the prices and the reserve. -/

namespace Sys2Proof.Machine

open Sys2Proof

/-- Whether a room is unsettled: a charge total or a tally count other than 0 (R19). -/
def Account.unsettled (a : Account) : Bool := decide (a.charge ≠ 0) || a.tally.toList.any fun n => decide (n ≠ 0)

def State.unsettled (s : State) (i : Slot) : Bool := s.accounts[i].unsettled

/-- A charge of `x` units (R139). -/
def Account.applyCharge (a : Account) (x : Nat) : Account :=
  if x = 0 then a
  else
    let met := decide (Config.chargeCeiling < a.charge + x)
    let a := { a with charge := min Config.chargeCeiling (a.charge + x), ceilingMet := a.ceilingMet || met }
    if x ≤ a.remaining then { a with remaining := a.remaining - x }
    else { a with overdraft := min Config.chargeCeiling (a.overdraft + (x - a.remaining)), remaining := 0 }

/-- The amount of a credit of `y` units that is applied: no more than the charge total (R140). -/
def Account.creditLimit (a : Account) (y : Nat) : Nat := min y a.charge

/-- A credit of `y` units (R140). -/
def Account.applyCredit (a : Account) (y : Nat) : Account :=
  let applied := a.creditLimit y
  let a := { a with charge := a.charge - applied }
  if applied ≤ a.overdraft then { a with overdraft := a.overdraft - applied }
  else { a with remaining := min a.granted (a.remaining + (applied - a.overdraft)), overdraft := 0 }

/-- A count raised by `r`, saturating at 255 (R141). -/
def itemsUp (n r : Nat) : Nat := if r = 0 then n else min Config.itemCeiling (n + r)

/-- Whether a charge took the overdraft from 0 to a value above 0 (R144). -/
def overdraftArose (before after : Account) : Bool := decide (before.overdraft = 0 ∧ 0 < after.overdraft)

/-- The event of R144, where the charge gave cause. -/
def State.raiseOverdraft (s : State) (i : Slot) (arose : Bool) : State := if arose then s.raise .fo (.minibarOverdraft i) else s

/-! ## Sessions -/

/-- Whether a session's opened seen is yes (chapter 6.4). -/
def Session.openedSeen (x : Session) : Bool :=
  match x.phase with
  | .awaitingOpen _ => false
  | .inUse => true

/-- The sum of the twelve removed-in-session counts (R137). -/
def Session.removedSum (x : Session) : Nat := x.removed.toList.foldl (· + ·) 0

/-- Ends the session open at a unit, if one is, with its record; the session tally falls (R137, R198). -/
def State.endSession (s : State) (u : UnitId) (reason : EndReason) : State :=
  match s.sessions[u] with
  | none => s
  | some x =>
    let s := s.setSession u none
    let s := { s with power := { s.power with sessionTally := s.power.sessionTally - 1 } }
    s.append (.unit u) (some x.card) (some x.slot) (.minibarSession x.kind reason x.openedSeen x.removedSum)

/-- Ends the session open at a unit and sets relock pending there, as check-out and evacuation do (R136). -/
def State.endSessionRelock (s : State) (u : UnitId) (reason : EndReason) : State :=
  if s.sessions[u].isSome then (s.setRelock u).endSession u reason else s

/-- The session at a unit when it is AWAITING OPEN ends UNOPENED; a session IN USE, or none, is left (R134). -/
def State.endUnopened (s : State) (u : UnitId) : State :=
  match s.sessions[u] with
  | some x => if x.openedSeen then s else s.endSession u .unopened
  | none => s

/-- A GRANT handed to Minibar Accounts: a session begins, or the one at the unit is kept, its timer loaded again while it is
AWAITING OPEN (R133). -/
def State.grantSession (s : State) (u : UnitId) (card : Nat) (guest : Bool) (slot : Slot) (expiry : Nat) : State :=
  match s.sessions[u] with
  | none =>
    let s := { s with power := { s.power with sessionTally := s.power.sessionTally + 1 } }
    s.setSession u (some { kind := if guest then .guest else .restock, card := card, slot := slot, removed := .replicate 12 0,
                           phase := .awaitingOpen expiry })
  | some x =>
    match x.phase with
    | .awaitingOpen _ => s.setSession u (some { x with phase := .awaitingOpen expiry })
    | .inUse => s

/-- An OPENED report at a minibar lock moves AWAITING OPEN to IN USE (R135). -/
def State.sessionOpened (s : State) (u : UnitId) : State :=
  match s.sessions[u] with
  | some x => s.setSession u (some { x with phase := .inUse })
  | none => s

/-- A CLOSED report at a minibar lock ends a session IN USE (R135). -/
def State.sessionClosed (s : State) (u : UnitId) : State :=
  match s.sessions[u] with
  | some x => if x.openedSeen then s.endSession u .closed else s
  | none => s

/-- A session expiry, where it is due, ends the session UNOPENED (R134). -/
def expireSession (u : UnitId) (s : State) : State :=
  match s.sessions[u] with
  | some x => if s.running && decide (x.phase = .awaitingOpen 0) then s.endSession u .unopened else s
  | none => s

/-- MINIBAR_SESSION_EXPIRY (R134). -/
def execMinibarSessionExpiry (u : UnitId) (s : State) : Host.Outcome State Fault Refusal := .next (expireSession u s)

/-! ## Item reports -/

/-- An ITEMS report within a GUEST session (R141). -/
def State.guestItems (s : State) (u : UnitId) (x : Session) (item : Fin 12) (removed returned : Nat) : State :=
  let price := s.prices[item]
  let before := s.accounts[x.slot]
  let charge := price * removed
  let charged := before.applyCharge charge
  let charged := { charged with tally := charged.tally.set item (itemsUp charged.tally[item] removed) }
  let inSession := itemsUp x.removed[item] removed
  let credited := min returned inSession
  let credit := charged.creditLimit (price * credited)
  let settled := charged.applyCredit (price * credited)
  let settled := { settled with tally := settled.tally.set item (settled.tally[item] - credited) }
  let s := (s.setAccount x.slot settled).setSession u (some { x with removed := x.removed.set item (inSession - credited) })
  let s := if 0 < removed ∨ 0 < returned then
      s.append (.unit u) (some x.card) (some x.slot) (.minibarItem item removed returned credited charge credit true)
    else s
  let s := if credited < returned then
      s.append (.unit u) (some x.card) (some x.slot) (.returnUncredited item (returned - credited))
    else s
  s.raiseOverdraft x.slot (overdraftArose before charged)

/-- An ITEMS report within a RESTOCK session (R142). -/
def State.restockItems (s : State) (u : UnitId) (x : Session) (item : Fin 12) (removed returned : Nat) : State :=
  if 0 < removed ∨ 0 < returned then s.append (.unit u) (some x.card) (some x.slot) (.restock item removed returned) else s

/-- An ITEMS report with no session, against the unit's room (R143). -/
def State.looseItems (s : State) (u : UnitId) (slot : Slot) (item : Fin 12) (removed returned : Nat) : State :=
  if 0 < removed ∨ 0 < returned then
    let before := s.accounts[slot]
    let charge := s.prices[item] * removed
    let charged := before.applyCharge charge
    let charged := { charged with tally := charged.tally.set item (itemsUp charged.tally[item] removed) }
    let s := s.setAccount slot charged
    let s := s.append (.unit u) none (some slot) (.minibarItem item removed returned 0 charge 0 false)
    let s := if 0 < returned then s.append (.unit u) none (some slot) (.returnUncredited item returned) else s
    let s := s.raise .se (.minibarTamper u)
    s.raiseOverdraft slot (overdraftArose before charged)
  else s

/-- An ITEMS report of a minibar lock bound to `slot`, by the unit's session state (chapter 6.5). -/
def State.reportItems (s : State) (u : UnitId) (slot : Slot) (item : Fin 12) (removed returned : Nat) : State :=
  match s.sessions[u] with
  | none => s.looseItems u slot item removed returned
  | some x =>
    match x.kind with
    | .guest => s.guestItems u x item removed returned
    | .restock => s.restockItems u x item removed returned

/-! ## Requests -/

/-- The account after a settlement: cleared, and refilled to the granted allowance where it is interim (R145). -/
def Account.settle (a : Account) (interim : Bool) : Account :=
  { a with
    tally := .replicate 12 0
    charge := 0
    overdraft := 0
    ceilingMet := false
    granted := if interim then a.granted else 0
    remaining := if interim then a.granted else 0 }

/-- The twelve tally counts, one byte each. -/
def Account.tallyBytes (a : Account) : List Byte := a.tally.toList.flatMap byte

/-- What SETTLE reports: the account as it stands, and whether the settlement is interim (R145, step 1). -/
def Account.settleBody (a : Account) (interim : Bool) : List Byte :=
  a.tallyBytes ++ be 3 a.charge ++ be 3 a.overdraft ++ be 3 a.remaining ++ be 3 a.granted ++ flag a.ceilingMet
    ++ byte (if interim then 1 else 2)

/-- Whether a session is open at the room's minibar lock (R145). -/
def State.sessionAt (s : State) (i : Slot) : Bool :=
  match s.minibarLockOf i with
  | some u => s.sessions[u].isSome
  | none => false

/-- A settlement carried out (R145). -/
def settleRoom (p : Port) (i : Slot) (interim : Bool) (s : State) : Reply :=
  let a := s.accounts[i]
  let s := s.setAccount i (a.settle interim)
  let s := s.append (.port p) none (some i) (.settle a.charge a.overdraft a.remaining a.ceilingMet interim)
  accept s (a.settleBody interim)

/-- SETTLE (R145). -/
def settle (p : Port) (slot : Byte) : State → Reply :=
  claimed p slot true fun i s =>
    match s.rooms[i].occupancy with
    | .unused => refuse .wrongState s
    | .letTo _ _ => if s.sessionAt i then refuse .sessionOpen s else settleRoom p i true s
    | .vacant _ => if s.sessionAt i then refuse .sessionOpen s else settleRoom p i false s
    | .held _ => if s.sessionAt i then refuse .sessionOpen s else settleRoom p i false s

def execSettle (p : Port) (slot : Byte) (s : State) : Host.Outcome State Fault Refusal :=
  .next (s.takeRequest .settle p (settle p slot))

/-- SET PRICES (R129). -/
def setPrices (prices : Vector Half 12) (s : State) : Reply :=
  accept { s with prices := prices.map BitVec.toNat } (prices.toList.flatMap fun h => be 2 h.toNat)

def execSetPrices (p : Port) (prices : Vector Half 12) (s : State) : Host.Outcome State Fault Refusal :=
  .next (s.takeRequest .setPrices p (setPrices prices))

/-- SET RESERVE (R130). -/
def setReserve (reserve : Half) (s : State) : Reply := accept { s with reserve := reserve.toNat } (be 2 reserve.toNat)

def execSetReserve (p : Port) (reserve : Half) (s : State) : Host.Outcome State Fault Refusal :=
  .next (s.takeRequest .setReserve p (setReserve reserve))

end Sys2Proof.Machine
end

