-- ==== Sys2Proof/Machine/Grants.lean ====
section
/-! DEFINITION. Pending grants (chapter 5.4): how they are created, marked, cut and concluded. -/

namespace Sys2Proof.Machine

open Sys2Proof

/-- The credential record of a card number, as the table stands (R43). -/
def CardTable.find (t : CardTable) (number : Nat) : Option Credential := t.cards.find? fun c => c.number == number

/-- Whether a record is REVOKED. -/
def Credential.isRevoked (c : Credential) : Bool :=
  match c.state with
  | .revoked _ => true
  | _ => false

/-- The items of a grant that its conclusion record holds (R120). -/
def Grant.items (g : Grant) : GrantItems :=
  { grantedAt := g.grantedAt, unlock := g.unlock, acknowledged := g.acknowledged, evac := g.evac }

/-- Concludes a unit's pending grant, if it holds one: the grant is removed, the grant tally falls and one record is appended
(R120, R198). -/
def State.concludeGrant (s : State) (u : UnitId) (detail : Grant → Detail) : State :=
  match s.grants[u] with
  | none => s
  | some g =>
    let s := s.setGrant u none
    let s := { s with power := { s.power with grantTally := s.power.grantTally - 1 } }
    s.appendUnit u g.card (detail g)

/-- Whether an ENTRY carries REVOKED_SINCE: the card's record is REVOKED or no longer held; an evac pass is not looked up
(R119). -/
def State.revokedSince (s : State) (g : Grant) : Bool :=
  if g.evac then false
  else
    match g.card.bind s.table.find with
    | some c => c.isRevoked
    | none => true

/-- The grant concluded ENTRY (R122). -/
def State.concludeEntry (s : State) (u : UnitId) : State :=
  s.concludeGrant u fun g => .entry g.items (s.revokedSince g)

/-- The grant concluded GRANT_UNUSED (R115). -/
def State.concludeUnused (s : State) (u : UnitId) : State := s.concludeGrant u fun g => .grantUnused g.items g.pulsed

/-- The grant concluded GRANT_CUT (R116, R117). -/
def State.concludeCut (s : State) (u : UnitId) (cause : CutCause) : State := s.concludeGrant u fun g => .grantCut g.items cause

/-- The grant concluded GRANT_REPLACED (R113). -/
def State.concludeReplaced (s : State) (u : UnitId) : State := s.concludeGrant u fun g => .grantReplaced g.items

/-- The pending grant of a GRANT (R113): an earlier one is replaced, the new one is held with its expiry at the unlock seconds
plus 2, a gate reader's grant goes to the Gate Controller, and a minibar lock's to Minibar Accounts. -/
def State.createGrant (s : State) (u : UnitId) (card : Option Nat) (guest : Bool) (unlock : Nat) (evac : Bool) : State :=
  let s := s.concludeReplaced u
  let expiry := unlock + Config.grantMargin
  let r := match s.unitGate u with
    | some g => s.loadPulse g unlock evac
    | none => (s, false)
  let grant : Grant := { card := card, grantedAt := s.now, unlock := unlock, expiry := expiry, acknowledged := false,
                         evac := evac, pulsed := r.2 }
  let s := r.1.setGrant u (some grant)
  let s := { s with power := { s.power with grantTally := s.power.grantTally + 1 } }
  match s.units[u].kind with
  | .minibarLock slot => s.grantSession u (card.getD 0) guest slot expiry
  | _ => s

/-- The grant of a unit acknowledged, where one is held (R114). -/
def State.acknowledge (s : State) (u : UnitId) : State :=
  match s.grants[u] with
  | some g => s.setGrant u (some { g with acknowledged := true })
  | none => s

/-- One unit's grant cut by a change into LOCKDOWN, with relock pending set (R116). -/
def State.cutForLockdown (s : State) (u : UnitId) : State :=
  if s.grants[u].isSome then (s.concludeCut u .lockdown).setRelock u else s

/-- Every pending grant cut by a change into LOCKDOWN, unit by unit (R116). -/
def State.cutAll (s : State) : State := allUnits.foldl State.cutForLockdown s

/-- Every pending grant marked evac pass (R118). -/
def State.markEvac (s : State) : State :=
  { s with grants := s.grants.map fun g => g.map fun g => { g with evac := true } }

/-- A grant's expiry, where it is due: GRANT_UNUSED, and at a minibar lock the notice that ends a session with no opening seen
(R115, R134). -/
def expireGrant (u : UnitId) (s : State) : State :=
  match s.grants[u] with
  | some g =>
    if s.running && decide (g.expiry = 0) then
      let s := s.concludeUnused u
      match s.units[u].kind with
      | .minibarLock _ => s.endUnopened u
      | _ => s
    else s
  | none => s

/-- PENDING_GRANT_EXPIRY (R115). -/
def execPendingGrantExpiry (u : UnitId) (s : State) : Host.Outcome State Fault Refusal := .next (expireGrant u s)

end Sys2Proof.Machine
end

