-- ==== Sys2Proof/Machine/Wing.lean ====
section
/-! DEFINITION. The Mode Controller (chapter 7.7 to 7.9): SET MODE, RESTORE and the edges of the EVAC line. -/

namespace Sys2Proof.Machine

open Sys2Proof

/-- MODE broadcast pending set on both buses (R78). -/
def State.broadcastBoth (s : State) : State :=
  { s with busA := { s.busA with broadcast := true }, busB := { s.busB with broadcast := true } }

/-- The wing mode stored and its MODE_CHANGE record appended (R160). -/
def State.enterMode (s : State) (source : Source) (m : WingMode) : State :=
  let old := s.wing.mode
  ({ s with wing := { s.wing with mode := m } }).append source none none (.modeChange old m)

/-- The MODE_CHANGED events and the MODE broadcasts of a change into mode `m` (R160). -/
def State.announceMode (s : State) (m : WingMode) : State := (s.raiseBoth (.modeChanged m)).broadcastBoth

/-- A change among NORMAL, STORM and LOCKDOWN made by SET MODE (R161). -/
def State.changeMode (s : State) (source : Source) (m : WingMode) : State :=
  let s := s.enterMode source m
  let s := if m = .lockdown then s.cutAll else s
  s.setOutputs.announceMode m

/-- SET MODE (R159, R161). -/
def setMode (p : Port) (mode : Byte) (s : State) : Reply :=
  match modeOf? mode with
  | none => refuse .badValue s
  | some m =>
    if s.wing.mode = .evacuation then refuse .evacActive s
    else if s.wing.mode = m then accept s (byte m.code)
    else accept (s.changeMode (.port p) m) (byte m.code)

def execSetMode (p : Port) (mode : Byte) (s : State) : Host.Outcome State Fault Refusal :=
  .next (s.takeRequest .setMode p (setMode p mode))

/-- RESTORE (R164). -/
def restore (p : Port) (s : State) : Reply :=
  if s.wing.mode ≠ .evacuation then refuse .wrongState s
  else if s.wing.evacSampled then refuse .evacActive s
  else accept ((s.enterMode (.port p) .normal).workLevels.announceMode .normal) (byte WingMode.normal.code)

def execRestore (p : Port) (s : State) : Host.Outcome State Fault Refusal :=
  .next (s.takeRequest .restore p (restore p))

/-- Every gate pulse stopped without expiry (R162, step 5). -/
def State.stopPulses (s : State) : State := { s with gates := { s.gates with pulses := .replicate 6 none } }

/-- Every open session ended by an evacuation, unit by unit, each with relock pending set (R136). -/
def State.endAllSessions (s : State) : State := allUnits.foldl (fun s u => s.endSessionRelock u .evacuation) s

/-- The effects of a rising edge taken as an event (R162). -/
def State.evacRises (s : State) : State :=
  let old := s.wing.mode
  let changes := decide (old ≠ .evacuation)
  let s := { s with wing := { s.wing with evacSampled := true } }
  let s := s.append .evacLine none none (.evac old)
  let s := if changes then s.enterMode .evacLine .evacuation else s
  let s := s.markEvac.stopPulses.endAllSessions.setOutputs
  let s := s.raiseBoth (.evacLine true)
  if changes then s.announceMode .evacuation else s

/-- The effects of a falling edge taken as an event (R163). -/
def State.evacFalls (s : State) : State :=
  let s := { s with wing := { s.wing with evacSampled := false } }
  (s.append .evacLine none none .evacClear).raiseBoth (.evacLine false)

/-- The line at a new level. The edge is taken as an event while the part runs, and not during a start (R199); a line that
already stands at the level makes no edge (chapter 7.9). -/
def evacEdge (asserted : Bool) (s : State) : State :=
  if s.wing.evacPin = asserted then s
  else
    let s := { s with wing := { s.wing with evacPin := asserted } }
    if !s.running then s else if asserted then s.evacRises else s.evacFalls

/-- EVAC_RISING_EDGE (R162). -/
def execEvacRisingEdge (s : State) : Host.Outcome State Fault Refusal := .next (evacEdge true s)

/-- EVAC_FALLING_EDGE (R163). -/
def execEvacFallingEdge (s : State) : Host.Outcome State Fault Refusal := .next (evacEdge false s)

end Sys2Proof.Machine
end

