-- ==== Sys2Proof/Machine/Starts.lean ====
section
/-! DEFINITION. Retention and start-up (chapter 10): reset, the loss of power, warm and cold starts, and the end of a start. -/

namespace Sys2Proof.Machine

open Sys2Proof

/-- A unit record with its volatile fields at their warm-start values (R71). -/
def UnitRec.warm (r : UnitRec) : UnitRec :=
  { UnitRec.cold with kind := r.kind, entranceClass := r.entranceClass, quarantined := r.quarantined }

/-- What the log keeps for a port after a warm start: the cursor stays, the rest takes its start value (R169, R180). -/
def Reader.warm (r : Reader) (policy : Policy) : Reader :=
  { cursor := r.cursor, policy := policy, skipped := 0, threshold := Config.startThreshold }

/-- Every volatile item of the table of chapter 10.1 at its start value; the retained state and the start tallies stay
(R198, R200 step 1). -/
def State.loseVolatile (s : State) : State :=
  { s with
    claims := .replicate 128 none
    units := s.units.map UnitRec.warm
    grants := .replicate 240 none
    ajar := .replicate 240 none
    sessions := .replicate 240 none
    busA := BusState.start
    busB := BusState.start
    gates := { s.gates with pulses := .replicate 6 none }
    log := { s.log with fo := s.log.fo.warm .yields, se := s.log.se.warm .hold }
    fo := PortState.start
    se := PortState.start }

/-- Every room's privacy UNKNOWN (R39). -/
def State.forgetAllPrivacy (s : State) : State :=
  { s with rooms := s.rooms.map fun r => { r with privacy := .unknown } }

/-- The wing mode a warm start decides: EVACUATION under an asserted line, the retained mode otherwise (R158). -/
def State.startMode (s : State) : WingMode := if s.wing.evacPin then .evacuation else s.wing.mode

/-- The EVAC line sampled (R158). -/
def State.sampleEvac (s : State) : State := { s with wing := { s.wing with evacSampled := s.wing.evacPin } }

/-- The START (WARM) record with the tallies as its discard counts (R167, R198). -/
def State.warmRecord (s : State) : Formed :=
  s.form .controller none none (.start true s.power.grantTally s.power.sessionTally)

/-- A warm start begun (R200). The mode is decided and used for the outputs, and it is stored, with the START record, when the
start ends (R197). -/
def beginWarm (s : State) : State :=
  let mode := s.startMode
  let s := s.loseVolatile.forgetAllPrivacy.sampleEvac
  let s := { s with gates := (s.gates.work s.clock.minute).applyOutputs mode }
  { s with power := { s.power with phase := .starting (.warm mode s.warmRecord), retained := true } }

/-- WARM_START: a start begun with the latch clear is warm (R197, R200). -/
def execWarmStart (s : State) : Host.Outcome State Fault Refusal := .next (if s.power.latch then s else beginWarm s)

/-- A cold start begun: every block takes its cold-start values, the line is sampled and START (COLD) is stored; the latch stays
set until the start ends (R197, R201). -/
def beginCold (s : State) : State :=
  { State.reset with
    pending := s.pending
    power := { phase := .starting .cold, retained := true, latch := true, grantTally := 0, sessionTally := 0 }
    wing := { mode := if s.wing.evacPin then .evacuation else .normal, evacSampled := s.wing.evacPin, evacPin := s.wing.evacPin } }

/-- COLD_START: a start begun with the latch set is cold (R197, R201). -/
def execColdStart (s : State) : Host.Outcome State Fault Refusal := .next (if s.power.latch then beginCold s else s)

/-- What a start commits as it ends: a warm start its mode, its START record, which is not tested against the thresholds, and
tallies of 0; a cold start the latch cleared (R169, R197, R200, R201). -/
def State.commitStart (s : State) : Start → State
  | .warm mode record =>
    { s with
      wing := { s.wing with mode := mode }
      log := s.log.offer record
      power := { s.power with phase := .running, grantTally := 0, sessionTally := 0 } }
  | .cold => { s with power := { s.power with phase := .running, latch := false } }

/-- A difference between the line and the sampled state taken at once as the edge it makes (R199). -/
def State.takeLineDifference (s : State) : State :=
  if s.wing.evacPin = s.wing.evacSampled then s else if s.wing.evacPin then s.evacRises else s.evacFalls

/-- START_END (R199). -/
def endStart (s : State) : State :=
  match s.power.phase with
  | .starting start => (s.commitStart start).takeLineDifference
  | _ => s

def execStartEnd (s : State) : Host.Outcome State Fault Refusal := .next (endStart s)

/-- The transactions and frames in progress abandoned (R95, R196, R199). -/
def State.abandonTransactions (s : State) : State :=
  { s with
    busA := { s.busA with flight := .none, due := none }
    busB := { s.busB with flight := .none, due := none }
    fo := { s.fo with fixed := none }
    se := { s.se with fixed := none } }

/-- RST asserted while main power is present: transactions are abandoned, and so is a start in progress (R197, R199). -/
def assertReset (s : State) : State :=
  if s.power.phase = .off then s
  else { s.abandonTransactions with power := { s.power with phase := .inReset } }

/-- RST_ASSERTED (R199). -/
def execRstAsserted (s : State) : Host.Outcome State Fault Refusal := .next (assertReset s)

/-- Main power falls: volatile state is lost, a start in progress is abandoned, and the domain runs on VBAK with the tallies
kept (R197, R198). -/
def mainPowerFall (s : State) : State :=
  if s.power.phase = .off then s
  else { s.loseVolatile with power := { s.power with phase := .off } }

/-- MAIN_POWER_FALL (R198). -/
def execMainPowerFall (s : State) : Host.Outcome State Fault Refusal := .next (mainPowerFall s)

/-- The retention domain's supply fails, with main power and VBAK both absent: the latch is set, and crystal cycles are no longer
counted (R1, R197). -/
def retentionLost (s : State) : State :=
  if s.power.phase = .off then { s with power := { s.power with retained := false, latch := true } } else s

/-- RETENTION_LOST (R197). -/
def execRetentionLost (s : State) : Host.Outcome State Fault Refusal := .next (retentionLost s)

/-- The level at a gate output's pin: the output while the part runs, and none while no output is driven (R147, R199). -/
def State.gatePin (s : State) (g : Gate) : Option GateLevel := if s.running then some s.gates.outputs[g] else none

end Sys2Proof.Machine
end

