-- ==== Sys2Proof/Decode.lean ====
section
/-! DEFINITION. From bytes to commands. The opcode table gives no row any bits, so no word spells a command; what a station
transaction's bytes say is chapter 9.2 and 11.4's, and is read here once, with the encoder beside it. -/

namespace Sys2Proof

open Machine

/-- The command a word spells by the table's bits. No row of the table has bits, so no word spells one (log entry 2). -/
def decodeTableWord (_nbits _w : Nat) : Option Instr := none

/-! ## Fields of a request body (chapter 11.4) -/

/-- The first byte of a request transaction (chapter 11.4). -/
def reqByte : Byte := 0xA5

/-- The first byte of a response transaction (chapter 11.4). -/
def rspByte : Byte := 0x96

/-- The byte at a position of a body. -/
def byteAt (body : List Byte) (n : Nat) : Byte := body.getD n 0

/-- Two bytes, high byte first (chapter 11.1). -/
def halfAt (body : List Byte) (n : Nat) : Half := byteAt body n ++ byteAt body (n + 1)

/-- Three bytes, high byte first (chapter 11.1). -/
def tripleAt (body : List Byte) (n : Nat) : Triple := halfAt body n ++ byteAt body (n + 2)

/-- A (day, minute) in four bytes, the day first (chapter 11.4). -/
def dayMinuteAt (body : List Byte) (n : Nat) : DayMinute := { day := halfAt body n, minute := halfAt body (n + 2) }

/-- A two-byte field as sent. -/
def halfBytes (h : Half) : List Byte := [h.extractLsb' 8 8, h.extractLsb' 0 8]

/-- A three-byte field as sent. -/
def tripleBytes (t : Triple) : List Byte := [t.extractLsb' 16 8, t.extractLsb' 8 8, t.extractLsb' 0 8]

/-- A (day, minute) field as sent. -/
def DayMinute.bytes (d : DayMinute) : List Byte := halfBytes d.day ++ halfBytes d.minute

/-! ## Reading a request (R182, R183, R202) -/

/-- The request a body of the right length holds: its fields in the order its rule names them, at the widths of chapter 11.4
(R202). -/
def readBody (p : Port) (b : List Byte) : Request → Instr
  | .checkIn => .checkIn p (byteAt b 0) (byteAt b 1) (byteAt b 2) (dayMinuteAt b 3) (dayMinuteAt b 7) (tripleAt b 11)
  | .addCards => .addCards p (byteAt b 0) (byteAt b 1) (byteAt b 2)
  | .changeStay => .changeStay p (byteAt b 0) (dayMinuteAt b 1)
  | .checkOut => .checkOut p (byteAt b 0)
  | .settle => .settle p (byteAt b 0)
  | .setPrices => .setPrices p (Vector.ofFn fun i : Fin 12 => halfAt b (2 * i.val))
  | .setReserve => .setReserve p (halfAt b 0)
  | .setGrace => .setGrace p (byteAt b 0)
  | .configureRoom => .configureRoom p (byteAt b 0) (halfAt b 1)
  | .removeRoom => .removeRoom p (byteAt b 0)
  | .holdRoom => .holdRoom p (byteAt b 0)
  | .freeRoom => .freeRoom p (byteAt b 0)
  | .configureUnit => .configureUnit p (byteAt b 0) (byteAt b 1) (byteAt b 2) (byteAt b 3) (byteAt b 4) (byteAt b 5)
  | .removeUnit => .removeUnit p (byteAt b 0) (byteAt b 1)
  | .readmitUnit => .readmitUnit p (byteAt b 0) (byteAt b 1)
  | .issueStaff => .issueStaff p (byteAt b 0) (dayMinuteAt b 1) (dayMinuteAt b 5) (tripleAt b 9)
  | .suspend => .suspend p (tripleAt b 0)
  | .resume => .resume p (tripleAt b 0)
  | .setSite => .setSite p (halfAt b 0)
  | .setCondition => .setCondition p (byteAt b 0) (byteAt b 1) (byteAt b 2)
  | .setEntranceClass => .setEntranceClass p (byteAt b 0) (byteAt b 1) (halfAt b 2) (byteAt b 4)
  | .setShift => .setShift p (byteAt b 0) (halfAt b 1) (halfAt b 3)
  | .setGate => .setGate p (byteAt b 0) (byteAt b 1)
  | .addScheduleEntry => .addScheduleEntry p (halfAt b 0) (byteAt b 2) (byteAt b 3)
  | .removeScheduleEntry => .removeScheduleEntry p (byteAt b 0)
  | .clearSchedule => .clearSchedule p
  | .setMode => .setMode p (byteAt b 0)
  | .restore => .restore p
  | .clearBusCounters => .clearBusCounters p (byteAt b 0)
  | .claim => .claim p (byteAt b 0) (byteAt b 1)
  | .releaseClaim => .releaseClaim p (byteAt b 0)
  | .revoke => .revoke p (tripleAt b 0) (byteAt b 3)
  | .setClock => .setClock p (dayMinuteAt b 0)
  | .readClock => .readClock p
  | .readRoom => .readRoom p (byteAt b 0)
  | .readCard => .readCard p (tripleAt b 0)
  | .readUnit => .readUnit p (byteAt b 0) (byteAt b 1)
  | .readBus => .readBus p (byteAt b 0)
  | .readGates => .readGates p
  | .readLog => .readLog p (byteAt b 0)
  | .setLogPolicy => .setLogPolicy p (byteAt b 0)
  | .setLogThreshold => .setLogThreshold p (halfAt b 0)
  | .readEvents => .readEvents p (byteAt b 0)
  | .setSupervision => .setSupervision p (byteAt b 0)
  | .keepalive => .keepalive p (halfAt b 0)
  | .identify => .identify p

/-- What a transaction's bytes, as the master sent them, make of it: nothing (R182), a response transaction, a request, or a
request transaction that fails one of the checks 1 to 3 of R183. -/
inductive Transaction where
  | discarded
  | response
  | bad (status : Status)
  | request (i : Instr)
  deriving DecidableEq, Repr

/-- The bytes after the REQ byte, by checks 1 to 3 of R183. -/
def examineRequest (p : Port) (rest : List Byte) : Transaction :=
  match rest with
  | code :: length :: body =>
    if 250 < length.toNat ∨ body.length ≠ length.toNat then .bad .badLength
    else
      match Request.ofCode? code.toNat with
      | none => .bad .badRequest
      | some r => if length.toNat ≠ r.bodyLength then .bad .badLength else .request (readBody p body r)
  | _ => .bad .badLength

/-- A transaction by its first byte (R182). -/
def examine (p : Port) (bytes : List Byte) : Transaction :=
  match bytes with
  | [] => .discarded
  | first :: rest =>
    if first = reqByte then examineRequest p rest else if first = rspByte then .response else .discarded

/-! ## Sending a request (chapter 11.4) -/

/-- A request with its port and its body; `none` for a command that is no request. -/
def Instr.request? : Instr → Option (Port × Request × List Byte)
  | .checkIn p slot cls count arrival departure allowance =>
      some (p, .checkIn, [slot, cls, count] ++ arrival.bytes ++ departure.bytes ++ tripleBytes allowance)
  | .addCards p slot cls count => some (p, .addCards, [slot, cls, count])
  | .changeStay p slot departure => some (p, .changeStay, [slot] ++ departure.bytes)
  | .checkOut p slot => some (p, .checkOut, [slot])
  | .settle p slot => some (p, .settle, [slot])
  | .setPrices p prices => some (p, .setPrices, prices.toList.flatMap halfBytes)
  | .setReserve p reserve => some (p, .setReserve, halfBytes reserve)
  | .setGrace p grace => some (p, .setGrace, [grace])
  | .configureRoom p slot number => some (p, .configureRoom, [slot] ++ halfBytes number)
  | .removeRoom p slot => some (p, .removeRoom, [slot])
  | .holdRoom p slot => some (p, .holdRoom, [slot])
  | .freeRoom p slot => some (p, .freeRoom, [slot])
  | .configureUnit p bus address kind cls slot gate => some (p, .configureUnit, [bus, address, kind, cls, slot, gate])
  | .removeUnit p bus address => some (p, .removeUnit, [bus, address])
  | .readmitUnit p bus address => some (p, .readmitUnit, [bus, address])
  | .issueStaff p cls start stop replaced =>
      some (p, .issueStaff, [cls] ++ start.bytes ++ stop.bytes ++ tripleBytes replaced)
  | .suspend p card => some (p, .suspend, tripleBytes card)
  | .resume p card => some (p, .resume, tripleBytes card)
  | .setSite p site => some (p, .setSite, halfBytes site)
  | .setCondition p cls entrance code => some (p, .setCondition, [cls, entrance, code])
  | .setEntranceClass p entrance unlock ajarLimit exposed =>
      some (p, .setEntranceClass, [entrance, unlock] ++ halfBytes ajarLimit ++ [exposed])
  | .setShift p cls opens closes => some (p, .setShift, [cls] ++ halfBytes opens ++ halfBytes closes)
  | .setGate p enabled exposed => some (p, .setGate, [enabled, exposed])
  | .addScheduleEntry p minute gates level => some (p, .addScheduleEntry, halfBytes minute ++ [gates, level])
  | .removeScheduleEntry p position => some (p, .removeScheduleEntry, [position])
  | .clearSchedule p => some (p, .clearSchedule, [])
  | .setMode p wanted => some (p, .setMode, [wanted])
  | .restore p => some (p, .restore, [])
  | .clearBusCounters p bus => some (p, .clearBusCounters, [bus])
  | .claim p slot preempt => some (p, .claim, [slot, preempt])
  | .releaseClaim p slot => some (p, .releaseClaim, [slot])
  | .revoke p card reason => some (p, .revoke, tripleBytes card ++ [reason])
  | .setClock p reading => some (p, .setClock, reading.bytes)
  | .readClock p => some (p, .readClock, [])
  | .readRoom p slot => some (p, .readRoom, [slot])
  | .readCard p card => some (p, .readCard, tripleBytes card)
  | .readUnit p bus address => some (p, .readUnit, [bus, address])
  | .readBus p bus => some (p, .readBus, [bus])
  | .readGates p => some (p, .readGates, [])
  | .readLog p count => some (p, .readLog, [count])
  | .setLogPolicy p policy => some (p, .setLogPolicy, [policy])
  | .setLogThreshold p threshold => some (p, .setLogThreshold, halfBytes threshold)
  | .readEvents p count => some (p, .readEvents, [count])
  | .setSupervision p interval => some (p, .setSupervision, [interval])
  | .keepalive p token => some (p, .keepalive, halfBytes token)
  | .identify p => some (p, .identify, [])
  | .secondTick => none
  | .crystalCycle => none
  | .claimLeaseExpiry _ => none
  | .pendingGrantExpiry _ => none
  | .ajarTimerExpiry _ => none
  | .minibarSessionExpiry _ => none
  | .gatePulseExpiry _ => none
  | .supervisionTimerExpiry _ => none
  | .transactionDiscarded _ _ => none
  | .rspByteReceived _ => none
  | .responseTransaction _ _ => none
  | .badRequest _ _ => none
  | .mode _ => none
  | .poll _ => none
  | .pollTimeout _ => none
  | .answer _ _ => none
  | .verdict _ => none
  | .ack _ _ => none
  | .verdictTimeout _ => none
  | .evacRisingEdge => none
  | .evacFallingEdge => none
  | .rstAsserted => none
  | .mainPowerFall => none
  | .retentionLost => none
  | .warmStart => none
  | .coldStart => none
  | .startEnd => none

/-- A request transaction: REQ, the request code, the body length and the body (chapter 11.4). -/
def transactionBytes (r : Request) (body : List Byte) : List Byte :=
  [reqByte, BitVec.ofNat 8 r.code, BitVec.ofNat 8 r.bodyLength] ++ body

/-- The port and the bytes of a request; `none` for a command that is no request. -/
def encode (i : Instr) : Option (Port × List Byte) := i.request?.map fun x => (x.1, transactionBytes x.2.1 x.2.2)

end Sys2Proof
end

