-- ==== Sys2Proof/Machine/Cards.lean ====
section
/-! DEFINITION. The Credential Table (chapter 3): card images and the check word, card numbers, reclamation, issue, revocation,
suspension, and the requests on single cards and on the site code. -/

namespace Sys2Proof.Machine

open Sys2Proof

/-! ## The card image (chapter 3.3) -/

/-- The ten words of a card image, W0 to W9. -/
abbrev CardImage := Vector Nat 10

/-- The end-around sum of a run of words (R47). -/
def endAround (words : List Nat) : Nat :=
  words.foldl (fun sum w => if 65535 < sum + w then sum + w - 65535 else sum + w) 0

/-- The room slot and generation a record would give an image: 255 and 0 for a staff record (R48). -/
def Credential.imageSlot (c : Credential) : Nat :=
  match c.binding with
  | some b => b.slot.val
  | none => 255

def Credential.imageGeneration (c : Credential) : Nat :=
  match c.binding with
  | some b => b.generation
  | none => 0

/-- The slot of a room-bound record. -/
def Credential.slot? (c : Credential) : Option Slot := c.binding.map RoomBinding.slot

/-- Words W0 to W8 of a record's image (R46). -/
def Credential.words (c : Credential) (site : Nat) : List Nat :=
  [site, c.number / 256, c.number % 256 * 256 + c.cls.val * 16 + batchFlags c.first c.final,
   c.imageSlot * 256 + c.imageGeneration, c.issueNumber, c.window.start.day, c.window.start.minute, c.window.stop.day,
   c.window.stop.minute]

/-- The check word of nine words (R47). -/
def checkWord (words : List Nat) : Nat := 65535 - endAround words

/-- A record's image in its 20 bytes (R46, chapter 11.2). -/
def Credential.imageBytes (c : Credential) (site : Nat) : List Byte :=
  (c.words site ++ [checkWord (c.words site)]).flatMap (be 2)

/-- The image read from 20 bytes (chapter 11.2). -/
def imageOfBytes (bytes : List Byte) : CardImage := Vector.ofFn fun i : Fin 10 => ofBe ((bytes.drop (2 * i.val)).take 2)

/-- An image is intact when the end-around sum of its ten words is exactly 65535 (R48). -/
def CardImage.intact (image : CardImage) : Bool := endAround image.toList == 65535

/-- The fields decoded from an intact image (R48). -/
def CardImage.site (image : CardImage) : Nat := image[0]
def CardImage.cardNumber (image : CardImage) : Nat := image[1] * 256 + image[2] / 256
def CardImage.cls (image : CardImage) : Nat := image[2] % 256 / 16
def CardImage.slot (image : CardImage) : Nat := image[3] / 256
def CardImage.generation (image : CardImage) : Nat := image[3] % 256
def CardImage.batchFlags (image : CardImage) : Nat := image[2] % 16
def CardImage.issueNumber (image : CardImage) : Nat := image[4]
def CardImage.window (image : CardImage) : Window :=
  { start := { day := image[5], minute := image[6] }, stop := { day := image[7], minute := image[8] } }

/-- A decoded card number as a grant and a record carry it; 0 is no card number (R99). -/
def CardImage.card? (image : CardImage) : Option Nat := if image.cardNumber = 0 then none else some image.cardNumber

/-! ## Records, numbers and reclamation (chapters 3.4 and 3.5) -/

/-- A table's records with one more, in ascending card number order. -/
def insertCard (c : Credential) : List Credential → List Credential
  | [] => [c]
  | d :: rest => if c.number < d.number then c :: d :: rest else d :: insertCard c rest

/-- The records with the one of a card number changed. -/
def CardTable.update (t : CardTable) (number : Nat) (change : Credential → Credential) : CardTable :=
  { t with cards := t.cards.map fun c => if c.number = number then change c else c }

/-- A record becomes REVOKED, and its number joins the tail of the revocation list (R42, R51). -/
def CardTable.revoke (t : CardTable) (number : Nat) (reason : RevokeReason) : CardTable :=
  let t := t.update number fun c => { c with state := .revoked reason }
  { t with revoked := t.revoked ++ [number] }

/-- The card number after this one: 16,777,215 is followed by 1 (R49). -/
def nextCardNumber (n : Nat) : Nat := if Config.lastCardNumber ≤ n then 1 else n + 1

/-- The first number from the counter on that no record holds; a table of 1024 records needs at most 1024 advances (R49). -/
def firstFree (t : CardTable) : Nat → Nat → Nat
  | 0, n => n
  | fuel + 1, n => if (t.find n).isSome then firstFree t fuel (nextCardNumber n) else n

/-- The number the next card takes (R49). -/
def CardTable.freeNumber (t : CardTable) : Nat := firstFree t Config.maxCards t.nextNumber

/-- The room-bound records of a slot that are not REVOKED (R54). -/
def CardTable.liveOf (t : CardTable) (i : Slot) : List Credential :=
  t.cards.filter fun c => c.slot? == some i && !c.isRevoked

/-- How many records an issue of `n` cards must delete (R52). -/
def CardTable.shortfall (t : CardTable) (n : Nat) : Nat := n - (Config.maxCards - t.cards.length)

/-- The space check of an admission (R54, step 3; R58, step 5). -/
def CardTable.hasSpace (t : CardTable) (n : Nat) : Bool := decide (t.shortfall n ≤ t.revoked.length)

/-- Admission of a batch of `n` cards for a room slot (R54). -/
def CardTable.admitBatch (t : CardTable) (i : Slot) (n : Nat) : Option Status :=
  if t.site = 0 then some .noSite
  else if Config.maxRoomCards < (t.liveOf i).length + n then some .limit
  else if !t.hasSpace n then some .tableFull
  else none

/-- Admission of one staff card (R58, step 5). -/
def CardTable.admitStaff (t : CardTable) : Option Status :=
  if t.site = 0 then some .noSite else if !t.hasSpace 1 then some .tableFull else none

/-- Reclamation for an issue of `n` cards: the records at the head of the revocation list are deleted (R52). -/
def CardTable.reclaim (t : CardTable) (n : Nat) : CardTable :=
  let doomed := t.revoked.take (t.shortfall n)
  { t with cards := t.cards.filter (fun c => !doomed.contains c.number), revoked := t.revoked.drop (t.shortfall n) }

/-- A record created under the next free number, and the counter advanced past it (R49). -/
def CardTable.create (t : CardTable) (c : Credential) : CardTable :=
  { t with cards := insertCard c t.cards, nextNumber := nextCardNumber c.number }

/-! ## Batch issue (chapter 3.6) -/

/-- The issue number after this one: 65535 is followed by 1 (R18). -/
def nextIssueNumber (n : Nat) : Nat := if 65535 ≤ n then 1 else n + 1

/-- One card of a batch of `n` for a room, `left` cards still to follow it (R55, step 2). -/
def State.batchCard (s : State) (p : Port) (i : Slot) (cls : Fin 8) (w : Window) (n left : Nat) : Credential :=
  { number := s.table.freeNumber, cls := cls
    binding := some { slot := i, generation := s.rooms[i].generation }
    issueNumber := nextIssueNumber s.rooms[i].issueCounter
    first := decide (left + 1 = n), final := decide (left = 0), window := w, state := .active, issuedBy := p }

/-- The cards of a batch issued one by one; the records in issue order (R55). -/
def issueCards (p : Port) (i : Slot) (cls : Fin 8) (w : Window) (n : Nat) : Nat → State → State × List Credential
  | 0, s => (s, [])
  | left + 1, s =>
    let c := s.batchCard p i cls w n left
    let s := s.setRoom i { s.rooms[i] with issueCounter := c.issueNumber }
    let r := issueCards p i cls w n left { s with table := s.table.create c }
    (r.1, c :: r.2)

/-- An admitted batch: reclamation, then the cards (R55). -/
def State.issueBatch (s : State) (p : Port) (i : Slot) (cls : Fin 8) (w : Window) (n : Nat) : State × List Credential :=
  issueCards p i cls w n n { s with table := s.table.reclaim n }

/-- The ISSUE records of a request's cards; the first carries the number of records reclaimed (R56). -/
def logIssues (p : Port) : Nat → List Credential → State → State
  | _, [], s => s
  | reclaimed, c :: rest, s =>
    logIssues p 0 rest (s.append (.port p) (some c.number) c.slot?
      (.issue c.cls c.issueNumber c.first c.final (c.binding.map RoomBinding.generation) reclaimed))

/-- The images of issued cards, as a list: its count and then the images (R55, R204). -/
def imageList (site : Nat) (cards : List Credential) : List Byte :=
  byte cards.length ++ cards.flatMap fun c => c.imageBytes site

/-! ## Requests on single cards -/

/-- SET SITE (R44). -/
def setSite (site : Half) (s : State) : Reply :=
  if site = 0 then refuse .badValue s
  else if !s.table.cards.isEmpty then refuse .wrongState s
  else accept { s with table := { s.table with site := site.toNat } } (be 2 site.toNat)

def execSetSite (p : Port) (site : Half) (s : State) : Host.Outcome State Fault Refusal :=
  .next (s.takeRequest .setSite p (setSite site))

/-- The refusals of a card to replace (R58, step 4). -/
def CardTable.replaceCheck (t : CardTable) (replaced : Nat) : Option Status :=
  if replaced = 0 then none
  else
    match t.find replaced with
    | none => some .notFound
    | some c => if c.binding.isSome then some .wrongState else none

/-- The REVOKE record of a card (R62). -/
def State.logRevoke (s : State) (p : Port) (c : Credential) (reason : RevokeReason) : State :=
  s.append (.port p) (some c.number) c.slot? (.revoke reason)

/-- The record a card to replace still has after reclamation; none where no card is named or reclamation deleted it (R59). -/
def CardTable.replacedRecord (t : CardTable) (replaced : Nat) : Option Credential :=
  if replaced = 0 then none else t.find replaced

/-- The card to replace superseded where its record is not REVOKED (R59, step 3). -/
def CardTable.supersede (t : CardTable) : Option Credential → CardTable
  | some d => if d.isRevoked then t else t.revoke d.number .superseded
  | none => t

/-- The REVOKE record of a card superseded (R59, step 4). -/
def logSuperseded (p : Port) (old : Option Credential) (s : State) : State :=
  match old with
  | some d => if d.isRevoked then s else s.logRevoke p d .superseded
  | none => s

/-- A staff card as it is created (R59, step 2). -/
def CardTable.staffCard (t : CardTable) (p : Port) (cls : Fin 8) (w : Window) : Credential :=
  { number := t.freeNumber, cls := cls, binding := none, issueNumber := 1, first := true, final := true, window := w,
    state := .active, issuedBy := p }

/-- A staff card issued, and the card it replaces superseded (R59). The state the replaced card is left in is REVOKED, and is
sent as 0 where no card is named or its record is gone (R204). The number of a card to replace is sent as the request named it,
even where this request's own reclamation deleted its record. DESIGN CHOICE, log entry 20. -/
def issueStaffCard (p : Port) (cls : Fin 8) (w : Window) (replaced : Nat) (s : State) : Reply :=
  let reclaimed := s.table.shortfall 1
  let table := s.table.reclaim 1
  let old := table.replacedRecord replaced
  let c := table.staffCard p cls w
  let s := { s with table := (table.create c).supersede old }
  let s := logSuperseded p old (logIssues p reclaimed [c] s)
  accept s (be 3 c.number ++ c.imageBytes s.table.site ++ byte reclaimed ++ be 3 replaced
    ++ byte (if old.isSome then (CardState.revoked .superseded).code else 0))

/-- ISSUE STAFF (R58, R59). -/
def issueStaff (p : Port) (cls : Byte) (start stop : DayMinute) (replaced : Triple) (s : State) : Reply :=
  match indexOf? cls with
  | none => refuse .badValue s
  | some k =>
    if k.val < 4 then refuse .badValue s
    else if !s.clock.clockSet then refuse .noClock s
    else if !windowChecks (momentOf start) (momentOf stop) s.nowIndex then refuse .badWindow s
    else
      match s.table.replaceCheck replaced.toNat with
      | some st => refuse st s
      | none =>
        match s.table.admitStaff with
        | some st => refuse st s
        | none => issueStaffCard p k { start := momentOf start, stop := momentOf stop } replaced.toNat s

def execIssueStaff (p : Port) (cls : Byte) (start stop : DayMinute) (replaced : Triple) (s : State) :
    Host.Outcome State Fault Refusal :=
  .next (s.takeRequest .issueStaff p (issueStaff p cls start stop replaced))

/-- What REVOKE answers: card number, state REVOKED and the reason (R62). -/
def revokeBody (number : Nat) (reason : RevokeReason) : List Byte :=
  be 3 number ++ byte (CardState.revoked reason).code ++ byte reason.code

/-- A REVOKE that has passed its port's checks, by the state of the record (R62). -/
def revokeRecord (p : Port) (c : Credential) (reason : RevokeReason) (s : State) : Reply :=
  match c.state with
  | .revoked old => accept s (revokeBody c.number old)
  | _ => accept (({ s with table := s.table.revoke c.number reason }).logRevoke p c reason) (revokeBody c.number reason)

/-- The checks of an FO REVOKE; a request that passes them is a claimed request on the card's room (R61). -/
def revokeFromFo (c : Credential) (reason : RevokeReason) (s : State) : Reply :=
  match c.slot? with
  | none => refuse .notPermitted s
  | some i => if s.holder i ≠ some .fo then refuse .notClaimed s else renewing .fo i (revokeRecord .fo c reason s)

/-- REVOKE (R60, R61, R62). -/
def revoke (p : Port) (card : Triple) (reason : Byte) (s : State) : Reply :=
  match reasonOf? reason with
  | none => refuse .badValue s
  | some r =>
    if card = 0 then refuse .badValue s
    else
      match s.table.find card.toNat with
      | none => refuse .notFound s
      | some c =>
        match p with
        | .fo => revokeFromFo c r s
        | .se => revokeRecord .se c r s

def execRevoke (p : Port) (card : Triple) (reason : Byte) (s : State) : Host.Outcome State Fault Refusal :=
  .next (s.takeRequest .revoke p (revoke p card reason))

/-- What SUSPEND and RESUME answer: the card number and its state (R64, R65). -/
def cardStateBody (number : Nat) (st : CardState) : List Byte := be 3 number ++ byte st.code

/-- SUSPEND (R64). -/
def suspend (p : Port) (card : Triple) (s : State) : Reply :=
  if card = 0 then refuse .badValue s
  else
    match s.table.find card.toNat with
    | none => refuse .notFound s
    | some c =>
      match c.state with
      | .revoked _ => refuse .wrongState s
      | .suspended => accept s (cardStateBody c.number .suspended)
      | .active =>
        let table := s.table.update c.number fun d => { d with state := .suspended }
        accept (({ s with table := table }).append (.port p) (some c.number) c.slot? .suspend) (cardStateBody c.number .suspended)

def execSuspend (p : Port) (card : Triple) (s : State) : Host.Outcome State Fault Refusal :=
  .next (s.takeRequest .suspend p (suspend p card))

/-- RESUME (R65). -/
def resume (p : Port) (card : Triple) (s : State) : Reply :=
  if card = 0 then refuse .badValue s
  else
    match s.table.find card.toNat with
    | none => refuse .notFound s
    | some c =>
      match c.state with
      | .revoked _ => refuse .wrongState s
      | .active => accept s (cardStateBody c.number .active)
      | .suspended =>
        let table := s.table.update c.number fun d => { d with state := .active }
        accept (({ s with table := table }).append (.port p) (some c.number) c.slot? .resume) (cardStateBody c.number .active)

def execResume (p : Port) (card : Triple) (s : State) : Host.Outcome State Fault Refusal :=
  .next (s.takeRequest .resume p (resume p card))

/-- The table summary (R66). -/
def CardTable.summary (t : CardTable) : List Byte :=
  be 2 t.cards.length ++ be 2 t.revoked.length ++ orZero 3 t.revoked.head? ++ be 3 t.nextNumber ++ be 2 t.site

/-- Every field of a record and its regenerated image (R66). -/
def Credential.bytes (c : Credential) (site : Nat) : List Byte :=
  be 3 c.number ++ byte c.cls ++ orZero 1 (c.slot?.map Fin.val) ++ orZero 1 (c.binding.map RoomBinding.generation)
    ++ be 2 c.issueNumber ++ byte (batchFlags c.first c.final) ++ c.window.bytes ++ byte c.state.code
    ++ byte c.state.reasonCode ++ byte (portCode c.issuedBy) ++ c.imageBytes site

/-- READ CARD (R66). -/
def readCard (card : Triple) (s : State) : Reply :=
  if card = 0 then refuse .badValue s
  else
    match s.table.find card.toNat with
    | none => (s, { status := .notFound, body := s.table.summary })
    | some c => accept s (c.bytes s.table.site ++ s.table.summary)

def execReadCard (p : Port) (card : Triple) (s : State) : Host.Outcome State Fault Refusal :=
  .next (s.takeRequest .readCard p (readCard card))

end Sys2Proof.Machine
end

