-- ==== Sys2Proof/Machine/Decision.lean ====
section
/-! DEFINITION. The Decision Unit (chapter 5): conditions, the verdict procedure and what a verdict leaves behind, the reports of
openings and closings, and the requests that set its tables. -/

namespace Sys2Proof.Machine

open Sys2Proof

/-! ## Conditions (chapter 5.2) -/

/-- What a condition reads of the unit's room; a unit with no room gives the fixed values of R109. -/
structure RoomView where
  notPrivate : Bool
  isLet : Bool
  isVacant : Bool
  isHeld : Bool
  deriving DecidableEq, Repr

/-- The room tests of a room record; privacy UNKNOWN counts as ON (R39, R109). -/
def Room.view (r : Room) : RoomView :=
  let np := decide (r.privacy = .off)
  match r.occupancy with
  | .unused => { notPrivate := np, isLet := false, isVacant := false, isHeld := false }
  | .vacant _ => { notPrivate := np, isLet := false, isVacant := true, isHeld := false }
  | .letTo _ _ => { notPrivate := np, isLet := true, isVacant := false, isHeld := false }
  | .held _ => { notPrivate := np, isLet := false, isVacant := false, isHeld := true }

/-- The room tests at a unit (R109). -/
def State.roomView (s : State) (u : UnitId) : RoomView :=
  match s.unitSlot u with
  | some i => s.rooms[i].view
  | none => { notPrivate := true, isLet := false, isVacant := false, isHeld := false }

/-- A condition's truth from what it tests: the room, the wing mode, whether the class is on shift, and whether the unit's
entrance class is exposed (R109). -/
def Condition.holds (c : Condition) (v : RoomView) (mode : WingMode) (onShift exposed : Bool) : Bool :=
  let notLockdown := decide (mode = .normal ∨ mode = .storm)
  match c with
  | .always => true
  | .never => false
  | .notPrivate => v.notPrivate
  | .roomLet => v.isLet
  | .roomVacant => v.isVacant
  | .roomNotHeld => !v.isHeld
  | .onShift => onShift
  | .onShiftNotPrivate => onShift && v.notPrivate
  | .modeNormal => decide (mode = .normal)
  | .notLockdown => notLockdown
  | .letNotPrivate => v.isLet && v.notPrivate
  | .vacantOrHeld => v.isVacant || v.isHeld
  | .onShiftNotLockdown => onShift && notLockdown
  | .notExposedClosed => decide (mode ≠ .lockdown) && !(decide (mode = .storm) && exposed)
  | .notPrivateNotLockdown => v.notPrivate && notLockdown
  | .onShiftVacantOrHeld => onShift && (v.isVacant || v.isHeld)

/-- The condition of a credential class at a unit, evaluated at this moment (R105, R109). -/
def State.conditionHolds (s : State) (u : UnitId) (cls : Fin 8) : Bool :=
  let ec := s.units[u].entranceClass
  s.decision.conditions[cls][ec].holds (s.roomView u) s.wing.mode (s.decision.shifts[cls].covers s.clock.minute)
    s.decision.entrances[ec].exposed

/-! ## The verdict procedure (chapter 5.1) -/

/-- What the twelve steps decide: the verdict and what its record and event need. -/
inductive Ruling where
  | reread
  | deny (reason : Reason) (card : Option Nat) (recordSlot : Option Slot) (lostCard : Bool)
  | evacPass (card : Option Nat)
  | grant (card : Nat) (guest : Bool)
  deriving DecidableEq, Repr

/-- Step 7: whether class, room slot, generation and issue number agree with the values the record would give (R102). -/
def Credential.agrees (c : Credential) (image : CardImage) : Bool :=
  decide (image.cls = c.cls.val ∧ image.slot = c.imageSlot ∧ image.generation = c.imageGeneration
    ∧ image.issueNumber = c.issueNumber)

/-- Whether a unit is a minibar lock. -/
def UnitKind.isMinibar : UnitKind → Bool
  | .minibarLock _ => true
  | _ => false

/-- Step 9: a room-bound card at a room lock or minibar lock of another room gives the record's room slot (R103). -/
def State.otherRoom (s : State) (u : UnitId) (c : Credential) : Option Slot :=
  match s.unitSlot u, c.slot? with
  | some here, some bound => if here = bound then none else some bound
  | _, _ => none

/-- Step 10: the minibar account's denial, for a room-bound card at a minibar lock (R104). -/
def State.accountDenial (s : State) (u : UnitId) (c : Credential) : Option Reason :=
  match s.units[u].kind with
  | .minibarLock i =>
    if c.binding.isNone then none
    else if s.accounts[i].blocked then some .minibarClosed
    else if s.accounts[i].remaining < s.reserve then some .allowance
    else none
  | _ => none

/-- Steps 7 to 12, for the ACTIVE record of the image's card number (R102 to R105). -/
def State.ruleRecord (s : State) (u : UnitId) (image : CardImage) (c : Credential) : Ruling :=
  if !c.agrees image then .deny .stale image.card? none false
  else
    match windowTest c.window s.nowIndex with
    | some reason => .deny reason image.card? none false
    | none =>
      match s.otherRoom u c with
      | some bound => .deny .wrongRoom image.card? (some bound) false
      | none =>
        match s.accountDenial u c with
        | some reason => .deny reason image.card? none false
        | none =>
          if s.conditionHolds u c.cls then .grant c.number c.binding.isSome
          else .deny .condition image.card? none false

/-- Steps 4 to 6, and then the steps on the record (R100, R101). -/
def State.ruleCard (s : State) (u : UnitId) (image : CardImage) : Ruling :=
  if !s.clock.clockSet then .deny .noClock image.card? none false
  else if s.table.site = 0 ∨ image.site ≠ s.table.site then .deny .foreign image.card? none false
  else
    match s.table.find image.cardNumber with
    | none => .deny .unknown image.card? none false
    | some c =>
      match c.state with
      | .revoked reason => .deny .revoked image.card? none (decide (reason = .lost))
      | .suspended => .deny .suspended image.card? none false
      | .active => s.ruleRecord u image c

/-- The twelve steps in order; the first that applies gives the verdict (R96 to R105). -/
def State.rule (s : State) (u : UnitId) (image : CardImage) : Ruling :=
  if s.units[u].quarantined then .deny .quarantine none none false
  else if !image.intact then .reread
  else if s.wing.mode = .evacuation then
    if s.units[u].kind.isMinibar then .deny .evacuation image.card? none false else .evacPass image.card?
  else s.ruleCard u image

/-- The unlock seconds of a unit's entrance class as they stand (R99, R105). -/
def State.unlockOf (s : State) (u : UnitId) : Nat := s.decision.entrances[s.units[u].entranceClass].unlock

/-- A unit's misread streak set (R98). -/
def State.setMisreads (s : State) (u : UnitId) (n : Nat) : State := s.setUnit u { s.units[u] with misreads := n }

/-- The effects of a REREAD: the streak rises, and the third in a row raises CARD_FAULT (R98). -/
def State.misread (s : State) (u : UnitId) (side : Side) : State :=
  if s.units[u].misreads < 2 then s.setMisreads u (s.units[u].misreads + 1)
  else ((s.setMisreads u 0).appendUnit u none (.cardFault side)).raise .se (.cardFault u)

/-- The effects of a ruling, in the order of R106, and the verdict that goes back to the Quaybus Controller. -/
def State.carryOut (s : State) (u : UnitId) (side : Side) : Ruling → State × Verdict
  | .reread => (s.misread u side, .reread)
  | .deny reason card slot lostCard =>
    let s := (s.setMisreads u 0).appendUnit u card (.denial reason side slot)
    (if lostCard then s.raise .se (.revokedCardSeen u) else s, .deny reason)
  | .evacPass card =>
    let unlock := s.unlockOf u
    let s := (s.setMisreads u 0).createGrant u card false unlock true
    (s.appendUnit u card (.evacPass side unlock), .grant unlock)
  | .grant card guest =>
    let unlock := s.unlockOf u
    ((s.setMisreads u 0).createGrant u (some card) guest unlock false, .grant unlock)

/-- A presentation decided whole at the moment it is handed over (R96, R106). -/
def State.present (s : State) (u : UnitId) (side : Side) (image : CardImage) : State × Verdict :=
  s.carryOut u side (s.rule u image)

/-! ## Openings and closings (chapter 5.5) -/

/-- An OPENED report sets the entrance OPEN and loads the ajar timer with the limit of the entrance class (R124). -/
def State.entranceOpened (s : State) (u : UnitId) : State :=
  let limit := s.decision.entrances[s.units[u].entranceClass].ajarLimit
  (s.setUnit u { s.units[u] with entrance := .opened }).setAjar u (some { remaining := limit, limit := limit })

/-- The Decision Unit's part of an OPENED report (R122, R123, R124). -/
def State.decideOpened (s : State) (u : UnitId) (released : Bool) : State :=
  let s := if released then
      if s.grants[u].isSome then s.concludeEntry u else s.appendUnit u none .entryUnattributed
    else (s.appendUnit u none .forced).raise .se (.forced u)
  s.entranceOpened u

/-- The Decision Unit's part of a CLOSED report (R126). -/
def State.decideClosed (s : State) (u : UnitId) : State :=
  (s.setUnit u { s.units[u] with entrance := .closed }).setAjar u none

/-- An ajar timer's expiry, where it is due: the entrance is AJAR, with its record and event (R125). -/
def expireAjar (u : UnitId) (s : State) : State :=
  match s.ajar[u] with
  | some t =>
    if s.running && decide (t.remaining = 0) then
      let s := (s.setUnit u { s.units[u] with entrance := .ajar }).setAjar u none
      (s.appendUnit u none (.ajar t.limit)).raise .se (.ajar u)
    else s
  | none => s

/-- AJAR_TIMER_EXPIRY (R125). -/
def execAjarTimerExpiry (u : UnitId) (s : State) : Host.Outcome State Fault Refusal := .next (expireAjar u s)

/-! ## Requests on the tables -/

/-- A row of the condition table: the cells of one credential class for entrance classes 0 to 7 (R110). -/
def conditionRow (t : DecisionTables) (cls : Fin 8) : List Byte :=
  t.conditions[cls].toList.flatMap fun c => byte c.code

/-- A condition stored in one cell (R110). -/
def DecisionTables.setCell (t : DecisionTables) (cls ec : Fin 8) (c : Condition) : DecisionTables :=
  { t with conditions := t.conditions.set cls (t.conditions[cls].set ec c) }

/-- SET CONDITION (R110). -/
def setCondition (cls entrance code : Byte) (s : State) : Reply :=
  match indexOf? cls, indexOf? entrance, conditionOf? code with
  | some k, some e, some c =>
    let s := { s with decision := s.decision.setCell k e c }
    accept s (conditionRow s.decision k)
  | _, _, _ => refuse .badValue s

def execSetCondition (p : Port) (cls entrance code : Byte) (s : State) : Host.Outcome State Fault Refusal :=
  .next (s.takeRequest .setCondition p (setCondition cls entrance code))

/-- An entrance class as SET ENTRANCE CLASS stores it, clamped (R111). -/
def clampEntrance (unlock : Byte) (ajarLimit : Half) (exposed : Byte) : EntranceClass :=
  { unlock := clamp 1 30 unlock.toNat, ajarLimit := clamp 10 600 ajarLimit.toNat, exposed := flagOf exposed }

/-- SET ENTRANCE CLASS (R111). -/
def setEntranceClass (entrance unlock : Byte) (ajarLimit : Half) (exposed : Byte) (s : State) : Reply :=
  match indexOf? entrance with
  | none => refuse .badValue s
  | some e =>
    let c := clampEntrance unlock ajarLimit exposed
    accept { s with decision := { s.decision with entrances := s.decision.entrances.set e c } }
      (byte c.unlock ++ be 2 c.ajarLimit ++ flag c.exposed)

def execSetEntranceClass (p : Port) (entrance unlock : Byte) (ajarLimit : Half) (exposed : Byte) (s : State) :
    Host.Outcome State Fault Refusal :=
  .next (s.takeRequest .setEntranceClass p (setEntranceClass entrance unlock ajarLimit exposed))

/-- SET SHIFT (R112). -/
def setShift (cls : Byte) (opens closes : Half) (s : State) : Reply :=
  match indexOf? cls with
  | none => refuse .badValue s
  | some k =>
    if 1439 < opens.toNat ∨ 1439 < closes.toNat then refuse .badValue s
    else
      let h : Shift := { opens := opens.toNat, closes := closes.toNat }
      accept { s with decision := { s.decision with shifts := s.decision.shifts.set k h } }
        (be 2 h.opens ++ be 2 h.closes ++ flag (h.covers s.clock.minute))

def execSetShift (p : Port) (cls : Byte) (opens closes : Half) (s : State) : Host.Outcome State Fault Refusal :=
  .next (s.takeRequest .setShift p (setShift cls opens closes))

end Sys2Proof.Machine
end

