-- ==== Sys2Proof/Machine/Rooms.lean ====
section
/-! DEFINITION. The Room Table (chapter 2): the room requests, stays, and claims. -/

namespace Sys2Proof.Machine

open Sys2Proof

/-- The room number, absent while the room is UNUSED (chapter 2.1). -/
def Occupancy.number? : Occupancy → Option Nat
  | .unused => none
  | .vacant n => some n
  | .letTo n _ => some n
  | .held n => some n

/-- The stay of a LET room. -/
def Occupancy.stay? : Occupancy → Option Stay
  | .letTo _ st => some st
  | _ => none

/-- Whether another slot that is not UNUSED holds this room number (R20). -/
def State.numberTaken (s : State) (i : Slot) (number : Nat) : Bool :=
  allSlots.any fun j => decide (j ≠ i) && s.rooms[j].occupancy.number? == some number

/-! ## The security office's room requests (chapter 2.2) -/

/-- CONFIGURE ROOM (R20). -/
def configureRoom (slot : Byte) (number : Half) (s : State) : Reply :=
  match slotOf? slot with
  | none => refuse .badValue s
  | some i =>
    let n := number.toNat
    if n = 0 ∨ 9999 < n then refuse .badValue s
    else
      match s.rooms[i].occupancy with
      | .letTo _ _ => refuse .wrongState s
      | .held _ => refuse .wrongState s
      | _ =>
        if s.numberTaken i n then refuse .inUse s
        else accept (s.setRoom i { s.rooms[i] with occupancy := .vacant n }) (byte i ++ be 2 n)

def execConfigureRoom (p : Port) (slot : Byte) (number : Half) (s : State) : Host.Outcome State Fault Refusal :=
  .next (s.takeRequest .configureRoom p (configureRoom slot number))

/-- Whether a room lock or a minibar lock is bound to a slot (R21). -/
def State.lockBound (s : State) (i : Slot) : Bool := (s.roomLockOf i).isSome || (s.minibarLockOf i).isSome

/-- REMOVE ROOM (R21). -/
def removeRoom (slot : Byte) (s : State) : Reply :=
  match slotOf? slot with
  | none => refuse .badValue s
  | some i =>
    match s.rooms[i].occupancy with
    | .vacant _ =>
      if s.lockBound i then refuse .inUse s
      else if s.unsettled i then refuse .unsettled s
      else accept ((s.setRoom i { s.rooms[i] with occupancy := .unused }).setAccount i Account.cold) []
    | _ => refuse .wrongState s

def execRemoveRoom (p : Port) (slot : Byte) (s : State) : Host.Outcome State Fault Refusal :=
  .next (s.takeRequest .removeRoom p (removeRoom slot))

/-- HOLD ROOM (R22). -/
def holdRoom (p : Port) (slot : Byte) : State → Reply :=
  claimed p slot true fun i s =>
    match s.rooms[i].occupancy with
    | .vacant n => accept (s.setRoom i { s.rooms[i] with occupancy := .held n }) []
    | _ => refuse .wrongState s

def execHoldRoom (p : Port) (slot : Byte) (s : State) : Host.Outcome State Fault Refusal :=
  .next (s.takeRequest .holdRoom p (holdRoom p slot))

/-- FREE ROOM (R23). -/
def freeRoom (p : Port) (slot : Byte) : State → Reply :=
  claimed p slot true fun i s =>
    match s.rooms[i].occupancy with
    | .held n => accept (s.setRoom i { s.rooms[i] with occupancy := .vacant n }) []
    | _ => refuse .wrongState s

def execFreeRoom (p : Port) (slot : Byte) (s : State) : Host.Outcome State Fault Refusal :=
  .next (s.takeRequest .freeRoom p (freeRoom p slot))

/-! ## Stays (chapter 2.3) -/

/-- The account a CHECK IN sets: the allowance clamped, unblocked where it is above 0 (R131). -/
def Account.open (a : Account) (allowance : Nat) : Account :=
  { a with granted := allowance, remaining := allowance, ceilingMet := false, blocked := decide (allowance = 0) }

/-- CHECK IN carried out (R25). The number of records reclaimed, which R55 adds to the response and gives no position, is sent last,
after the images. DESIGN CHOICE, log entry 27. -/
def checkInRoom (p : Port) (i : Slot) (number : Nat) (cls : Fin 8) (n : Nat) (stay : Stay) (allowance : Nat) (s : State) :
    Reply :=
  let stored := clamp 0 Config.allowanceCeiling allowance
  let room := s.rooms[i]
  let generation := (room.generation + 1) % 256
  let s := s.setRoom i { room with generation := generation, occupancy := .letTo number stay }
  let s := s.setAccount i (s.accounts[i].open stored)
  let reclaimed := s.table.shortfall n
  let r := s.issueBatch p i cls stay.window n
  let s := r.1.append (.port p) none (some i) (.stayCheckIn generation stay.window n)
  let s := logIssues p reclaimed r.2 s
  accept s (byte generation ++ stay.window.bytes ++ be 3 stored ++ imageList s.table.site r.2 ++ byte reclaimed)

/-- The class of a room-bound card, 0 to 3 (R25). -/
def guestClass? (cls : Byte) : Option (Fin 8) := (indexOf? cls).filter fun k => decide (k.val < 4)

/-- Whether a class and a card count are in range for a batch (R25, R26). -/
def batchFields (cls count : Byte) : Bool := (guestClass? cls).isSome && decide (1 ≤ count.toNat ∧ count.toNat ≤ 8)

/-- The class of a batch whose fields are in range. -/
def batchClass (cls : Byte) : Fin 8 := (guestClass? cls).getD 0

/-- CHECK IN (R25). -/
def checkIn (p : Port) (slot cls count : Byte) (arrival departure : DayMinute) (allowance : Triple) : State → Reply :=
  claimed p slot (batchFields cls count) fun i s =>
    match s.rooms[i].occupancy with
    | .vacant number =>
      if s.unsettled i then refuse .unsettled s
      else if !s.clock.clockSet then refuse .noClock s
      else
        match deriveWindow (momentOf arrival) (momentOf departure) s.clock.grace s.nowIndex with
        | none => refuse .badWindow s
        | some w =>
          match s.table.admitBatch i count.toNat with
          | some st => refuse st s
          | none =>
            checkInRoom p i number (batchClass cls) count.toNat
              { arrival := momentOf arrival, departure := momentOf departure, window := w } allowance.toNat s
    | _ => refuse .wrongState s

def execCheckIn (p : Port) (slot cls count : Byte) (arrival departure : DayMinute) (allowance : Triple) (s : State) :
    Host.Outcome State Fault Refusal :=
  .next (s.takeRequest .checkIn p (checkIn p slot cls count arrival departure allowance))

/-- ADD CARDS carried out (R26). The number of records reclaimed, which R55 adds to the response and gives no position, is sent last,
after the images. DESIGN CHOICE, log entry 27. -/
def addCardsTo (p : Port) (i : Slot) (cls : Fin 8) (n : Nat) (w : Window) (s : State) : Reply :=
  let reclaimed := s.table.shortfall n
  let r := s.issueBatch p i cls w n
  let s := logIssues p reclaimed r.2 r.1
  accept s (imageList s.table.site r.2 ++ byte reclaimed)

/-- ADD CARDS (R26). -/
def addCards (p : Port) (slot cls count : Byte) : State → Reply :=
  claimed p slot (batchFields cls count) fun i s =>
    match s.rooms[i].occupancy with
    | .letTo _ stay =>
      if !s.clock.clockSet then refuse .noClock s
      else if stay.window.stop.index ≤ s.nowIndex then refuse .badWindow s
      else
        match s.table.admitBatch i count.toNat with
        | some st => refuse st s
        | none => addCardsTo p i (batchClass cls) count.toNat stay.window s
    | _ => refuse .wrongState s

def execAddCards (p : Port) (slot cls count : Byte) (s : State) : Host.Outcome State Fault Refusal :=
  .next (s.takeRequest .addCards p (addCards p slot cls count))

/-- The window of every room-bound record of a slot that is not REVOKED moved (R57). -/
def CardTable.moveWindows (t : CardTable) (i : Slot) (w : Window) : CardTable :=
  { t with cards := t.cards.map fun c => if c.slot? == some i && !c.isRevoked then { c with window := w } else c }

/-- CHANGE STAY carried out (R27). -/
def changeStayOf (p : Port) (i : Slot) (number : Nat) (stay : Stay) (departure stop : Moment) (s : State) : Reply :=
  let w : Window := { start := stay.window.start, stop := stop }
  let s := s.setRoom i { s.rooms[i] with occupancy := .letTo number { stay with departure := departure, window := w } }
  let s := { s with table := s.table.moveWindows i w }
  let s := s.append (.port p) none (some i) (.stayChange stay.window.stop stop)
  accept s w.bytes

/-- CHANGE STAY (R27). -/
def changeStay (p : Port) (slot : Byte) (departure : DayMinute) : State → Reply :=
  claimed p slot true fun i s =>
    match s.rooms[i].occupancy with
    | .letTo number stay =>
      if !s.clock.clockSet then refuse .noClock s
      else
        match deriveWindow stay.arrival (momentOf departure) s.clock.grace s.nowIndex with
        | none => refuse .badWindow s
        | some w => changeStayOf p i number stay (momentOf departure) w.stop s
    | _ => refuse .wrongState s

def execChangeStay (p : Port) (slot : Byte) (departure : DayMinute) (s : State) : Host.Outcome State Fault Refusal :=
  .next (s.takeRequest .changeStay p (changeStay p slot departure))

/-- The revocations of a check-out: the room's records that are not REVOKED, in ascending card number order (R63). -/
def CardTable.revokeAll (t : CardTable) (cards : List Credential) : CardTable :=
  cards.foldl (fun t c => t.revoke c.number .checkout) t

/-- The REVOKE records of a check-out (R63). -/
def logRevokes (p : Port) (cards : List Credential) (s : State) : State :=
  cards.foldl (fun s c => s.logRevoke p c .checkout) s

/-- A session at the room's minibar lock ended by a check-out, with relock pending set on that unit (R28, R136). -/
def State.endRoomSession (s : State) (i : Slot) : State :=
  match s.minibarLockOf i with
  | some u => s.endSessionRelock u .checkout
  | none => s

/-- CHECK OUT carried out (R28). -/
def checkOutRoom (p : Port) (i : Slot) (number : Nat) (s : State) : Reply :=
  let cards := s.table.liveOf i
  let s := { s with table := s.table.revokeAll cards }
  let s := s.setRoom i { s.rooms[i] with occupancy := .vacant number }
  let s := s.setAccount i { s.accounts[i] with blocked := true }
  let s := s.append (.port p) none (some i) (.stayCheckOut cards.length)
  let s := (logRevokes p cards s).endRoomSession i
  accept s (byte cards.length ++ flag (s.unsettled i))

/-- CHECK OUT (R28). -/
def checkOut (p : Port) (slot : Byte) : State → Reply :=
  claimed p slot true fun i s =>
    match s.rooms[i].occupancy with
    | .letTo number _ => checkOutRoom p i number s
    | _ => refuse .wrongState s

def execCheckOut (p : Port) (slot : Byte) (s : State) : Host.Outcome State Fault Refusal :=
  .next (s.takeRequest .checkOut p (checkOut p slot))

/-- A stay as READ ROOM carries it: arrival, departure and card window, sent as 0 where the room is not LET (R29, R204). -/
def stayBytes : Option Stay → List Byte
  | none => List.replicate 16 0
  | some st => st.arrival.bytes ++ st.departure.bytes ++ st.window.bytes

/-- READ ROOM (R29). -/
def readRoom (slot : Byte) (s : State) : Reply :=
  match slotOf? slot with
  | none => refuse .badValue s
  | some i =>
    let r := s.rooms[i]
    accept s (byte r.occupancy.code ++ orZero 2 r.occupancy.number? ++ byte r.generation ++ be 2 r.issueCounter
      ++ stayBytes r.occupancy.stay? ++ byte r.privacy.code ++ byte (holderCode (s.holder i)) ++ byte (s.leaseOf i)
      ++ flag (s.unsettled i) ++ byte (s.table.liveOf i).length ++ optUnitBytes (s.roomLockOf i)
      ++ optUnitBytes (s.minibarLockOf i))

def execReadRoom (p : Port) (slot : Byte) (s : State) : Host.Outcome State Fault Refusal :=
  .next (s.takeRequest .readRoom p (readRoom slot))

/-! ## Claims (chapter 2.4) -/

/-- What CLAIM answers: the holder and the lease (R31, R32). -/
def claimBody (holder : Port) (lease : Nat) : List Byte := byte (holderCode (some holder)) ++ byte lease

/-- A claim taken or renewed (R31). -/
def takeClaim (p : Port) (i : Slot) (s : State) : Reply := accept (s.loadLease i p) (claimBody p Config.leaseSeconds)

/-- SE takes FO's claim (R32). -/
def preemptClaim (i : Slot) (lease : Nat) (s : State) : Reply :=
  let s := s.loadLease i .se
  let s := s.raise .fo (.claimLost i .preempted)
  accept (s.append (.port .se) none (some i) (.claimPreempt lease)) (claimBody .se Config.leaseSeconds)

/-- CLAIM (R31, R32). R31 gives two refusals and no order between them: a PREEMPT from FO for a slot above 127 is refused
BAD_VALUE here, before NOT_PERMITTED. DESIGN CHOICE, log entry 28. -/
def claim (p : Port) (slot preempt : Byte) (s : State) : Reply :=
  match slotOf? slot with
  | none => refuse .badValue s
  | some i =>
    if p = .fo ∧ flagOf preempt then refuse .notPermitted s
    else
      match s.claims[i] with
      | none => takeClaim p i s
      | some c =>
        if c.holder = p then takeClaim p i s
        else if p = .se ∧ flagOf preempt then preemptClaim i c.lease s
        else (s, { status := .claimedElsewhere, body := claimBody c.holder c.lease })

def execClaim (p : Port) (slot preempt : Byte) (s : State) : Host.Outcome State Fault Refusal :=
  .next (s.takeRequest .claim p (claim p slot preempt))

/-- RELEASE CLAIM (R33). -/
def releaseClaim (p : Port) (slot : Byte) (s : State) : Reply :=
  match slotOf? slot with
  | none => refuse .badValue s
  | some i => if s.holder i = some p then accept (s.setClaim i none) [] else refuse .notClaimed s

def execReleaseClaim (p : Port) (slot : Byte) (s : State) : Host.Outcome State Fault Refusal :=
  .next (s.takeRequest .releaseClaim p (releaseClaim p slot))

/-- A lease expiry, where it is due: the claim is freed and its holder told (R34). -/
def expireLease (i : Slot) (s : State) : State :=
  match s.claims[i] with
  | some c =>
    if s.running && decide (c.lease = 0) then (s.setClaim i none).raise c.holder (.claimLost i .expired) else s
  | none => s

/-- CLAIM_LEASE_EXPIRY (R34). -/
def execClaimLeaseExpiry (i : Slot) (s : State) : Host.Outcome State Fault Refusal := .next (expireLease i s)

/-- One room's claim freed by the expiry of its holder's link (R36). -/
def freeForLink (p : Port) (s : State) (i : Slot) : State :=
  if s.holder i = some p then (s.setClaim i none).raise p (.claimLost i .link) else s

/-- Every claim of a port freed, in ascending slot order (R36). -/
def State.freeClaims (s : State) (p : Port) : State := allSlots.foldl (freeForLink p) s

/-- The number of claims a port holds. -/
def State.claimCount (s : State) (p : Port) : Nat := allSlots.countP fun i => s.holder i == some p

end Sys2Proof.Machine
end

