-- ==== Sys2Proof/Machine/Ports.lean ====
section
/-! DEFINITION. The station ports' own requests and transactions (chapter 9): events, link supervision, identification, and the
response transaction. -/

namespace Sys2Proof.Machine

open Sys2Proof

/-! ## Response transactions (chapter 9.3) -/

/-- The RSP byte of a response transaction received: what the port will send is fixed (R185). -/
def rspByteReceived (p : Port) (s : State) : State :=
  if !s.running then s else s.setPort p { s.port p with fixed := some (s.port p).fix }

/-- RSP_BYTE_RECEIVED (R185). -/
def execRspByteReceived (p : Port) (s : State) : Host.Outcome State Fault Refusal := .next (rspByteReceived p s)

/-- What the port sends while the master clocks `n` bytes: the response, and 0 after its end (R185). -/
def Fixed.sentBytes (f : Fixed) (n : Nat) : List Byte := f.bytes.take n ++ List.replicate (n - f.bytes.length) 0

/-- Whether the master clocked every byte of the response (R185, chapter 11.4). -/
def Fixed.readInFull (f : Fixed) (n : Nat) : Bool := decide (f.bytes.length ≤ n)

/-- The port after a response read in full: the slot is empty and an OVERRUN the response carried is cleared; a NONE response
changes nothing (R185). -/
def PortState.readOut (q : PortState) (f : Fixed) : PortState :=
  if f.status = .none then q
  else { q with slot := none, overrun := if f.overrun then false else q.overrun }.withAttn

/-- A response transaction taken, in which the master clocked `clocked` bytes after RSP (R185). Where no RSP byte was announced
before, what is sent is fixed within this step. -/
def responseTransaction (p : Port) (clocked : Nat) (s : State) : State :=
  if !s.running then s
  else
    let q := s.port p
    let f := q.fixed.getD q.fix
    let q := if f.readInFull clocked then q.readOut f else q
    s.setPort p { q with fixed := none, sent := f.sentBytes clocked }

/-- RESPONSE_TRANSACTION (R185). -/
def execResponseTransaction (p : Port) (clocked : Nat) (s : State) : Host.Outcome State Fault Refusal :=
  .next (responseTransaction p clocked s)

/-- TRANSACTION_DISCARDED: it changes no state, places nothing in the response slot and sets no flag (R182). -/
def execTransactionDiscarded (_ : Port) (_ : List Byte) (s : State) : Host.Outcome State Fault Refusal := .next s

/-! ## Events (chapter 9.5) -/

/-- READ EVENTS (R190). -/
def readEvents (p : Port) (count : Byte) (s : State) : Reply :=
  if count = 0 ∨ 8 < count.toNat then refuse .badValue s
  else
    let q := s.port p
    let taken := q.events.take count.toNat
    let left := q.events.drop count.toNat
    accept (s.setPort p { q with events := left, eventsLost := false }.withAttn)
      (byte taken.length ++ taken.flatMap Event.bytes ++ flag q.eventsLost ++ byte left.length)

def execReadEvents (p : Port) (count : Byte) (s : State) : Host.Outcome State Fault Refusal :=
  .next (s.takeRequest .readEvents p (readEvents p count))

/-! ## Link supervision (chapter 9.6) -/

/-- A port's supervision expires (R193). -/
def State.superviseExpire (s : State) (p : Port) : State :=
  let s := s.setPort p { s.port p with linkLost := true, timer := none }
  let claims := s.claimCount p
  let s := s.freeClaims p
  let r := s.log.reader p
  let s := { s with log := s.log.setReader p { r with policy := .yields } }
  let s := s.append (.port p) none none (.linkExpired claims r.policy)
  s.raise (otherPort p) .peerLinkLost

/-- A supervision timer's expiry, where it is due; on a lost link it does nothing (R193, R194). -/
def expireSupervision (p : Port) (s : State) : State :=
  if s.running && decide ((s.port p).timer = some 0) && !(s.port p).linkLost then s.superviseExpire p else s

/-- SUPERVISION_TIMER_EXPIRY (R193). -/
def execSupervisionTimerExpiry (p : Port) (s : State) : Host.Outcome State Fault Refusal := .next (expireSupervision p s)

/-- SET SUPERVISION (R191). -/
def setSupervision (p : Port) (interval : Byte) (s : State) : Reply :=
  if (s.port p).supervised then refuse .alreadySet s
  else
    let n := clamp 1 255 interval.toNat
    accept (s.setPort p { s.port p with supervised := true, interval := n, timer := some n }) (byte n)

def execSetSupervision (p : Port) (interval : Byte) (s : State) : Host.Outcome State Fault Refusal :=
  .next (s.takeRequest .setSupervision p (setSupervision p interval))

/-- What a KEEPALIVE's responses carry: the link state after the request and the seconds the timer now holds (R192). -/
def keepaliveBody (q : PortState) : List Byte := byte (portLinkCode q.linkLost) ++ byte (q.timer.getD 0)

/-- A KEEPALIVE answered from the state it leaves (R192). -/
def keepaliveReply (p : Port) (st : Status) (s : State) : Reply := (s, { status := st, body := keepaliveBody (s.port p) })

/-- KEEPALIVE (R192). -/
def keepalive (p : Port) (token : Half) (s : State) : Reply :=
  let q := s.port p
  if !q.supervised then
    if token = Config.keepaliveToken then keepaliveReply p .ok s else keepaliveReply p .badValue s
  else if token = Config.keepaliveToken then
    keepaliveReply p .ok (s.setPort p { q with linkLost := false, timer := some q.interval })
  else if q.linkLost then keepaliveReply p .linkLost s
  else keepaliveReply p .linkLost (s.superviseExpire p)

def execKeepalive (p : Port) (token : Half) (s : State) : Host.Outcome State Fault Refusal :=
  .next (s.takeRequest .keepalive p (keepalive p token))

/-! ## Identification (chapter 9.7) -/

/-- The capacities IDENTIFY reports, in the order of R195. DESIGN CHOICE, log entry 9: the widths of capacities, and that the 8
cards per room and per batch are one item of one byte. -/
def capacityBytes : List Byte :=
  byte 128 ++ be 2 Config.maxCards ++ byte 2 ++ byte 120 ++ be 2 Config.maxRecords ++ byte Config.maxSchedule ++ byte 6
    ++ byte Config.maxEvents ++ byte Config.maxRoomCards

/-- IDENTIFY (R195). The vendor code is sent in 2 bytes: R204 names no width of its own for it, and 0x5347 does not fit the 1 byte
of every other item. DESIGN CHOICE, log entry 9. -/
def identify (p : Port) (s : State) : Reply :=
  let q := s.port p
  accept s (be 2 Config.vendorCode ++ byte Config.partCode ++ byte Config.revision ++ byte (portCode p) ++ capacityBytes
    ++ flag q.supervised ++ byte q.interval ++ byte (q.timer.getD 0) ++ byte (portLinkCode q.linkLost))

def execIdentify (p : Port) (s : State) : Host.Outcome State Fault Refusal :=
  .next (s.takeRequest .identify p (identify p))

end Sys2Proof.Machine
end

