-- ==== Sys2Proof/Machine/Clock.lean ====
section
/-! DEFINITION. The Clock Unit (chapter 1): crystal cycles, second ticks with the expiries of the elapsed timers, and the requests
that set and read the clock and the checkout grace. -/

namespace Sys2Proof.Machine

open Sys2Proof

/-- An elapsed timer, by its owner's record (chapter 1.4). -/
inductive Timer where
  | lease (slot : Slot)
  | grant (unit : UnitId)
  | ajar (unit : UnitId)
  | session (unit : UnitId)
  | pulse (gate : Gate)
  | supervision (port : Port)
  deriving DecidableEq, Repr

/-- The indices of the entries that satisfy a test, ascending. -/
def indicesWhere {α : Type} {n : Nat} (v : Vector α n) (test : α → Bool) : List (Fin n) :=
  ((List.finRange n).zip v.toList).filterMap fun x => if test x.2 then some x.1 else none

/-- Whether a session's expiry runs with a count that a tick brings to 0. -/
def SessionPhase.lastSecond : SessionPhase → Bool
  | .awaitingOpen n => decide (n ≤ 1)
  | .inUse => false

/-- The timers that a tick brings to 0, in the order in which it takes their expiries: the order of the table of chapter 1.4, and
each owner's own order within it. DESIGN CHOICE, log entry 4: no rule gives the order of the expiries of one tick. -/
def State.lastSecondTimers (s : State) : List Timer :=
  (indicesWhere s.claims fun c => c.any fun c => decide (c.lease ≤ 1)).map .lease
    ++ (indicesWhere s.grants fun g => g.any fun g => decide (g.expiry ≤ 1)).map .grant
    ++ (indicesWhere s.ajar fun t => t.any fun t => decide (t.remaining ≤ 1)).map .ajar
    ++ (indicesWhere s.sessions fun x => x.any fun x => x.phase.lastSecond).map .session
    ++ (indicesWhere s.gates.pulses fun n => n.any fun n => decide (n ≤ 1)).map .pulse
    ++ ([Port.fo, .se].filter fun p => (s.port p).timer.any fun n => decide (n ≤ 1)).map .supervision

/-- A timer's expiry, where its count stands at 0: it stops, and its owner carries out what its chapter gives (R10, R34, R115,
R125, R134, R155, R193). -/
def expireTimer (t : Timer) (s : State) : State :=
  match t with
  | .lease i => expireLease i s
  | .grant u => expireGrant u s
  | .ajar u => expireAjar u s
  | .session u => expireSession u s
  | .pulse g => expirePulse g s
  | .supervision p => expireSupervision p s

/-- The expiries of these timers, one after the other; one that an expiry before it has stopped does nothing (R10, R134). -/
def State.expireTimers (s : State) (due : List Timer) : State := due.foldl (fun x t => expireTimer t x) s

/-- A second tick. It advances the clock whenever the retention domain is powered (R1, R2, R4). While the part runs a minute tick
works the scheduled levels out (R2), and the tick reaches every running elapsed timer: it lowers each count, and each timer it
brings to 0 expires (R10). During a start and while RST is asserted no timer runs and a minute tick changes nothing (R199). -/
def secondTick (s : State) : State :=
  if !s.power.retained then s
  else
    let r := s.clock.tick
    let ticked := { s with clock := r.1 }
    if !s.running then ticked
    else (if r.2 then ticked.tickTimers.workLevels else ticked.tickTimers).expireTimers s.lastSecondTimers

/-- SECOND_TICK (R1, R2, R3, R10). -/
def execSecondTick (s : State) : Host.Outcome State Fault Refusal := .next (secondTick s)

/-- A crystal cycle: it adds one to the prescaler, and the cycle that would take it past 32767 produces the second tick (R1). -/
def crystalCycle (s : State) : State :=
  if !s.power.retained then s
  else if s.clock.prescaler < 32767 then { s with clock := { s.clock with prescaler := s.clock.prescaler + 1 } }
  else secondTick s

/-- CRYSTAL_CYCLE (R1). -/
def execCrystalCycle (s : State) : Host.Outcome State Fault Refusal := .next (crystalCycle s)

/-- The clock after an accepted SET CLOCK (R7, steps 1 and 2). -/
def Clock.setTo (c : Clock) (m : Moment) : Clock :=
  { c with day := m.day, minute := m.minute, second := 0, prescaler := 0, clockSet := true, clockEnd := false }

/-- SET CLOCK (R7). -/
def setClock (p : Port) (reading : DayMinute) (s : State) : Reply :=
  let m := momentOf reading
  if 1439 < m.minute then refuse .badValue s
  else
    let old := s.nowIndex
    let s := ({ s with clock := s.clock.setTo m }).workLevels
    let s := s.append (.port p) none none (.clockSet old m.index)
    let s := s.raise (otherPort p) .clockSet
    accept s s.now.bytes

def execSetClock (p : Port) (reading : DayMinute) (s : State) : Host.Outcome State Fault Refusal :=
  .next (s.takeRequest .setClock p (setClock p reading))

/-- READ CLOCK (R9). -/
def readClock (s : State) : Reply :=
  accept s (s.now.bytes ++ flag s.clock.clockSet ++ flag s.clock.clockEnd ++ byte s.clock.grace)

def execReadClock (p : Port) (s : State) : Host.Outcome State Fault Refusal :=
  .next (s.takeRequest .readClock p readClock)

/-- SET GRACE (R11). -/
def setGrace (grace : Byte) (s : State) : Reply :=
  let g := clamp 0 Config.maxGrace grace.toNat
  accept { s with clock := { s.clock with grace := g } } (byte g)

def execSetGrace (p : Port) (grace : Byte) (s : State) : Host.Outcome State Fault Refusal :=
  .next (s.takeRequest .setGrace p (setGrace grace))

end Sys2Proof.Machine
end

