-- ==== Sys2Proof/Machine/Log.lean ====
section
/-! DEFINITION. Reading the entry log through a port's cursor (chapter 8.5 and 8.6). -/

namespace Sys2Proof.Machine

open Sys2Proof

/-- The oldest held sequence number; the next sequence number where no record is held. DESIGN CHOICE, log entry 8. -/
def EntryLog.oldest (l : EntryLog) : Nat := (l.records.head?.map LogRecord.seq).getD l.next

/-- The held records from a port's cursor onwards, at most `count` (R176). -/
def EntryLog.readable (l : EntryLog) (p : Port) (count : Nat) : List LogRecord :=
  (l.records.drop (seqDistance l.oldest (l.reader p).cursor)).take count

/-- READ LOG (R176); the body is laid out after Table 11-5. -/
def readLog (p : Port) (count : Byte) (s : State) : Reply :=
  if count = 0 ∨ 8 < count.toNat then refuse .badValue s
  else
    let taken := s.log.readable p count.toNat
    let r := s.log.reader p
    let cursor := (r.cursor + taken.length) % Config.seqModulus
    let log := s.log.setReader p { r with cursor := cursor, skipped := 0 }
    accept { s with log := log }
      (byte taken.length ++ taken.flatMap LogRecord.bytes ++ be 2 r.skipped ++ be 2 (log.unread p) ++ be 4 log.oldest
        ++ be 4 log.next ++ be 2 log.lost ++ byte r.policy.code ++ be 2 r.threshold)

def execReadLog (p : Port) (count : Byte) (s : State) : Host.Outcome State Fault Refusal :=
  .next (s.takeRequest .readLog p (readLog p count))

/-- SET LOG POLICY (R178). -/
def setLogPolicy (p : Port) (policy : Byte) (s : State) : Reply :=
  match policyOf? policy with
  | none => refuse .badValue s
  | some policy =>
    let r := s.log.reader p
    accept { s with log := s.log.setReader p { r with policy := policy } }
      (byte policy.code ++ be 2 (s.log.unread p) ++ be 2 r.skipped)

def execSetLogPolicy (p : Port) (policy : Byte) (s : State) : Host.Outcome State Fault Refusal :=
  .next (s.takeRequest .setLogPolicy p (setLogPolicy p policy))

/-- SET LOG THRESHOLD (R180). -/
def setLogThreshold (p : Port) (threshold : Half) (s : State) : Reply :=
  let stored := clamp 1 Config.maxRecords threshold.toNat
  accept { s with log := s.log.setReader p { s.log.reader p with threshold := stored } }
    (be 2 stored ++ be 2 (s.log.unread p))

def execSetLogThreshold (p : Port) (threshold : Half) (s : State) : Host.Outcome State Fault Refusal :=
  .next (s.takeRequest .setLogThreshold p (setLogThreshold p threshold))

end Sys2Proof.Machine
end

