-- ==== Sys2Proof/Machine/Units.lean ====
section
/-! DEFINITION. The Unit Table (chapter 4.2 and 4.7): configuring, removing, readmitting and reading units, tamper, and the
counters of the buses as the station ports read them. -/

namespace Sys2Proof.Machine

open Sys2Proof

/-- Whether another unit record, on either bus, is of this kind and bound to this room (R72, step 4). -/
def State.boundElsewhere (s : State) (u : UnitId) (kind : UnitKind) : Bool :=
  kind.slot?.isSome && allUnits.any fun v => decide (v ≠ u) && s.units[v].kind == kind

/-- Whether a kind is bound to a room slot that is UNUSED (R72, step 3). -/
def State.slotUnused (s : State) (kind : UnitKind) : Bool :=
  match kind.slot? with
  | some i => decide (s.rooms[i].occupancy = .unused)
  | none => false

/-- Whether a unit holds a pending grant or an open session (R72, R74). -/
def State.unitBusy (s : State) (u : UnitId) : Bool := s.grants[u].isSome || s.sessions[u].isSome

/-- Privacy UNKNOWN on the room of a room lock, and nothing for another kind (R39). -/
def State.forgetPrivacy (s : State) : UnitKind → State
  | .roomLock i => s.setPrivacy i .unknown
  | _ => s

/-- A unit record as CONFIGURE UNIT leaves it: quarantine and relock keep their values (R73). -/
def UnitRec.configured (r : UnitRec) (kind : UnitKind) (ec : Fin 8) : UnitRec :=
  { UnitRec.cold with kind := kind, entranceClass := ec, quarantined := r.quarantined, relock := r.relock }

/-- An entrance state as READ UNIT carries it; a gate reader has none (R71, R204). -/
def UnitRec.entranceItem (r : UnitRec) : Nat :=
  match r.kind with
  | .gateReader _ => 0
  | _ => r.entrance.code

/-- A last status as READ UNIT carries it: the mode held and the strike, both 0 for UNKNOWN (R71, R204).
DEDUCED, log entry 6. -/
def statusItem : Option UnitStatus → List Byte
  | none => [0, 0]
  | some st => byte st.mode.code ++ byte (strikeCode st.released)

/-- Every field of the table of R71, in its order. -/
def UnitRec.bytes (r : UnitRec) : List Byte :=
  byte r.kind.code ++ byte r.entranceClass ++ orZero 1 (r.kind.slot?.map Fin.val) ++ orZero 1 (r.kind.gate?.map Fin.val)
    ++ flag r.quarantined ++ byte r.link.code ++ byte r.misses ++ byte (answerBitCode r.expected) ++ statusItem r.lastStatus
    ++ byte r.misreads ++ byte r.entranceItem ++ flag r.relock

/-- CONFIGURE UNIT carried out (R73). -/
def configureUnitAs (u : UnitId) (kind : UnitKind) (ec : Fin 8) (s : State) : Reply :=
  let old := s.units[u]
  let s := (s.setUnit u (old.configured kind ec)).setAjar u none
  let s := (s.forgetPrivacy old.kind).forgetPrivacy kind
  accept s s.units[u].bytes

/-- CONFIGURE UNIT (R72, R73). -/
def configureUnit (bus address kind cls slot gate : Byte) (s : State) : Reply :=
  match unitOf? bus address, kindOf? kind slot gate, indexOf? cls with
  | some u, some k, some ec =>
    if s.unitBusy u then refuse .wrongState s
    else if s.slotUnused k then refuse .wrongState s
    else if s.boundElsewhere u k then refuse .inUse s
    else configureUnitAs u k ec s
  | _, _, _ => refuse .badValue s

def execConfigureUnit (p : Port) (bus address kind cls slot gate : Byte) (s : State) : Host.Outcome State Fault Refusal :=
  .next (s.takeRequest .configureUnit p (configureUnit bus address kind cls slot gate))

/-- REMOVE UNIT (R74). -/
def removeUnit (bus address : Byte) (s : State) : Reply :=
  match unitOf? bus address with
  | none => refuse .badValue s
  | some u =>
    if s.units[u].kind = .absent then refuse .notFound s
    else if s.unitBusy u then refuse .wrongState s
    else accept (((s.setAjar u none).forgetPrivacy s.units[u].kind).setUnit u UnitRec.cold) []

def execRemoveUnit (p : Port) (bus address : Byte) (s : State) : Host.Outcome State Fault Refusal :=
  .next (s.takeRequest .removeUnit p (removeUnit bus address))

/-- READMIT UNIT (R90). -/
def readmitUnit (p : Port) (bus address : Byte) (s : State) : Reply :=
  match unitOf? bus address with
  | none => refuse .badValue s
  | some u =>
    if s.units[u].kind = .absent then refuse .notFound s
    else if s.units[u].quarantined then
      accept ((s.setUnit u { s.units[u] with quarantined := false }).append (.port p) none none (.readmit u)) []
    else accept s []

def execReadmitUnit (p : Port) (bus address : Byte) (s : State) : Host.Outcome State Fault Refusal :=
  .next (s.takeRequest .readmitUnit p (readmitUnit p bus address))

/-- A pending grant as READ UNIT carries it: whether one is held, its card number and whether it is acknowledged (R75). -/
def grantItems : Option Grant → List Byte
  | none => flag false ++ be 3 0 ++ flag false
  | some g => flag true ++ orZero 3 g.card ++ flag g.acknowledged

/-- A session as READ UNIT carries it: whether one is open, its state, its kind and its room slot (R75). -/
def sessionItems : Option Session → List Byte
  | none => flag false ++ [0, 0, 0]
  | some x => flag true ++ byte x.phase.code ++ byte x.kind.code ++ byte x.slot

/-- READ UNIT (R75). -/
def readUnit (bus address : Byte) (s : State) : Reply :=
  match unitOf? bus address with
  | none => refuse .badValue s
  | some u => accept s (s.units[u].bytes ++ grantItems s.grants[u] ++ sessionItems s.sessions[u])

def execReadUnit (p : Port) (bus address : Byte) (s : State) : Host.Outcome State Fault Refusal :=
  .next (s.takeRequest .readUnit p (readUnit bus address))

/-- A TAMPER report of a unit (R89). -/
def State.tamper (s : State) (u : UnitId) : State :=
  let s := s.setUnit u { s.units[u] with quarantined := true }
  let s := (s.concludeCut u .quarantine).endSession u .quarantine
  let s := s.setRelock u
  (s.appendUnit u none (.unitTamper (s.unitGate u))).raise .se (.unitTamper u)

/-! ## The counters of a bus (chapter 4.8) -/

/-- The four counts of a bus (R92, R93). -/
def BusState.counts (c : BusState) : List Byte := be 2 c.crcErrors ++ be 2 c.strays ++ be 2 c.timeouts ++ be 2 c.malformed

/-- How many configured units of a bus have a property (R93). -/
def State.countUnits (s : State) (line : Bus) (f : UnitRec → Bool) : Nat :=
  allUnits.countP fun u => busOf u == line && decide (s.units[u].kind ≠ .absent) && f s.units[u]

/-- READ BUS (R93). -/
def readBus (bus : Byte) (s : State) : Reply :=
  match busOf? bus with
  | none => refuse .badValue s
  | some line =>
    let c := s.bus line
    accept s (c.counts ++ byte c.round ++ byte c.position ++ flag c.broadcast
      ++ byte (s.countUnits line fun r => r.link == .unknown) ++ byte (s.countUnits line fun r => r.link == .online)
      ++ byte (s.countUnits line fun r => r.link == .silent) ++ byte (s.countUnits line fun r => r.quarantined))

def execReadBus (p : Port) (bus : Byte) (s : State) : Host.Outcome State Fault Refusal :=
  .next (s.takeRequest .readBus p (readBus bus))

/-- A bus with its four counts at 0. -/
def BusState.clearCounts (c : BusState) : BusState := { c with crcErrors := 0, strays := 0, timeouts := 0, malformed := 0 }

/-- CLEAR BUS COUNTERS (R94). -/
def clearBusCounters (bus : Byte) (s : State) : Reply :=
  match busOf? bus with
  | none => refuse .badValue s
  | some line => accept (s.setBus line (s.bus line).clearCounts) (s.bus line).counts

def execClearBusCounters (p : Port) (bus : Byte) (s : State) : Host.Outcome State Fault Refusal :=
  .next (s.takeRequest .clearBusCounters p (clearBusCounters bus))

end Sys2Proof.Machine
end

