-- ==== Sys2Proof/Machine/Quaybus.lean ====
section
/-! DEFINITION. The Quaybus Controllers (chapter 4): frames and their checks, the rota, the poll and the verdict transaction, and
the handing over of an answer's content. -/

namespace Sys2Proof.Machine

open Sys2Proof

/-! ## Frames (chapters 4.1 and 11.3) -/

/-- One bit shifted into the CRC-16, polynomial x^16 + x^12 + x^5 + 1 with no reflection (R68). -/
def crcBit (crc : BitVec 16) : BitVec 16 := if crc.msb then (crc <<< 1) ^^^ 0x1021 else crc <<< 1

/-- One byte taken into the CRC-16 (R68). -/
def crcByte (crc : BitVec 16) (b : Byte) : BitVec 16 :=
  Nat.repeat crcBit 8 (crc ^^^ (b.setWidth 16 <<< 8))

/-- The CRC-16 of a run of bytes, from an initial value of 0xFFFF (R68). -/
def crc16 (bytes : List Byte) : BitVec 16 := bytes.foldl crcByte 0xFFFF

/-- A frame: address, kind, payload length, payload, and the CRC high byte first (R68). -/
def frameOf (address kind : Nat) (payload : List Byte) : List Byte :=
  let body := byte address ++ byte kind ++ byte payload.length ++ payload
  body ++ be 2 (crc16 body).toNat

/-- The POLL frame to a unit: the wing mode, the relock flag and the accepted-answer bit (R80, Table 11-1). -/
def pollFrame (u : UnitId) (mode : WingMode) (relock : Bool) (expected : Option Bool) : List Byte :=
  frameOf (addressOf u) 0x10 (byte mode.code ++ flag relock ++ byte (answerBitCode expected))

/-- A verdict's code, unlock seconds and reason code (Table 11-1, R203). -/
def Verdict.bytes : Verdict → List Byte
  | .grant unlock => byte 1 ++ byte unlock ++ byte 0
  | .deny reason => byte 2 ++ byte 0 ++ byte reason.code
  | .reread => byte 3 ++ byte 0 ++ byte 0

/-- The VERDICT frame to a unit (R86). -/
def verdictFrame (u : UnitId) (v : Verdict) : List Byte := frameOf (addressOf u) 0x11 v.bytes

/-- The MODE frame to address 0 (R78). -/
def modeFrame (mode : WingMode) : List Byte := frameOf 0 0x12 (byte mode.code)

/-- One report of an ANSWER (R69). -/
inductive Report where
  | opened (released : Bool)
  | closed
  | deadboltOn
  | deadboltOff
  | tamper
  | items (item : Fin 12) (removed returned : Nat)
  deriving DecidableEq, Repr

/-- The content of a well-formed ANSWER (R69). -/
structure AnswerContent where
  bit : Bool
  status : UnitStatus
  reports : List Report
  card : Option (Side × CardImage)
  deriving DecidableEq, Repr

/-- A report read from its four bytes; an unknown kind or an item slot above 11 gives none (R203). -/
def reportOf? (kind a b c : Byte) : Option Report :=
  match kind.toNat with
  | 1 => some (.opened (flagOf a))
  | 2 => some .closed
  | 3 => some .deadboltOn
  | 4 => some .deadboltOff
  | 5 => some .tamper
  | 6 => if h : a.toNat < 12 then some (.items ⟨a.toNat, h⟩ b.toNat c.toNat) else none
  | _ => none

/-- The reports read from their bytes, `n` of them, and the bytes that follow them. -/
def reportsOf? : Nat → List Byte → Option (List Report × List Byte)
  | 0, rest => some ([], rest)
  | n + 1, kind :: a :: b :: c :: rest =>
    match reportOf? kind a b c, reportsOf? n rest with
    | some r, some (rs, tail) => some (r :: rs, tail)
    | _, _ => none
  | _ + 1, _ => none

/-- A presentation read from its bytes: the reader side and the image; none is read where the flag is clear (R69). -/
def presentationOf? (present : Bool) (bytes : List Byte) : Option (Option (Side × CardImage)) :=
  if !present then some none
  else
    match bytes with
    | side :: image => (sideOf? side).map fun sd => some (sd, imageOfBytes image)
    | [] => none

/-- An answer bit read from its byte (R203). -/
def answerBitOf? (b : Byte) : Option Bool := if b = 0 then some false else if b = 1 then some true else none

/-- The contents of an ANSWER's payload, none where they are malformed (R203). -/
def answerOf? (payload : List Byte) : Option AnswerContent :=
  match payload with
  | bit :: status :: rest =>
    let count := status.toNat / 16 % 8
    let present := status.msb
    if 4 < count ∨ rest.length ≠ 4 * count + (if present then 21 else 0) then none
    else
      match answerBitOf? bit, reportsOf? count rest with
      | some answerBit, some (reports, tail) =>
        (presentationOf? present tail).map fun card =>
          { bit := answerBit
            status := { mode := WingMode.ofCode (status.toNat % 4), released := status.getLsbD 2 }
            reports := reports
            card := card }
      | _, _ => none
  | _ => none

/-- What the checks of R70 find of a frame. -/
inductive FrameCheck where
  | crcError
  | stray
  | malformed
  | wellFormed (payload : List Byte)
  deriving DecidableEq, Repr

/-- The checks of R70 up to the contents: CRC, address, kind and payload length. A receiver closes a frame at its 53rd character
(R67). -/
def checkFrame (frame : List Byte) (address kind : Nat) : FrameCheck :=
  let frame := frame.take Config.maxFrame
  let body := frame.take (frame.length - 2)
  if frame.length < 5 ∨ (crc16 body).toNat ≠ ofBe (frame.drop (frame.length - 2)) then .crcError
  else
    match body with
    | a :: k :: n :: payload =>
      if a.toNat ≠ address then .stray
      else if k.toNat ≠ kind ∨ n.toNat ≠ payload.length then .malformed
      else .wellFormed payload
    | _ => .crcError

/-! ## The rota (chapter 4.3) -/

/-- Whether a unit is visited in the round a controller is in: any configured unit, a SILENT one only in rounds in which the
round counter is 0 (R76). -/
def visited (units : Vector UnitRec 240) (line : Bus) (round : Nat) (u : UnitId) : Bool :=
  busOf u == line && decide (units[u].kind ≠ .absent) && (decide (units[u].link ≠ .silent) || decide (round = 0))

/-- The next unit of the round, above the rota position, lowest first (R76). -/
def nextVisit (units : Vector UnitRec 240) (line : Bus) (c : BusState) : Option UnitId :=
  allUnits.find? fun u => visited units line c.round u && decide (c.position < addressOf u)

/-- Whether the rota of a bus is empty (R76). -/
def rotaEmpty (units : Vector UnitRec 240) (line : Bus) : Bool :=
  !allUnits.any fun u => busOf u == line && decide (units[u].kind ≠ .absent)

/-- The round ended: the counter advances and the position returns to 0 (R76). -/
def BusState.endRound (c : BusState) : BusState := { c with round := (c.round + 1) % 16, position := 0 }

/-- Rounds ended until one has a unit left to visit; a round with none ends at once, and none is run while the rota is empty
(R76, R77). The first argument bounds the rounds ended: from any round, 16 reach the next round 0. A bus whose last unit was removed
in the middle of a round keeps its rota position as well as its counter. DESIGN CHOICE, log entry 31: R76 and R77 speak of the counter
alone. -/
def settleRounds (units : Vector UnitRec 240) (line : Bus) : Nat → BusState → BusState
  | 0, c => c
  | fuel + 1, c =>
    if rotaEmpty units line || (nextVisit units line c).isSome then c else settleRounds units line fuel c.endRound

/-- The rota of a bus brought to a round with a unit left to visit (R76). -/
def State.settleRota (s : State) (line : Bus) : State := s.setBus line (settleRounds s.units line 17 (s.bus line))

/-! ## Sending (chapters 4.3 to 4.5) -/

/-- Whether a controller may begin a frame: the part runs and no transaction is in flight (R67, R199). -/
def State.canSend (s : State) (line : Bus) : Bool := s.running && decide ((s.bus line).flight = .none)

/-- The verdict a controller is to send next. A bus on which no unit is configured sends no VERDICT, and one that waits there
holds nothing back (R77; DESIGN CHOICE, log entry 30). -/
def State.verdictDue (s : State) (line : Bus) : Option DueVerdict :=
  if rotaEmpty s.units line then none else (s.bus line).due

/-- A pending MODE broadcast sent; a verdict that waits goes first (R78). -/
def sendMode (line : Bus) (s : State) : State :=
  let c := s.bus line
  if s.canSend line && c.broadcast && (s.verdictDue line).isNone then
    s.setBus line { c with broadcast := false, sent := modeFrame s.wing.mode }
  else s

/-- MODE (R78). -/
def execMode (line : Bus) (s : State) : Host.Outcome State Fault Refusal := .next (sendMode line s)

/-- A POLL sent to the next unit of the rota; a verdict and a MODE broadcast that wait go first (R76, R78, R80, R86). -/
def sendPoll (line : Bus) (s : State) : State :=
  if s.canSend line && !(s.bus line).broadcast && (s.verdictDue line).isNone then
    let c := settleRounds s.units line 17 (s.bus line)
    match nextVisit s.units line c with
    | none => s
    | some u =>
      let r := s.units[u]
      s.setBus line { c with position := addressOf u, flight := .poll u r.relock,
                             sent := pollFrame u s.wing.mode r.relock r.expected }
  else s

/-- POLL (R80). -/
def execPoll (line : Bus) (s : State) : Host.Outcome State Fault Refusal := .next (sendPoll line s)

/-- Whether a verdict is a GRANT. -/
def Verdict.isGrant : Verdict → Bool
  | .grant _ => true
  | _ => false

/-- The verdict that waits sent to its unit, once (R86). A unit removed meanwhile is sent it all the same, unless its bus has no
unit left (R77). DESIGN CHOICE, log entry 30: no rule says what becomes of the verdict of a unit removed before it is sent. -/
def sendVerdict (line : Bus) (s : State) : State :=
  let c := s.bus line
  match s.verdictDue line with
  | some d =>
    if s.canSend line then
      s.setBus line { c with due := none, flight := .verdict d.unit d.verdict.isGrant, sent := verdictFrame d.unit d.verdict }
    else s
  | none => s

/-- VERDICT (R86). -/
def execVerdict (line : Bus) (s : State) : Host.Outcome State Fault Refusal := .next (sendVerdict line s)

/-! ## Misses and answers (chapter 4.6) -/

/-- A miss at a unit; the third in a row makes it SILENT with its record and event, and none is counted against an absent unit
(R74, R87). -/
def State.miss (s : State) (u : UnitId) : State :=
  let r := s.units[u]
  if r.kind = .absent then s
  else if 3 ≤ r.misses + 1 ∧ r.link ≠ .silent then
    let s := s.setUnit u { r with misses := 3, link := .silent, expected := none }
    (s.appendUnit u none (.unitSilent r.link (s.unitGate u))).raise .se (.unitSilent u)
  else s.setUnit u { r with misses := min 3 (r.misses + 1) }

/-- An answer at a unit; one that was SILENT is back, with its record and event (R88). -/
def State.answered (s : State) (u : UnitId) : State :=
  let r := s.units[u]
  let s := s.setUnit u { r with misses := 0, link := .online }
  if r.link = .silent then (s.appendUnit u none (.unitBack (s.unitGate u))).raise .se (.unitBack u) else s

/-- The transaction in flight on a bus ended. -/
def State.endFlight (s : State) (line : Bus) : State := s.setBus line { s.bus line with flight := .none }

/-- The bus count a failed check names, raised by one (R70, R92). -/
def State.countError (s : State) (line : Bus) : FrameCheck → State
  | .crcError => s.setBus line { s.bus line with crcErrors := countUp (s.bus line).crcErrors }
  | .stray => s.setBus line { s.bus line with strays := countUp (s.bus line).strays }
  | .malformed => s.setBus line { s.bus line with malformed := countUp (s.bus line).malformed }
  | .wellFormed _ => s

/-- A transaction ended by a frame that failed a check: its count, and a miss at the unit (R70, R81). -/
def State.failedReply (s : State) (line : Bus) (u : UnitId) (check : FrameCheck) : State :=
  ((s.countError line check).miss u).settleRota line

/-- A transaction ended by its timeout: the timeout count, and a miss at the unit (R80, R86). -/
def State.timedOut (s : State) (line : Bus) (u : UnitId) : State :=
  let s := s.endFlight line
  let s := s.setBus line { s.bus line with timeouts := countUp (s.bus line).timeouts }
  (s.miss u).settleRota line

/-- POLL_TIMEOUT: the window of a poll transaction passes with no character (R80). -/
def pollTimeout (line : Bus) (s : State) : State :=
  match (s.bus line).flight with
  | .poll u _ => if s.running then s.timedOut line u else s
  | _ => s

def execPollTimeout (line : Bus) (s : State) : Host.Outcome State Fault Refusal := .next (pollTimeout line s)

/-- VERDICT_TIMEOUT: the window of a verdict transaction passes with no character (R86). -/
def verdictTimeout (line : Bus) (s : State) : State :=
  match (s.bus line).flight with
  | .verdict u _ => if s.running then s.timedOut line u else s
  | _ => s

def execVerdictTimeout (line : Bus) (s : State) : Host.Outcome State Fault Refusal := .next (verdictTimeout line s)

/-! ## The content of an answer (R84) -/

/-- One report handed to its owner, where its kind is taken from the unit's kind; any other is discarded (R69, R84). -/
def State.report (s : State) (u : UnitId) (r : Report) : State :=
  match r, s.units[u].kind with
  | .opened released, .roomLock _ => s.decideOpened u released
  | .opened released, .passageLock => s.decideOpened u released
  | .opened released, .minibarLock _ => (s.decideOpened u released).sessionOpened u
  | .closed, .roomLock _ => s.decideClosed u
  | .closed, .passageLock => s.decideClosed u
  | .closed, .minibarLock _ => (s.decideClosed u).sessionClosed u
  | .deadboltOn, .roomLock i => s.setPrivacy i .on
  | .deadboltOff, .roomLock i => s.setPrivacy i .off
  | .tamper, .absent => s
  | .tamper, _ => s.tamper u
  | .items item removed returned, .minibarLock i => s.reportItems u i item removed returned
  | _, _ => s

/-- The reports of an answer, each whole before the next (R84, R127). -/
def State.reports (s : State) (u : UnitId) (rs : List Report) : State := rs.foldl (fun s r => s.report u r) s

/-- A new answer taken: its bit, its unit status, its reports, and its presentation, whose verdict then waits to be sent; without
one the visit is over (R82, R84, R86). -/
def State.takeAnswer (s : State) (line : Bus) (u : UnitId) (a : AnswerContent) : State :=
  let s := s.setUnit u { s.units[u] with expected := some a.bit, lastStatus := some a.status }
  let s := s.reports u a.reports
  match a.card with
  | none => s.settleRota line
  | some (side, image) =>
    let r := s.present u side image
    r.1.setBus line { r.1.bus line with due := some { unit := u, verdict := r.2 } }

/-- A well-formed answer in a poll transaction. It clears a relock its POLL carried, new or repeat (R85), and is taken when it is
new; the content of an answer of a unit made ABSENT meanwhile is discarded (R74, R81, R82). A unit removed and configured again
within the transaction is taken as the record now stands, by R73. DESIGN CHOICE, log entry 29: R74 read by itself would discard the
reply's content. -/
def State.pollAnswered (s : State) (line : Bus) (u : UnitId) (relock : Bool) (a : AnswerContent) : State :=
  if s.units[u].kind = .absent then s.settleRota line
  else
    let s := s.answered u
    let s := if relock then s.setUnit u { s.units[u] with relock := false } else s
    if s.units[u].expected = some a.bit then s.settleRota line else s.takeAnswer line u a

/-- A reply frame closed in a poll transaction (R70, R81). -/
def State.pollReply (s : State) (line : Bus) (u : UnitId) (relock : Bool) (frame : List Byte) : State :=
  let s := s.endFlight line
  match checkFrame frame (addressOf u) 0x20 with
  | .wellFormed payload =>
    match answerOf? payload with
    | some a => s.pollAnswered line u relock a
    | none => s.failedReply line u .malformed
  | e => s.failedReply line u e

/-- A well-formed ACK: an answer at the unit, and the acknowledgement of the grant its VERDICT carried (R86, R114). -/
def State.verdictAcked (s : State) (line : Bus) (u : UnitId) (granted : Bool) : State :=
  if s.units[u].kind = .absent then s.settleRota line
  else
    let s := s.answered u
    (if granted then s.acknowledge u else s).settleRota line

/-- A reply frame closed in a verdict transaction (R70, R86). -/
def State.verdictReply (s : State) (line : Bus) (u : UnitId) (granted : Bool) (frame : List Byte) : State :=
  let s := s.endFlight line
  match checkFrame frame (addressOf u) 0x21 with
  | .wellFormed [] => s.verdictAcked line u granted
  | .wellFormed _ => s.failedReply line u .malformed
  | e => s.failedReply line u e

/-- A frame closed on a bus, judged by the transaction that waits for it; outside a transaction nothing is taken (R67, R70). -/
def frameClosed (line : Bus) (frame : List Byte) (s : State) : State :=
  if !s.running then s
  else
    match (s.bus line).flight with
    | .none => s
    | .poll u relock => s.pollReply line u relock frame
    | .verdict u granted => s.verdictReply line u granted frame

/-- ANSWER: a reply frame closed in a poll transaction (R70, R81 to R85). A frame that arrives in a verdict transaction instead
is judged there. -/
def execAnswer (line : Bus) (frame : List Byte) (s : State) : Host.Outcome State Fault Refusal := .next (frameClosed line frame s)

/-- ACK: a reply frame closed in a verdict transaction (R86). A frame that arrives in a poll transaction instead is judged
there. -/
def execAck (line : Bus) (frame : List Byte) (s : State) : Host.Outcome State Fault Refusal := .next (frameClosed line frame s)

end Sys2Proof.Machine
end

