-- ==== Sys2Proof/Machine/Transactions.lean ====
section
/-! DEFINITION. A request transaction given by its bytes (R183), as the row BAD_REQUEST carries it. -/

namespace Sys2Proof.Machine

open Sys2Proof

/-- The meaning of a request that a transaction's bytes hold; a command that is no request changes nothing. -/
def carryRequest (i : Instr) (s : State) : Host.Outcome State Fault Refusal :=
  match i with
  | .checkIn p slot cls count arrival departure allowance => execCheckIn p slot cls count arrival departure allowance s
  | .addCards p slot cls count => execAddCards p slot cls count s
  | .changeStay p slot departure => execChangeStay p slot departure s
  | .checkOut p slot => execCheckOut p slot s
  | .settle p slot => execSettle p slot s
  | .setPrices p prices => execSetPrices p prices s
  | .setReserve p reserve => execSetReserve p reserve s
  | .setGrace p grace => execSetGrace p grace s
  | .configureRoom p slot number => execConfigureRoom p slot number s
  | .removeRoom p slot => execRemoveRoom p slot s
  | .holdRoom p slot => execHoldRoom p slot s
  | .freeRoom p slot => execFreeRoom p slot s
  | .configureUnit p bus address kind cls slot gate => execConfigureUnit p bus address kind cls slot gate s
  | .removeUnit p bus address => execRemoveUnit p bus address s
  | .readmitUnit p bus address => execReadmitUnit p bus address s
  | .issueStaff p cls start stop replaced => execIssueStaff p cls start stop replaced s
  | .suspend p card => execSuspend p card s
  | .resume p card => execResume p card s
  | .setSite p site => execSetSite p site s
  | .setCondition p cls entrance code => execSetCondition p cls entrance code s
  | .setEntranceClass p entrance unlock ajarLimit exposed => execSetEntranceClass p entrance unlock ajarLimit exposed s
  | .setShift p cls opens closes => execSetShift p cls opens closes s
  | .setGate p enabled exposed => execSetGate p enabled exposed s
  | .addScheduleEntry p minute gates level => execAddScheduleEntry p minute gates level s
  | .removeScheduleEntry p position => execRemoveScheduleEntry p position s
  | .clearSchedule p => execClearSchedule p s
  | .setMode p mode => execSetMode p mode s
  | .restore p => execRestore p s
  | .clearBusCounters p bus => execClearBusCounters p bus s
  | .claim p slot preempt => execClaim p slot preempt s
  | .releaseClaim p slot => execReleaseClaim p slot s
  | .revoke p card reason => execRevoke p card reason s
  | .setClock p reading => execSetClock p reading s
  | .readClock p => execReadClock p s
  | .readRoom p slot => execReadRoom p slot s
  | .readCard p card => execReadCard p card s
  | .readUnit p bus address => execReadUnit p bus address s
  | .readBus p bus => execReadBus p bus s
  | .readGates p => execReadGates p s
  | .readLog p count => execReadLog p count s
  | .setLogPolicy p policy => execSetLogPolicy p policy s
  | .setLogThreshold p threshold => execSetLogThreshold p threshold s
  | .readEvents p count => execReadEvents p count s
  | .setSupervision p interval => execSetSupervision p interval s
  | .keepalive p token => execKeepalive p token s
  | .identify p => execIdentify p s
  | .secondTick => .next s
  | .crystalCycle => .next s
  | .claimLeaseExpiry _ => .next s
  | .pendingGrantExpiry _ => .next s
  | .ajarTimerExpiry _ => .next s
  | .minibarSessionExpiry _ => .next s
  | .gatePulseExpiry _ => .next s
  | .supervisionTimerExpiry _ => .next s
  | .transactionDiscarded _ _ => .next s
  | .rspByteReceived _ => .next s
  | .responseTransaction _ _ => .next s
  | .badRequest _ _ => .next s
  | .mode _ => .next s
  | .poll _ => .next s
  | .pollTimeout _ => .next s
  | .answer _ _ => .next s
  | .verdict _ => .next s
  | .ack _ _ => .next s
  | .verdictTimeout _ => .next s
  | .evacRisingEdge => .next s
  | .evacFallingEdge => .next s
  | .rstAsserted => .next s
  | .mainPowerFall => .next s
  | .retentionLost => .next s
  | .warmStart => .next s
  | .coldStart => .next s
  | .startEnd => .next s

/-- A request transaction that fails one of the checks 1 to 3 of R183, taken with `length` bytes after its first: discarded with
OVERRUN where the slot is full (R184), and otherwise answered with the check's status. -/
def takeBad (p : Port) (length : Nat) (status : Status) (s : State) : State :=
  if !s.running then s
  else if (s.port p).slot.isSome then (s.sendZeros p length).overrun p
  else (s.sendZeros p length).respond p { status := status, body := [] }

/-- BAD_REQUEST: a request transaction given by its bytes (R183). Bytes that pass the checks are carried out as the request they
hold; bytes that make no request transaction leave everything as it is (log entry 14). -/
def execBadRequest (p : Port) (bytes : List Byte) (s : State) : Host.Outcome State Fault Refusal :=
  match examine p bytes with
  | .bad status => .next (takeBad p (bytes.length - 1) status s)
  | .request i => carryRequest i s
  | .discarded => .next s
  | .response => .next s

end Sys2Proof.Machine
end

