-- ==== Sys2Proof/Machine/Dispatch.lean ====
section
/-! DEFINITION. The dispatch: each command of `Instr` to its meaning, one arm each. -/

namespace Sys2Proof.Machine

open Sys2Proof

def exec (i : Instr) (s : State) : Host.Outcome State Fault Refusal :=
  match i with
  | .secondTick => Sys2Proof.Machine.execSecondTick s
  | .crystalCycle => Sys2Proof.Machine.execCrystalCycle s
  | .claimLeaseExpiry slot => Sys2Proof.Machine.execClaimLeaseExpiry slot s
  | .pendingGrantExpiry unit => Sys2Proof.Machine.execPendingGrantExpiry unit s
  | .ajarTimerExpiry unit => Sys2Proof.Machine.execAjarTimerExpiry unit s
  | .minibarSessionExpiry unit => Sys2Proof.Machine.execMinibarSessionExpiry unit s
  | .gatePulseExpiry gate => Sys2Proof.Machine.execGatePulseExpiry gate s
  | .supervisionTimerExpiry port => Sys2Proof.Machine.execSupervisionTimerExpiry port s
  | .transactionDiscarded port bytes => Sys2Proof.Machine.execTransactionDiscarded port bytes s
  | .rspByteReceived port => Sys2Proof.Machine.execRspByteReceived port s
  | .responseTransaction port clocked => Sys2Proof.Machine.execResponseTransaction port clocked s
  | .badRequest port bytes => Sys2Proof.Machine.execBadRequest port bytes s
  | .checkIn port slot cls count arrival departure allowance => Sys2Proof.Machine.execCheckIn port slot cls count arrival departure allowance s
  | .addCards port slot cls count => Sys2Proof.Machine.execAddCards port slot cls count s
  | .changeStay port slot departure => Sys2Proof.Machine.execChangeStay port slot departure s
  | .checkOut port slot => Sys2Proof.Machine.execCheckOut port slot s
  | .settle port slot => Sys2Proof.Machine.execSettle port slot s
  | .setPrices port prices => Sys2Proof.Machine.execSetPrices port prices s
  | .setReserve port reserve => Sys2Proof.Machine.execSetReserve port reserve s
  | .setGrace port grace => Sys2Proof.Machine.execSetGrace port grace s
  | .configureRoom port slot number => Sys2Proof.Machine.execConfigureRoom port slot number s
  | .removeRoom port slot => Sys2Proof.Machine.execRemoveRoom port slot s
  | .holdRoom port slot => Sys2Proof.Machine.execHoldRoom port slot s
  | .freeRoom port slot => Sys2Proof.Machine.execFreeRoom port slot s
  | .configureUnit port bus address kind cls slot gate => Sys2Proof.Machine.execConfigureUnit port bus address kind cls slot gate s
  | .removeUnit port bus address => Sys2Proof.Machine.execRemoveUnit port bus address s
  | .readmitUnit port bus address => Sys2Proof.Machine.execReadmitUnit port bus address s
  | .issueStaff port cls start stop replaced => Sys2Proof.Machine.execIssueStaff port cls start stop replaced s
  | .suspend port card => Sys2Proof.Machine.execSuspend port card s
  | .resume port card => Sys2Proof.Machine.execResume port card s
  | .setSite port site => Sys2Proof.Machine.execSetSite port site s
  | .setCondition port cls entrance code => Sys2Proof.Machine.execSetCondition port cls entrance code s
  | .setEntranceClass port entrance unlock ajarLimit exposed => Sys2Proof.Machine.execSetEntranceClass port entrance unlock ajarLimit exposed s
  | .setShift port cls opens closes => Sys2Proof.Machine.execSetShift port cls opens closes s
  | .setGate port enabled exposed => Sys2Proof.Machine.execSetGate port enabled exposed s
  | .addScheduleEntry port minute gates level => Sys2Proof.Machine.execAddScheduleEntry port minute gates level s
  | .removeScheduleEntry port position => Sys2Proof.Machine.execRemoveScheduleEntry port position s
  | .clearSchedule port => Sys2Proof.Machine.execClearSchedule port s
  | .setMode port mode => Sys2Proof.Machine.execSetMode port mode s
  | .restore port => Sys2Proof.Machine.execRestore port s
  | .clearBusCounters port bus => Sys2Proof.Machine.execClearBusCounters port bus s
  | .claim port slot preempt => Sys2Proof.Machine.execClaim port slot preempt s
  | .releaseClaim port slot => Sys2Proof.Machine.execReleaseClaim port slot s
  | .revoke port card reason => Sys2Proof.Machine.execRevoke port card reason s
  | .setClock port reading => Sys2Proof.Machine.execSetClock port reading s
  | .readClock port => Sys2Proof.Machine.execReadClock port s
  | .readRoom port slot => Sys2Proof.Machine.execReadRoom port slot s
  | .readCard port card => Sys2Proof.Machine.execReadCard port card s
  | .readUnit port bus address => Sys2Proof.Machine.execReadUnit port bus address s
  | .readBus port bus => Sys2Proof.Machine.execReadBus port bus s
  | .readGates port => Sys2Proof.Machine.execReadGates port s
  | .readLog port count => Sys2Proof.Machine.execReadLog port count s
  | .setLogPolicy port policy => Sys2Proof.Machine.execSetLogPolicy port policy s
  | .setLogThreshold port threshold => Sys2Proof.Machine.execSetLogThreshold port threshold s
  | .readEvents port count => Sys2Proof.Machine.execReadEvents port count s
  | .setSupervision port interval => Sys2Proof.Machine.execSetSupervision port interval s
  | .keepalive port token => Sys2Proof.Machine.execKeepalive port token s
  | .identify port => Sys2Proof.Machine.execIdentify port s
  | .mode bus => Sys2Proof.Machine.execMode bus s
  | .poll bus => Sys2Proof.Machine.execPoll bus s
  | .pollTimeout bus => Sys2Proof.Machine.execPollTimeout bus s
  | .answer bus frame => Sys2Proof.Machine.execAnswer bus frame s
  | .verdict bus => Sys2Proof.Machine.execVerdict bus s
  | .ack bus frame => Sys2Proof.Machine.execAck bus frame s
  | .verdictTimeout bus => Sys2Proof.Machine.execVerdictTimeout bus s
  | .evacRisingEdge => Sys2Proof.Machine.execEvacRisingEdge s
  | .evacFallingEdge => Sys2Proof.Machine.execEvacFallingEdge s
  | .rstAsserted => Sys2Proof.Machine.execRstAsserted s
  | .mainPowerFall => Sys2Proof.Machine.execMainPowerFall s
  | .retentionLost => Sys2Proof.Machine.execRetentionLost s
  | .warmStart => Sys2Proof.Machine.execWarmStart s
  | .coldStart => Sys2Proof.Machine.execColdStart s
  | .startEnd => Sys2Proof.Machine.execStartEnd s

end Sys2Proof.Machine
end

