-- ==== Sys2Proof/Machine/Step.lean ====
section
/-! DEFINITION. The step: each command is carried out whole before the next (spec/95_what_each_step_holds.md; log entry 3). -/

namespace Sys2Proof.Machine

open Sys2Proof

/-- One step: the command at the front of the queue, carried out on the state with the rest of the queue. With no command
waiting the part idles: a second passes only by a tick, which is a command (log entry 3). -/
def step (s : State) : Host.Outcome State Fault Refusal :=
  match s.pending with
  | [] => .next s
  | c :: rest => exec c { s with pending := rest }

/-- The state with the command a table word spells at the front of its queue. No word spells a command, so the state is
unchanged (log entry 2). -/
def State.withFetchWord (s : State) (nbits w : Nat) : State :=
  match decodeTableWord nbits w with
  | some c => { s with pending := c :: s.pending }
  | none => s

end Sys2Proof.Machine
end

