-- ==== Sys2Proof/Safety.lean ====
section
/-! DEFINITION. What the statements about the EW-128 rest on: when a request is carried out, what its answer leaves at the port,
and the invariants the manual states of each block. -/

namespace Sys2Proof.Machine

open Sys2Proof

/-! ## Requests -/

/-- The part runs, port `p`'s response slot is empty, and the station port's own checks let request `rq` through: the permission
table allows it, and the link is up unless the request is one that a lost link lets pass (R184, R187, R194, R199). -/
abbrev State.Ready (s : State) (rq : Request) (p : Port) : Prop :=
  s.running = true ∧ (s.port p).slot = none ∧ rq.permitted p = true ∧ ((s.port p).linkLost = true → rq.takenWhenLost = true)

/-- The state with a response in port `p`'s slot, ATTN asserted there, and `clocked` bytes of value 0 sent, one for each byte of the
request transaction after its first (R182, R183, R186). -/
def State.withResponse (s : State) (p : Port) (clocked : Nat) (st : Status) (body : List Byte) : State :=
  s.setPort p { s.port p with slot := some { status := st, body := body }, attn := true, sent := List.replicate clocked 0 }

/-- The state with the response to request `rq`, whose transaction has its code, its length and its body after the first byte
(R183, chapter 11.4). -/
def State.withAnswer (s : State) (rq : Request) (p : Port) (st : Status) (body : List Byte) : State :=
  s.withResponse p (2 + rq.bodyLength) st body

/-- A room slot as a request's body carries it. -/
def slotByte (i : Slot) : Byte := BitVec.ofNat 8 i.val

/-- The requests that only the front office may send (R187). -/
def foRequests : List Request :=
  [.checkIn, .addCards, .changeStay, .checkOut, .settle, .setPrices, .setReserve, .setGrace]

/-- The requests that only the security office may send (R187). -/
def seRequests : List Request :=
  [.configureRoom, .removeRoom, .holdRoom, .freeRoom, .configureUnit, .removeUnit, .readmitUnit, .issueStaff, .suspend, .resume,
   .setSite, .setCondition, .setEntranceClass, .setShift, .setGate, .addScheduleEntry, .removeScheduleEntry, .clearSchedule,
   .setMode, .restore, .clearBusCounters]

/-- The request a command carries: its own, or the one that the bytes of a BAD_REQUEST hold (log entry 14). -/
def carriedRequest (c : Instr) : Option Request :=
  match c with
  | .badRequest p bytes =>
    match examine p bytes with
    | .request i => i.request?.map fun x => x.2.1
    | _ => none
  | c => c.request?.map fun x => x.2.1

/-- The command that carries out a timer's expiry. -/
def Timer.command : Timer → Instr
  | .lease i => .claimLeaseExpiry i
  | .grant u => .pendingGrantExpiry u
  | .ajar u => .ajarTimerExpiry u
  | .session u => .minibarSessionExpiry u
  | .pulse g => .gatePulseExpiry g
  | .supervision p => .supervisionTimerExpiry p

/-! ## The ANSWER as a unit sends it (Table 11-1) -/

/-- A report in its four bytes. -/
def Report.bytes : Report → List Byte
  | .opened released => byte 1 ++ flag released ++ [0, 0]
  | .closed => [2, 0, 0, 0]
  | .deadboltOn => [3, 0, 0, 0]
  | .deadboltOff => [4, 0, 0, 0]
  | .tamper => [5, 0, 0, 0]
  | .items item removed returned => byte 6 ++ byte item ++ byte removed ++ byte returned

/-- The status byte: the mode applied in bits 1 and 0, the strike in bit 2, the report count in bits 6 to 4, the presentation flag
in bit 7. -/
def AnswerContent.statusByte (a : AnswerContent) : Byte :=
  BitVec.ofNat 8 (a.status.mode.code + (if a.status.released then 4 else 0) + 16 * a.reports.length
    + (if a.card.isSome then 128 else 0))

/-- A presentation in its 21 bytes: the reader side and the ten words of the image. -/
def presentationBytes : Option (Side × CardImage) → List Byte
  | none => []
  | some (side, image) => byte side.code ++ image.toList.flatMap (be 2)

/-- The payload of an ANSWER: answer bit, status byte, reports and presentation. -/
def AnswerContent.payload (a : AnswerContent) : List Byte :=
  flag a.bit ++ [a.statusByte] ++ a.reports.flatMap Report.bytes ++ presentationBytes a.card

/-! ## Invariants of the blocks -/

/-- The clock's fields stay in range, and CLOCK_END is set exactly at the last second the clock can show (R1, R3, R11). -/
abbrev ClockInv (s : State) : Prop :=
  s.clock.day ≤ 65535 ∧ s.clock.minute ≤ 1439 ∧ s.clock.second ≤ 59 ∧ s.clock.prescaler ≤ 32767 ∧ s.clock.grace ≤ 240
  ∧ (s.clock.clockEnd = true ↔ s.clock.day = 65535 ∧ s.clock.minute = 1439 ∧ s.clock.second = 59)

/-- Room numbers are in range and no two configured slots share one, a room has at most one room lock and one minibar lock, and
a lock is bound only to a slot that is not UNUSED (R20, R21, R72). -/
abbrev RoomInv (s : State) : Prop :=
  (∀ i : Slot, ∀ n ∈ s.rooms[i].occupancy.number?, 1 ≤ n ∧ n ≤ 9999)
  ∧ (∀ i j : Slot, s.rooms[i].occupancy.number? = s.rooms[j].occupancy.number? → s.rooms[i].occupancy ≠ .unused → i = j)
  ∧ (∀ u : UnitId, ∀ i ∈ s.units[u].kind.slot?, s.rooms[i].occupancy ≠ .unused)
  ∧ (∀ u v : UnitId, s.units[u].kind = s.units[v].kind → s.units[u].kind.slot?.isSome = true → u = v)

/-- Every claim's lease is at most 120 s, and a port whose link supervision has expired holds no claim (R30, R193). -/
abbrev ClaimInv (s : State) : Prop :=
  ∀ i : Slot, ∀ c ∈ s.claims[i], c.lease ≤ 120 ∧ (s.port c.holder).linkLost = false

/-- An account keeps the bounds of chapter 6.1 and, while CHARGE_CEILING is clear, the equality of R128. -/
abbrev Account.Balanced (a : Account) : Prop :=
  a.granted ≤ 999999 ∧ a.remaining ≤ a.granted ∧ a.overdraft ≤ a.charge ∧ a.charge ≤ 16777215
  ∧ (∀ item : Fin 12, a.tally[item] ≤ 255)
  ∧ (a.ceilingMet = false → a.remaining + a.charge = a.granted + a.overdraft)

/-- Every room's account is balanced (R128, R139, R140). -/
abbrev AccountInv (s : State) : Prop := ∀ i : Slot, s.accounts[i].Balanced

/-- The gate schedule holds at most 32 entries, sorted by minute, each with a minute of day and a gate set that is not empty
(R149). -/
abbrev ScheduleInv (s : State) : Prop :=
  s.gates.schedule.length ≤ 32 ∧ s.gates.schedule.Pairwise (fun a b => a.minute ≤ b.minute)
  ∧ ∀ e ∈ s.gates.schedule, e.minute ≤ 1439 ∧ e.gates ≠ 0

/-- The mode the outputs were set against: the wing mode while the part runs, and the mode a start has decided while it is in
progress (R147, R158). -/
def State.outputMode (s : State) : Option WingMode :=
  match s.power.phase with
  | .running => some s.wing.mode
  | .starting (.warm mode _) => some mode
  | .starting .cold => some s.wing.mode
  | .inReset => none
  | .off => none

/-- Every gate output is the output function's (R156). -/
abbrev OutputInv (s : State) : Prop :=
  ∀ m ∈ s.outputMode, ∀ g : Gate, s.gates.outputs[g] = outputLevel s.gates m g

/-- A quarantined unit has no pending grant and no session; only a minibar lock has a session, for its own room; an absent unit
has neither, nor an ajar timer; and the link fields agree (R87, R97, R113, R133). -/
abbrev UnitInv (s : State) : Prop :=
  ∀ u : UnitId,
    (s.units[u].quarantined = true → s.grants[u] = none ∧ s.sessions[u] = none)
    ∧ (∀ x ∈ s.sessions[u], s.units[u].kind = .minibarLock x.slot)
    ∧ (s.units[u].kind = .absent → s.grants[u] = none ∧ s.ajar[u] = none ∧ s.units[u] = UnitRec.cold)
    ∧ s.units[u].misses ≤ 3 ∧ s.units[u].misreads ≤ 2
    ∧ (s.units[u].misses = 3 ↔ s.units[u].link = .silent)
    ∧ (s.units[u].link = .silent → s.units[u].expected = none)

/-- Elapsed timers and the entrance class table stay in range (R10, R111, R113, R124, R154). -/
abbrev TimerInv (s : State) : Prop :=
  (∀ e : Fin 8, 1 ≤ s.decision.entrances[e].unlock ∧ s.decision.entrances[e].unlock ≤ 30
    ∧ 10 ≤ s.decision.entrances[e].ajarLimit ∧ s.decision.entrances[e].ajarLimit ≤ 600)
  ∧ (∀ u : UnitId, ∀ g ∈ s.grants[u], 1 ≤ g.unlock ∧ g.unlock ≤ 30 ∧ g.expiry ≤ g.unlock + 2)
  ∧ (∀ u : UnitId, ∀ t ∈ s.ajar[u], t.remaining ≤ t.limit ∧ 10 ≤ t.limit ∧ t.limit ≤ 600)
  ∧ (∀ g : Gate, ∀ n ∈ s.gates.pulses[g], n ≤ 30)

/-- While the part runs the start tallies count its grants and sessions; during a start there are none of either, and a cold start
has set the tallies to 0 (R198, R200, R201). -/
def State.talliesAgree (s : State) : Bool :=
  match s.power.phase with
  | .running => s.power.grantTally == allUnits.countP (fun u => s.grants[u].isSome)
      && s.power.sessionTally == allUnits.countP (fun u => s.sessions[u].isSome)
  | .starting (.warm _ _) => allUnits.all fun u => s.grants[u].isNone && s.sessions[u].isNone
  | .starting .cold => s.power.grantTally == 0 && s.power.sessionTally == 0
      && allUnits.all fun u => s.grants[u].isNone && s.sessions[u].isNone
  | .inReset => true
  | .off => true

abbrev TallyInv (s : State) : Prop := s.talliesAgree = true

/-- A port's event queue holds at most 16 events, ATTN follows the slot and the queue, and the supervision timer runs only under
supervision with the link up (R184, R186, R189, R191, R193). -/
abbrev PortState.Sound (q : PortState) : Prop :=
  q.events.length ≤ 16
  ∧ (q.attn = true ↔ q.slot.isSome = true ∨ q.events ≠ [])
  ∧ q.interval ≤ 255
  ∧ (∀ n ∈ q.timer, q.supervised = true ∧ q.linkLost = false ∧ n ≤ q.interval)
  ∧ (q.linkLost = true → q.supervised = true)

abbrev PortInv (s : State) : Prop := s.fo.Sound ∧ s.se.Sound

/-- A port's reader: its cursor stands on a held record or on the next sequence number, and its counts are in range (R172, R175,
R180). -/
abbrev EntryLog.ReaderSound (l : EntryLog) (p : Port) : Prop :=
  (l.reader p).cursor < Config.seqModulus ∧ l.unread p ≤ l.records.length ∧ (l.reader p).skipped ≤ 65535
  ∧ 1 ≤ (l.reader p).threshold ∧ (l.reader p).threshold ≤ 4096

/-- The log holds at most 4096 records with consecutive sequence numbers up to the one before the next, each gap is in range,
and both cursors stand within the log (R168, R170, R173, R175). -/
abbrev EntryLog.Sound (l : EntryLog) : Prop :=
  l.records.length ≤ 4096 ∧ l.next < Config.seqModulus ∧ l.lost ≤ 65535
  ∧ (∀ k : Fin l.records.length,
      l.records[k].seq < Config.seqModulus ∧ seqDistance l.records[k].seq l.next = l.records.length - k.val)
  ∧ (∀ r ∈ l.records, ∀ n ∈ r.gap, 1 ≤ n ∧ n ≤ 65535)
  ∧ l.ReaderSound .fo ∧ l.ReaderSound .se

abbrev LogInv (s : State) : Prop := s.log.Sound

/-- The unit of a transaction in flight. -/
def Flight.unit? : Flight → Option UnitId
  | .none => Option.none
  | .poll u _ => some u
  | .verdict u _ => some u

/-- A Quaybus Controller's position, round and counts are in range, its transactions are with units of its own line, and a
verdict waits only between transactions (R76, R80, R86, R92). -/
abbrev BusState.Sound (c : BusState) (line : Bus) : Prop :=
  c.position ≤ 120 ∧ c.round ≤ 15 ∧ c.crcErrors ≤ 65535 ∧ c.strays ≤ 65535 ∧ c.timeouts ≤ 65535 ∧ c.malformed ≤ 65535
  ∧ (∀ u ∈ c.flight.unit?, busOf u = line) ∧ (∀ d ∈ c.due, busOf d.unit = line ∧ c.flight = .none)

abbrev BusInv (s : State) : Prop := s.busA.Sound .a ∧ s.busB.Sound .b

/-- A card record by its own: its number is in range, it is bound to a room exactly in the classes 0 to 3, and a staff record has
issue number 1 (R41). -/
abbrev Credential.Sound (c : Credential) : Prop :=
  1 ≤ c.number ∧ c.number ≤ Config.lastCardNumber ∧ (c.binding.isSome = true ↔ c.cls.val < 4) ∧ 1 ≤ c.issueNumber
  ∧ c.issueNumber ≤ 65535 ∧ (c.binding = none → c.issueNumber = 1)

/-- The Credential Table holds at most 1024 records under distinct numbers, none while the site code is 0; the revocation list
holds the numbers of the REVOKED records, each once; and the counter is in range (R40, R41, R45, R49, R51). -/
abbrev CardTable.Sound (t : CardTable) : Prop :=
  t.cards.length ≤ 1024 ∧ t.cards.Pairwise (fun a b => a.number < b.number) ∧ (∀ c ∈ t.cards, c.Sound)
  ∧ (t.site = 0 → t.cards = []) ∧ 1 ≤ t.nextNumber ∧ t.nextNumber ≤ Config.lastCardNumber
  ∧ t.revoked.Nodup ∧ (∀ n ∈ t.revoked, ∃ c ∈ t.cards, c.number = n ∧ c.isRevoked = true)
  ∧ (∀ c ∈ t.cards, c.isRevoked = true → c.number ∈ t.revoked)

/-- A room-bound record that is not REVOKED carries its room's current generation and card window, and that room is LET
(R41, R57). -/
abbrev Credential.Current (s : State) (c : Credential) : Prop :=
  ∀ b ∈ c.binding, c.isRevoked = false →
    b.generation = s.rooms[b.slot].generation ∧ ∃ st ∈ s.rooms[b.slot].occupancy.stay?, c.window = st.window

/-- The card table is sound, no room has more than 8 room-bound cards that are not REVOKED, and each of those is current
(R40, R41, R51, R54). -/
abbrev CardInv (s : State) : Prop :=
  s.table.Sound ∧ (∀ i : Slot, (s.table.liveOf i).length ≤ 8) ∧ (∀ i : Slot, s.rooms[i].issueCounter ≤ 65535)
  ∧ ∀ c ∈ s.table.cards, c.Current s

/-- What the retention-lost latch holds in a phase: clear while the part runs or starts warm, set while it starts cold (R197). -/
def Phase.latch? : Phase → Option Bool
  | .running => some false
  | .starting (.warm _ _) => some false
  | .starting .cold => some true
  | .inReset => none
  | .off => none

/-- The latch is as the phase has it, and the domain's supply is lost only with main power absent, the latch then set (R197). -/
abbrev PowerInv (s : State) : Prop :=
  (∀ b ∈ s.power.phase.latch?, s.power.latch = b)
  ∧ (s.power.retained = false → s.power.phase = .off ∧ s.power.latch = true)

/-- Every invariant together. -/
structure Inv (s : State) : Prop where
  clock : ClockInv s
  room : RoomInv s
  claim : ClaimInv s
  account : AccountInv s
  schedule : ScheduleInv s
  output : OutputInv s
  unit : UnitInv s
  timer : TimerInv s
  tally : TallyInv s
  port : PortInv s
  log : LogInv s
  bus : BusInv s
  card : CardInv s
  power : PowerInv s

end Sys2Proof.Machine
end

