-- ==== Sys2Proof/Certificates/Slice0/Obligations.lean ====
section
/-! DEFINITION. The statements about the EW-128 for the provers: what a command does to the state, and what every step keeps. -/

open Sys2Proof Sys2Proof.Machine

/-! ## Commands and the queue -/

/-- Each step carries out the command at the front of the queue whole, on the state with the rest of the queue; on an empty
queue the part idles, which is the model's choice (log entry 3). -/
def Obligations.StepRunsFrontCommand : Prop :=
  (∀ (c : Instr) (rest : List Instr) (s : State),
    step { s with pending := c :: rest } = exec c { s with pending := rest })
  ∧ ∀ s : State, s.pending = [] → step s = .next s

/-- Every command completes in every state, and no command touches the queue of those that wait. That no command faults or is refused
is the model's reading of a spec that leaves no outcome undefined (log entry 26), and that a command whose premise does not hold
completes without effect is the model's choice (log entry 10). -/
def Obligations.EveryCommandCompletes : Prop :=
  ∀ (c : Instr) (s : State), ∃ t : State, exec c s = .next t ∧ t.pending = s.pending

/-! ## Request transactions (chapters 9.2 to 9.4 and 11.4) -/

/-- The bytes of a request's transaction decode to that request, and no other bytes do. -/
def Obligations.RequestBytesAndRequestsAgree : Prop :=
  ∀ (i : Instr) (p : Port) (bytes : List Byte), encode i = some (p, bytes) ↔ examine p bytes = .request i

/-- Checks 1 to 3 of R183 on a request transaction given by its bytes. One taken with the slot full is discarded unexamined with
OVERRUN set (R184), none is taken while the part does not run (R199), and bytes that make no request transaction change nothing
(R182). That bytes which pass the checks are carried out as their request is the model's choice (log entry 14). -/
def Obligations.BadRequestIsAnswered : Prop :=
  ∀ (s : State) (p : Port),
    (s.running = true → (s.port p).slot = none →
      (∀ rest : List Byte, rest.length < 2 →
        exec (.badRequest p (reqByte :: rest)) s = .next (s.withResponse p rest.length .badLength []))
      ∧ (∀ (code length : Byte) (body : List Byte), 250 < length.toNat ∨ body.length ≠ length.toNat →
        exec (.badRequest p (reqByte :: code :: length :: body)) s
          = .next (s.withResponse p (2 + body.length) .badLength []))
      ∧ (∀ (code length : Byte) (body : List Byte), length.toNat ≤ 250 → body.length = length.toNat →
        (∀ r : Request, r.code ≠ code.toNat) →
        exec (.badRequest p (reqByte :: code :: length :: body)) s
          = .next (s.withResponse p (2 + body.length) .badRequest []))
      ∧ (∀ (r : Request) (length : Byte) (body : List Byte), length.toNat ≤ 250 → body.length = length.toNat →
        length.toNat ≠ r.bodyLength →
        exec (.badRequest p (reqByte :: BitVec.ofNat 8 r.code :: length :: body)) s
          = .next (s.withResponse p (2 + body.length) .badLength []))
      ∧ ∀ (i : Instr) (bytes : List Byte), encode i = some (p, bytes) → exec (.badRequest p bytes) s = exec i s)
    ∧ (s.running = true → (s.port p).slot.isSome = true → ∀ rest : List Byte,
      exec (.badRequest p (reqByte :: rest)) s
        = .next (s.setPort p { s.port p with overrun := true, sent := List.replicate rest.length 0 }))
    ∧ (s.running = false → ∀ bytes : List Byte, exec (.badRequest p bytes) s = .next s)
    ∧ ∀ bytes : List Byte, bytes.head? ≠ some 0xA5 → exec (.badRequest p bytes) s = .next s

/-- R183, R184, R188 and R199: a request taken with the slot empty is answered at its arrival with a status other than NONE, ATTN is
asserted, and a request refused changes nothing but its port's response, the wrong token of a KEEPALIVE apart. The other port's
slot, OVERRUN and supervision stay as they were. A request taken while the slot is full is discarded with OVERRUN set and no other
effect, and none is taken while the part does not run. -/
def Obligations.EveryRequestIsAnsweredOrDiscarded : Prop :=
  ∀ (i : Instr) (p : Port) (rq : Request) (body : List Byte) (s : State), i.request? = some (p, rq, body) →
    (s.running = true → (s.port p).slot = none →
      ∃ (t : State) (r : Response), exec i s = .next t ∧ (t.port p).slot = some r ∧ r.status ≠ .none
        ∧ (t.port p).attn = true ∧ (t.port p).overrun = (s.port p).overrun
        ∧ (r.status ≠ .ok → rq ≠ .keepalive → t = s.withAnswer rq p r.status r.body)
        ∧ (t.port (otherPort p)).slot = (s.port (otherPort p)).slot
        ∧ (t.port (otherPort p)).overrun = (s.port (otherPort p)).overrun
        ∧ (t.port (otherPort p)).supervised = (s.port (otherPort p)).supervised
        ∧ (t.port (otherPort p)).interval = (s.port (otherPort p)).interval
        ∧ (t.port (otherPort p)).timer = (s.port (otherPort p)).timer
        ∧ (t.port (otherPort p)).linkLost = (s.port (otherPort p)).linkLost)
    ∧ (s.running = true → (s.port p).slot.isSome = true →
      exec i s = .next (s.setPort p { s.port p with overrun := true, sent := List.replicate (2 + rq.bodyLength) 0 }))
    ∧ (s.running = false → exec i s = .next s)

/-- R187 and R194: which requests each port may send; the NOT_PERMITTED that any other gets whatever its body and the state; and
the LINK_LOST that a permitted request gets on a lost link, unless it is KEEPALIVE, READ EVENTS or IDENTIFY. -/
def Obligations.PortChecksRefuseRequests : Prop :=
  (∀ r : Request, (r.permitted .fo = true ↔ r ∉ seRequests) ∧ (r.permitted .se = true ↔ r ∉ foRequests))
  ∧ ∀ (i : Instr) (p : Port) (rq : Request) (body : List Byte) (s : State), i.request? = some (p, rq, body) →
      s.running = true → (s.port p).slot = none →
      (rq.permitted p = false → exec i s = .next (s.withAnswer rq p .notPermitted []))
      ∧ (rq.permitted p = true → (s.port p).linkLost = true → rq ∉ [Request.keepalive, .readEvents, .identify] →
        exec i s = .next (s.withAnswer rq p .linkLost []))

/-- R185 and R182: what a response transaction sends is fixed when its RSP byte has been received. A complete read of a response
other than NONE empties the slot and clears an OVERRUN it carried; a NONE response, and a read cut short before the last byte,
change neither. A transaction that is neither kind changes nothing, and none is taken while the part does not run (R199). That a
response transaction with no RSP_BYTE_RECEIVED before it fixes its response itself is the model's reading (log entry 25). -/
def Obligations.ResponseTransactionReadsSlot : Prop :=
  ∀ (s : State) (p : Port),
    (∀ bytes : List Byte, exec (.transactionDiscarded p bytes) s = .next s)
    ∧ (s.running = false →
      exec (.rspByteReceived p) s = .next s ∧ ∀ n : Nat, exec (.responseTransaction p n) s = .next s)
    ∧ (s.running = true →
      exec (.rspByteReceived p) s = .next (s.setPort p { s.port p with
        fixed := some { status := ((s.port p).slot.map Response.status).getD .none, overrun := (s.port p).overrun,
                        eventsPending := decide ((s.port p).events ≠ []), eventsLost := (s.port p).eventsLost,
                        body := ((s.port p).slot.map Response.body).getD [] } }))
    ∧ (s.running = true → (s.port p).fixed = none → ∀ n : Nat,
      exec (.responseTransaction p n) s
        = exec (.responseTransaction p n) (s.setPort p { s.port p with fixed := some (s.port p).fix }))
    ∧ (s.running = true → ∀ (f : Fixed) (n : Nat), (s.port p).fixed = some f →
      (4 + f.body.length ≤ n → f.status ≠ .none →
        exec (.responseTransaction p n) s = .next (s.setPort p { s.port p with
          slot := none, overrun := (s.port p).overrun && !f.overrun, attn := decide ((s.port p).events ≠ []), fixed := none,
          sent := f.bytes ++ List.replicate (n - (4 + f.body.length)) 0 }))
      ∧ (4 + f.body.length ≤ n → f.status = .none →
        exec (.responseTransaction p n) s = .next (s.setPort p { s.port p with
          fixed := none, sent := f.bytes ++ List.replicate (n - (4 + f.body.length)) 0 }))
      ∧ (n < 4 + f.body.length →
        exec (.responseTransaction p n) s = .next (s.setPort p { s.port p with fixed := none, sent := f.bytes.take n })))

/-! ## Events and link supervision (chapters 9.5 and 9.6) -/

/-- An event joins the newest end of a port's queue and asserts ATTN; with 16 events queued it is dropped and EVENTS_LOST is set.
READ EVENTS, with a count of 1 to 8, removes that many from the oldest end, reports EVENTS_LOST and clears it, and any other
count is refused. -/
def Obligations.EventsAreQueuedAndRead : Prop :=
  (∀ (s : State) (p : Port) (e : Event),
    ((s.port p).events.length < 16 →
      s.raise p e = s.setPort p { s.port p with events := (s.port p).events ++ [e], attn := true })
    ∧ (16 ≤ (s.port p).events.length → s.raise p e = s.setPort p { s.port p with eventsLost := true }))
  ∧ (∀ (s : State) (p : Port) (count : Byte), s.Ready .readEvents p → 1 ≤ count.toNat → count.toNat ≤ 8 →
      let taken := (s.port p).events.take count.toNat
      let left := (s.port p).events.drop count.toNat
      exec (.readEvents p count) s = .next ((s.setPort p { s.port p with events := left, eventsLost := false }).withAnswer
        .readEvents p .ok (byte taken.length ++ taken.flatMap Event.bytes ++ flag (s.port p).eventsLost ++ byte left.length)))
  ∧ ∀ (s : State) (p : Port) (count : Byte), s.Ready .readEvents p → count.toNat = 0 ∨ 8 < count.toNat →
      exec (.readEvents p count) s = .next (s.withAnswer .readEvents p .badValue [])

/-- SET SUPERVISION is accepted once after a start, with the interval clamped to 1 to 255; the token of a KEEPALIVE has the
outcomes of R192's table, whose expiry is that of `SupervisionExpires`. -/
def Obligations.SupervisionRequests : Prop :=
  (∀ (s : State) (p : Port) (interval : Byte), s.Ready .setSupervision p →
    ((s.port p).supervised = false →
      exec (.setSupervision p interval) s = .next ((s.setPort p { s.port p with
          supervised := true, interval := max 1 interval.toNat, timer := some (max 1 interval.toNat) }).withAnswer
        .setSupervision p .ok (byte (max 1 interval.toNat))))
    ∧ ((s.port p).supervised = true →
      exec (.setSupervision p interval) s = .next (s.withAnswer .setSupervision p .alreadySet [])))
  ∧ ∀ (s : State) (p : Port) (token : Half), s.Ready .keepalive p →
    let items (q : PortState) : List Byte := byte (if q.linkLost then 2 else 1) ++ byte (q.timer.getD 0)
    ((s.port p).supervised = false → token = 0x5A3C →
      exec (.keepalive p token) s = .next (s.withAnswer .keepalive p .ok (items (s.port p))))
    ∧ ((s.port p).supervised = false → token ≠ 0x5A3C →
      exec (.keepalive p token) s = .next (s.withAnswer .keepalive p .badValue (items (s.port p))))
    ∧ ((s.port p).supervised = true → token = 0x5A3C →
      exec (.keepalive p token) s = .next ((s.setPort p { s.port p with
          linkLost := false, timer := some (s.port p).interval }).withAnswer .keepalive p .ok
        (byte 1 ++ byte (s.port p).interval)))
    ∧ ((s.port p).supervised = true → token ≠ 0x5A3C → (s.port p).linkLost = true →
      exec (.keepalive p token) s = .next (s.withAnswer .keepalive p .linkLost (items (s.port p))))
    ∧ ((s.port p).supervised = true → token ≠ 0x5A3C → (s.port p).linkLost = false →
      exec (.keepalive p token) s = .next ((s.superviseExpire p).withAnswer .keepalive p .linkLost (byte 2 ++ byte 0)))

/-- R193: the expiry of a port's supervision, where it is due, loses the link, frees the port's claims in ascending slot order with
CLAIM_LOST, sets its policy to YIELD, appends LINK_EXPIRED with the claims freed and the policy before, and tells the other port.
That the expiry's own command carries it out at a count of 0, and that one which is not due changes nothing, are the model's choices
(log entries 4 and 10); the tick that brings the count to 0 carries it out itself (`TicksAdvanceClockAndTimers`). -/
def Obligations.SupervisionExpires : Prop :=
  ∀ (s : State) (p : Port),
    (let held := allSlots.filter fun i => s.holder i == some p
     let lost := s.setPort p { s.port p with linkLost := true, timer := none }
     let freed := held.foldl (fun x i => (x.setClaim i none).raise p (.claimLost i .link)) lost
     let yielding := { freed with log := freed.log.setReader p { s.log.reader p with policy := .yields } }
     s.superviseExpire p = (yielding.append (.port p) none none (.linkExpired held.length (s.log.reader p).policy)).raise
       (otherPort p) .peerLinkLost)
    ∧ (s.running = true → (s.port p).timer = some 0 → (s.port p).linkLost = false →
      exec (.supervisionTimerExpiry p) s = .next (s.superviseExpire p))
    ∧ ((s.port p).timer ≠ some 0 → exec (.supervisionTimerExpiry p) s = .next s)

/-! ## Requests that read (chapters 1.3, 2.3, 3.11, 4.2, 4.8, 7.6 and 9.7) -/

/-- R9, R29, R66, R75, R93, R157 and R195: the reading requests change no state and answer the items their rules list, each item
written out. Some encodings of READ ROOM, READ UNIT, READ GATES and IDENTIFY are the model's readings or choices (log entries 5, 6,
9, 19 and 24). -/
def Obligations.ReadRequestsChangeNothing : Prop :=
  (∀ (s : State) (p : Port),
    let summary : List Byte := be 2 s.table.cards.length ++ be 2 s.table.revoked.length ++ be 3 (s.table.revoked.head?.getD 0)
      ++ be 3 s.table.nextNumber ++ be 2 s.table.site
    let card (c : Credential) : List Byte := be 3 c.number ++ byte c.cls.val ++ byte ((c.slot?.map Fin.val).getD 0)
      ++ byte ((c.binding.map RoomBinding.generation).getD 0) ++ be 2 c.issueNumber
      ++ byte ((if c.first then 1 else 0) + (if c.final then 2 else 0))
      ++ be 2 c.window.start.day ++ be 2 c.window.start.minute ++ be 2 c.window.stop.day ++ be 2 c.window.stop.minute
      ++ (match c.state with
          | .active => byte 1 ++ byte 0
          | .suspended => byte 2 ++ byte 0
          | .revoked why => byte 3 ++ byte why.code)
      ++ byte (match c.issuedBy with | .fo => 1 | .se => 2) ++ c.imageBytes s.table.site
    let unit (r : UnitRec) : List Byte := byte r.kind.code ++ byte r.entranceClass.val
      ++ byte ((r.kind.slot?.map Fin.val).getD 0) ++ byte ((r.kind.gate?.map Fin.val).getD 0) ++ flag r.quarantined
      ++ byte r.link.code ++ byte r.misses ++ byte (match r.expected with | none => 0xFF | some b => if b then 1 else 0)
      ++ (match r.lastStatus with | none => byte 0 ++ byte 0 | some x => byte x.mode.code ++ byte (if x.released then 1 else 0))
      ++ byte r.misreads ++ byte (match r.kind with | .gateReader _ => 0 | _ => r.entrance.code) ++ flag r.relock
    let grant (g : Option Grant) : List Byte := match g with
      | none => [0, 0, 0, 0, 0]
      | some g => byte 1 ++ be 3 (g.card.getD 0) ++ flag g.acknowledged
    let session (x : Option Session) : List Byte := match x with
      | none => [0, 0, 0, 0]
      | some x => byte 1 ++ byte (match x.phase with | .awaitingOpen _ => 2 | .inUse => 3)
        ++ byte (match x.kind with | .guest => 1 | .restock => 2) ++ byte x.slot.val
    let lock (u : Option UnitId) : List Byte := match u with
      | none => [0, 0]
      | some u => byte (match busOf u with | .a => 1 | .b => 2) ++ byte (addressOf u)
    let gate (g : Gate) : List Byte :=
      byte s.gates.scheduled[g].code ++ byte (s.gates.pulses[g].getD 0) ++ byte s.gates.outputs[g].code
    let configured (line : Bus) (f : UnitRec → Bool) : Nat :=
      allUnits.countP fun u => busOf u == line && decide (s.units[u].kind ≠ .absent) && f s.units[u]
    (s.Ready .readClock p → exec (.readClock p) s = .next (s.withAnswer .readClock p .ok
      (be 2 s.clock.day ++ be 2 s.clock.minute ++ byte s.clock.second ++ flag s.clock.clockSet ++ flag s.clock.clockEnd
        ++ byte s.clock.grace)))
    ∧ (s.Ready .readRoom p → ∀ i : Slot, exec (.readRoom p (slotByte i)) s = .next (s.withAnswer .readRoom p .ok
      (byte s.rooms[i].occupancy.code ++ be 2 (s.rooms[i].occupancy.number?.getD 0) ++ byte s.rooms[i].generation
        ++ be 2 s.rooms[i].issueCounter
        ++ (match s.rooms[i].occupancy.stay? with
            | none => List.replicate 16 0
            | some st => st.arrival.bytes ++ st.departure.bytes ++ st.window.bytes)
        ++ byte s.rooms[i].privacy.code ++ byte (match s.holder i with | none => 0 | some .fo => 1 | some .se => 2)
        ++ byte (s.leaseOf i) ++ flag (s.unsettled i)
        ++ byte (s.table.cards.countP fun c => c.slot? == some i && !c.isRevoked)
        ++ lock (s.roomLockOf i) ++ lock (s.minibarLockOf i))))
    ∧ (s.Ready .readRoom p → ∀ b : Byte, 128 ≤ b.toNat →
      exec (.readRoom p b) s = .next (s.withAnswer .readRoom p .badValue []))
    ∧ (s.Ready .readCard p → exec (.readCard p 0) s = .next (s.withAnswer .readCard p .badValue []))
    ∧ (s.Ready .readCard p → ∀ number : Triple, number ≠ 0 →
      (s.table.find number.toNat = none →
        exec (.readCard p number) s = .next (s.withAnswer .readCard p .notFound summary))
      ∧ ∀ c ∈ s.table.find number.toNat,
        exec (.readCard p number) s = .next (s.withAnswer .readCard p .ok (card c ++ summary)))
    ∧ (s.Ready .readUnit p → ∀ u : UnitId,
      exec (.readUnit p (BitVec.ofNat 8 (busCode (busOf u))) (BitVec.ofNat 8 (addressOf u))) s
        = .next (s.withAnswer .readUnit p .ok (unit s.units[u] ++ grant s.grants[u] ++ session s.sessions[u])))
    ∧ (s.Ready .readUnit p → ∀ b a : Byte, (b ≠ 1 ∧ b ≠ 2) ∨ a.toNat = 0 ∨ 120 < a.toNat →
      exec (.readUnit p b a) s = .next (s.withAnswer .readUnit p .badValue []))
    ∧ (s.Ready .readBus p → ∀ line : Bus, exec (.readBus p (BitVec.ofNat 8 (busCode line))) s
        = .next (s.withAnswer .readBus p .ok (be 2 (s.bus line).crcErrors ++ be 2 (s.bus line).strays ++ be 2 (s.bus line).timeouts
          ++ be 2 (s.bus line).malformed ++ byte (s.bus line).round ++ byte (s.bus line).position
          ++ flag (s.bus line).broadcast ++ byte (configured line fun r => r.link == .unknown)
          ++ byte (configured line fun r => r.link == .online) ++ byte (configured line fun r => r.link == .silent)
          ++ byte (configured line fun r => r.quarantined))))
    ∧ (s.Ready .readBus p → ∀ b : Byte, b ≠ 1 → b ≠ 2 →
      exec (.readBus p b) s = .next (s.withAnswer .readBus p .badValue []))
    ∧ (s.Ready .readGates p → exec (.readGates p) s = .next (s.withAnswer .readGates p .ok
      (byte s.wing.mode.code ++ byte (if s.wing.evacSampled then 1 else 2) ++ byte s.gates.enabled.toNat
        ++ byte s.gates.exposed.toNat ++ gate 0 ++ gate 1 ++ gate 2 ++ gate 3 ++ gate 4 ++ gate 5
        ++ be 2 s.gates.lastWorking ++ byte s.gates.schedule.length
        ++ s.gates.schedule.zipIdx.flatMap fun e =>
            byte e.2 ++ be 2 e.1.minute ++ byte e.1.gates.toNat ++ byte e.1.level.code)))
    ∧ (s.Ready .identify p → exec (.identify p) s = .next (s.withAnswer .identify p .ok
      (([0x53, 0x47, 128, 1] : List Byte) ++ byte (match p with | .fo => 1 | .se => 2) ++ [128, 4, 0, 2, 120, 16, 0, 32, 6, 16, 8]
        ++ flag (s.port p).supervised ++ byte (s.port p).interval
        ++ byte ((s.port p).timer.getD 0) ++ byte (if (s.port p).linkLost then 2 else 1)))))
  ∧ (∀ (n : Nat) (st : Stay) (i : Slot) (g : Gate),
    [Occupancy.unused, .vacant n, .letTo n st, .held n].map Occupancy.code = [1, 2, 3, 4]
    ∧ [UnitKind.absent, .roomLock i, .passageLock, .minibarLock i, .gateReader g].map UnitKind.code = [0, 1, 2, 3, 4])
  ∧ [Privacy.off, .on, .unknown].map Privacy.code = [1, 2, 3]
  ∧ [LinkState.unknown, .online, .silent].map LinkState.code = [1, 2, 3]
  ∧ [Entrance.closed, .opened, .ajar, .unknown].map Entrance.code = [1, 2, 3, 4]
  ∧ [RevokeReason.checkout, .superseded, .lost, .returned, .withdrawn].map RevokeReason.code = [1, 2, 3, 4, 5]
  ∧ [WingMode.normal, .storm, .lockdown, .evacuation].map WingMode.code = [0, 1, 2, 3]
  ∧ [GateLevel.opened, .shut].map GateLevel.code = [1, 2]

/-! ## The entry log (chapter 8) -/

/-- R170 to R173 and R181: a record handed to the log is stored, stored in place of the oldest, or lost, and an append changes
nothing else but the LOG_THRESHOLD events of the ports whose unread count it raises to their threshold. -/
def Obligations.AppendStoresDiscardsOrLoses : Prop :=
  (∀ (l : EntryLog) (r : Formed),
    let stored : LogRecord := { seq := l.next, formed := r, gap := if l.lost = 0 then none else some l.lost }
    (l.records.length < 4096 →
      l.offer r = { l with records := l.records ++ [stored], next := (l.next + 1) % 4294967296, lost := 0 })
    ∧ (∀ oldest rest, l.records = oldest :: rest → 4096 ≤ l.records.length →
      ((∃ p : Port, (l.reader p).policy = .hold ∧ (l.reader p).cursor = oldest.seq) →
        l.offer r = { l with lost := min 65535 (l.lost + 1) })
      ∧ ((∀ p : Port, (l.reader p).policy = .hold → (l.reader p).cursor ≠ oldest.seq) →
        let moved (q : Reader) : Reader := if q.cursor = oldest.seq
          then { q with cursor := (oldest.seq + 1) % 4294967296, skipped := min 65535 (q.skipped + 1) } else q
        l.offer r = { records := rest ++ [stored], next := (l.next + 1) % 4294967296, lost := 0,
                      fo := moved l.fo, se := moved l.se })))
  ∧ ∀ (s : State) (source : Source) (card : Option Nat) (room : Option Slot) (detail : Detail),
    let l := s.log.offer { time := s.now, source := source, card := card, room := room, detail := detail }
    let told (p : Port) : PortState :=
      if l.unread p = s.log.unread p + 1 ∧ l.unread p = (l.reader p).threshold
      then (s.port p).queue (.logThreshold (l.unread p)) else s.port p
    s.append source card room detail = { s with log := l, fo := told .fo, se := told .se }

/-- The HOLD rule of R170: in every step but the beginning of a cold start, a record leaves the log only when the cursor of each
port that holds HOLD before and after the step has passed it, that is, fewer records are unread at that port than lie from the
record to the newest. -/
def Obligations.HoldCursorKeepsItsRecords : Prop :=
  ∀ (s t : State) (r : LogRecord) (p : Port), s.log.Sound → step s = .next t → s.pending.head? ≠ some .coldStart →
    r ∈ s.log.records → r ∉ t.log.records → (s.log.reader p).policy = .hold → (t.log.reader p).policy = .hold →
    t.log.unread p < seqDistance r.seq t.log.next

/-- READ LOG takes the held records from its port's cursor on and moves the cursor past them; SET LOG POLICY and SET LOG THRESHOLD
set the requesting port's own policy and threshold. The oldest number that an empty log reports and the bytes of some details are
the model's choices (log entries 7 and 8). -/
def Obligations.LogRequestsActOnOwnReader : Prop :=
  ∀ (s : State) (p : Port), s.log.Sound →
    (∀ count : Byte, s.Ready .readLog p → 1 ≤ count.toNat → count.toNat ≤ 8 →
      let taken := (s.log.records.drop (s.log.records.length - s.log.unread p)).take count.toNat
      let log := s.log.setReader p { s.log.reader p with
        cursor := ((s.log.reader p).cursor + taken.length) % 4294967296, skipped := 0 }
      exec (.readLog p count) s = .next (({ s with log := log }).withAnswer .readLog p .ok
        (byte taken.length ++ taken.flatMap LogRecord.bytes ++ be 2 (s.log.reader p).skipped
          ++ be 2 (s.log.unread p - taken.length) ++ be 4 s.log.oldest ++ be 4 s.log.next ++ be 2 s.log.lost
          ++ byte (s.log.reader p).policy.code ++ be 2 (s.log.reader p).threshold)))
    ∧ (∀ count : Byte, s.Ready .readLog p → count.toNat = 0 ∨ 8 < count.toNat →
      exec (.readLog p count) s = .next (s.withAnswer .readLog p .badValue []))
    ∧ (∀ policy : Policy, s.Ready .setLogPolicy p →
      exec (.setLogPolicy p (BitVec.ofNat 8 policy.code)) s = .next
        (({ s with log := s.log.setReader p { s.log.reader p with policy := policy } }).withAnswer .setLogPolicy p .ok
          (byte policy.code ++ be 2 (s.log.unread p) ++ be 2 (s.log.reader p).skipped)))
    ∧ (∀ b : Byte, s.Ready .setLogPolicy p → b ≠ 1 → b ≠ 2 →
      exec (.setLogPolicy p b) s = .next (s.withAnswer .setLogPolicy p .badValue []))
    ∧ ∀ threshold : Half, s.Ready .setLogThreshold p →
      exec (.setLogThreshold p threshold) s = .next
        (({ s with log := s.log.setReader p { s.log.reader p with threshold := max 1 (min 4096 threshold.toNat) } }).withAnswer
          .setLogThreshold p .ok (be 2 (max 1 (min 4096 threshold.toNat)) ++ be 2 (s.log.unread p)))

/-! ## The clock and time windows (chapter 1) -/

/-- R1 to R3 and R10: a second tick advances the clock, unless CLOCK_END holds it, and lowers every running elapsed timer by one and
nothing else; a tick that ends a minute works the scheduled levels out. Each timer that the tick brings to 0 expires at that tick,
with the effect of its own command (`ExpiriesActWhenDue`, `SupervisionExpires`), so that no tick leaves a running timer at 0. During a
start and while RST is asserted a tick moves the clock alone (R199). A crystal cycle adds one to the prescaler, and the cycle past
32767 is the second tick. Without a supply neither counts. The order in which one tick takes its expiries is the model's choice (log
entry 4), and so is a crystal cycle as a step of its own beside the tick (log entry 11). -/
def Obligations.TicksAdvanceClockAndTimers : Prop :=
  (∀ s : State, s.power.retained = true →
    let c := s.clock
    let held : Clock := { c with prescaler := 0 }
    let next : Clock :=
      if c.clockEnd then held
      else if c.second < 59 then
        { held with second := c.second + 1, clockEnd := decide (c.day = 65535 ∧ c.minute = 1439 ∧ c.second = 58) }
      else if c.minute < 1439 then { held with second := 0, minute := c.minute + 1 }
      else { held with second := 0, minute := 0, day := c.day + 1 }
    let expiries : List Instr :=
      (allSlots.filter fun i => s.claims[i].any fun c => decide (c.lease ≤ 1)).map .claimLeaseExpiry
      ++ (allUnits.filter fun u => s.grants[u].any fun g => decide (g.expiry ≤ 1)).map .pendingGrantExpiry
      ++ (allUnits.filter fun u => s.ajar[u].any fun t => decide (t.remaining ≤ 1)).map .ajarTimerExpiry
      ++ (allUnits.filter fun u => s.sessions[u].any fun x => match x.phase with
          | .awaitingOpen n => decide (n ≤ 1)
          | .inUse => false).map .minibarSessionExpiry
      ++ ((List.finRange 6).filter fun g => s.gates.pulses[g].any fun n => decide (n ≤ 1)).map .gatePulseExpiry
      ++ ([Port.fo, .se].filter fun p => (s.port p).timer.any fun n => decide (n ≤ 1)).map .supervisionTimerExpiry
    let taken (x : State) (c : Instr) : State := match exec c x with
      | .next y => y
      | .fault _ => x
      | .refused _ => x
    (s.running = true → c.clockEnd = true ∨ c.second < 59 →
      exec .secondTick s = .next (expiries.foldl taken ({ s with clock := next }).tickTimers))
    ∧ (s.running = true → c.clockEnd = false → 59 ≤ c.second →
      exec .secondTick s = .next (expiries.foldl taken ({ s with clock := next }).tickTimers.workLevels))
    ∧ (s.running = false → exec .secondTick s = .next { s with clock := next }))
  ∧ (∀ s t : State, s.power.retained = true → s.running = true →
    (∀ p : Port, (s.port p).timer.isSome = true → (s.port p).linkLost = false) → exec .secondTick s = .next t →
    (∀ i : Slot, ∀ c ∈ t.claims[i], c.lease ≠ 0)
    ∧ (∀ u : UnitId, (∀ g ∈ t.grants[u], g.expiry ≠ 0) ∧ (∀ x ∈ t.ajar[u], x.remaining ≠ 0)
      ∧ (∀ x ∈ t.sessions[u], x.phase ≠ .awaitingOpen 0))
    ∧ (∀ g : Gate, t.gates.pulses[g] ≠ some 0) ∧ ∀ p : Port, (t.port p).timer ≠ some 0)
  ∧ (∀ s : State, s.power.retained = true → s.clock.prescaler < 32767 →
    exec .crystalCycle s = .next { s with clock := { s.clock with prescaler := s.clock.prescaler + 1 } })
  ∧ (∀ s : State, s.power.retained = true → s.clock.prescaler = 32767 → exec .crystalCycle s = exec .secondTick s)
  ∧ (∀ s : State, s.power.retained = false → exec .secondTick s = .next s ∧ exec .crystalCycle s = .next s)
  ∧ ∀ s : State,
    (∀ i : Slot, s.tickTimers.claims[i] = s.claims[i].map fun c => { c with lease := c.lease - 1 })
    ∧ (∀ u : UnitId, s.tickTimers.grants[u] = s.grants[u].map fun g => { g with expiry := g.expiry - 1 })
    ∧ (∀ u : UnitId, s.tickTimers.ajar[u] = s.ajar[u].map fun t => { t with remaining := t.remaining - 1 })
    ∧ (∀ (u : UnitId) (x : Session) (n : Nat), s.sessions[u] = some x → x.phase = .awaitingOpen n →
        s.tickTimers.sessions[u] = some { x with phase := .awaitingOpen (n - 1) })
    ∧ (∀ (u : UnitId) (x : Session), s.sessions[u] = some x → x.phase = .inUse → s.tickTimers.sessions[u] = some x)
    ∧ (∀ u : UnitId, s.sessions[u] = none → s.tickTimers.sessions[u] = none)
    ∧ (∀ g : Gate, s.tickTimers.gates.pulses[g] = s.gates.pulses[g].map fun n => n - 1)
    ∧ (∀ p : Port, (s.tickTimers.port p).timer = (s.port p).timer.map fun n => n - 1)
    ∧ s.tickTimers = { s with
        claims := s.tickTimers.claims, grants := s.tickTimers.grants, ajar := s.tickTimers.ajar
        sessions := s.tickTimers.sessions, gates := { s.gates with pulses := s.tickTimers.gates.pulses }
        fo := { s.fo with timer := s.tickTimers.fo.timer }, se := { s.se with timer := s.tickTimers.se.timer } }

/-- R12 to R14 and R5: the derivation of a room-bound window, the window test of a decision, and the minute index. -/
def Obligations.WindowsAreDerivedAndTested : Prop :=
  (∀ (a d : Moment) (grace n : Nat),
    (1439 < a.minute ∨ 1439 < d.minute ∨ d.day * 1440 + d.minute ≤ a.day * 1440 + a.minute
        ∨ d.day * 1440 + d.minute ≤ n → deriveWindow a d grace n = none)
    ∧ (a.minute ≤ 1439 → d.minute ≤ 1439 → a.day * 1440 + a.minute < d.day * 1440 + d.minute → n < d.day * 1440 + d.minute →
      let stop := min 94371839 (d.day * 1440 + d.minute + grace)
      deriveWindow a d grace n = some { start := a, stop := { day := stop / 1440, minute := stop % 1440 } }))
  ∧ (∀ (w : Window) (n : Nat),
    (n < w.start.day * 1440 + w.start.minute → windowTest w n = some .early)
    ∧ (w.start.day * 1440 + w.start.minute ≤ n → w.stop.day * 1440 + w.stop.minute ≤ n → windowTest w n = some .expired)
    ∧ (w.start.day * 1440 + w.start.minute ≤ n → n < w.stop.day * 1440 + w.stop.minute → windowTest w n = none))
  ∧ ∀ m : Moment, m.minute ≤ 1439 → Moment.ofIndex m.index = m

/-- The shift test's table of R15, and a decision's use of it: the condition ON_SHIFT tests its class's shift window at the present
minute of day. -/
def Obligations.ShiftTestCoversItsMinutes : Prop :=
  (∀ (h : Shift) (m : Nat),
    (h.opens < h.closes → (h.covers m = true ↔ h.opens ≤ m ∧ m < h.closes))
    ∧ (h.closes < h.opens → (h.covers m = true ↔ h.opens ≤ m ∨ m < h.closes))
    ∧ (h.opens = h.closes → h.covers m = true))
  ∧ ∀ (s : State) (u : UnitId) (k : Fin 8), s.decision.conditions[k][s.units[u].entranceClass] = .onShift →
    (s.conditionHolds u k = true ↔ s.decision.shifts[k].covers s.clock.minute = true)

/-! ## Settings (chapters 1.2, 1.5, 5.2, 5.3 and 6.2) -/

/-- R7, R11, R129 and R130: SET CLOCK sets the reading, works the scheduled levels out, appends CLOCK_SET with both minute indices
at the new reading, tells the other port and answers the reading now held; a minute above 1439 is refused and changes nothing. The
front office's settings: the checkout grace stored at 240 at most, the twelve prices and the reserve as given. That SET PRICES
answers its twelve prices without a count byte is the model's reading of R204 (log entry 19). -/
def Obligations.ClockAndFrontOfficeSettingsAreStored : Prop :=
  (∀ (s : State) (p : Port) (d : DayMinute), s.Ready .setClock p →
    (d.minute.toNat ≤ 1439 →
      let set : State := { s with clock := { s.clock with day := d.day.toNat, minute := d.minute.toNat, second := 0,
                                                          prescaler := 0, clockSet := true, clockEnd := false } }
      let old := s.clock.day * 1440 + s.clock.minute
      let new := d.day.toNat * 1440 + d.minute.toNat
      exec (.setClock p d) s = .next (((set.workLevels.append (.port p) none none (.clockSet old new)).raise (otherPort p)
        .clockSet).withAnswer .setClock p .ok (be 2 d.day.toNat ++ be 2 d.minute.toNat ++ byte 0)))
    ∧ (1439 < d.minute.toNat → exec (.setClock p d) s = .next (s.withAnswer .setClock p .badValue [])))
  ∧ ∀ s : State,
    (s.Ready .setGrace .fo → ∀ g : Byte,
      exec (.setGrace .fo g) s = .next (({ s with clock := { s.clock with grace := min 240 g.toNat } }).withAnswer
        .setGrace .fo .ok (byte (min 240 g.toNat))))
    ∧ (s.Ready .setPrices .fo → ∀ prices : Vector Half 12,
      exec (.setPrices .fo prices) s = .next (({ s with prices := prices.map BitVec.toNat }).withAnswer
        .setPrices .fo .ok (prices.toList.flatMap fun h : Half => be 2 h.toNat)))
    ∧ (s.Ready .setReserve .fo → ∀ reserve : Half,
      exec (.setReserve .fo reserve) s = .next (({ s with reserve := reserve.toNat }).withAnswer
        .setReserve .fo .ok (be 2 reserve.toNat)))

/-- R110 to R112: the security office's settings of the Decision Unit's tables. A code, an entrance class's clamped figures or a
shift is stored in its own cell and no other, and what the rules refuse leaves the tables as they were. That SET CONDITION answers
its eight cells without a count byte is the model's reading of R204 (log entry 19). -/
def Obligations.DecisionTablesAreSet : Prop :=
  ∀ s : State,
    (s.Ready .setCondition .se → ∀ (k e : Fin 8) (c : Condition),
      let t : DecisionTables := { s.decision with
        conditions := s.decision.conditions.set k (s.decision.conditions[k].set e c) }
      exec (.setCondition .se (BitVec.ofNat 8 k.val) (BitVec.ofNat 8 e.val) (BitVec.ofNat 8 c.code)) s
        = .next (({ s with decision := t }).withAnswer .setCondition .se .ok
          ((List.finRange 8).flatMap fun j : Fin 8 => byte (if j = e then c.code else s.decision.conditions[k][j].code))))
    ∧ (s.Ready .setCondition .se → ∀ k e c : Byte, 7 < k.toNat ∨ 7 < e.toNat ∨ 15 < c.toNat →
      exec (.setCondition .se k e c) s = .next (s.withAnswer .setCondition .se .badValue []))
    ∧ (s.Ready .setEntranceClass .se → ∀ (e : Fin 8) (unlock exposed : Byte) (ajar : Half),
      let c : EntranceClass := { unlock := max 1 (min 30 unlock.toNat), ajarLimit := max 10 (min 600 ajar.toNat),
                                 exposed := decide (exposed ≠ 0) }
      exec (.setEntranceClass .se (BitVec.ofNat 8 e.val) unlock ajar exposed) s
        = .next (({ s with decision := { s.decision with entrances := s.decision.entrances.set e c } }).withAnswer
          .setEntranceClass .se .ok (byte c.unlock ++ be 2 c.ajarLimit ++ flag c.exposed)))
    ∧ (s.Ready .setEntranceClass .se → ∀ (e unlock exposed : Byte) (ajar : Half), 7 < e.toNat →
      exec (.setEntranceClass .se e unlock ajar exposed) s = .next (s.withAnswer .setEntranceClass .se .badValue []))
    ∧ (s.Ready .setShift .se → ∀ (k : Fin 8) (o c : Half), o.toNat ≤ 1439 → c.toNat ≤ 1439 →
      let h : Shift := { opens := o.toNat, closes := c.toNat }
      exec (.setShift .se (BitVec.ofNat 8 k.val) o c) s
        = .next (({ s with decision := { s.decision with shifts := s.decision.shifts.set k h } }).withAnswer .setShift .se .ok
          (be 2 o.toNat ++ be 2 c.toNat ++ flag (h.covers s.clock.minute))))
    ∧ (s.Ready .setShift .se → ∀ (k : Byte) (o c : Half), 7 < k.toNat ∨ 1439 < o.toNat ∨ 1439 < c.toNat →
      exec (.setShift .se k o c) s = .next (s.withAnswer .setShift .se .badValue []))

/-! ## Rooms and claims (chapter 2) -/

/-- R20 and R21: CONFIGURE ROOM from the SE port gives an UNUSED or VACANT slot a room number that no other configured slot holds;
REMOVE ROOM makes a VACANT, settled slot with no lock bound UNUSED and clears its account. Their refusals, in order; and nothing
else changes, the claim, the generation and the log among it. -/
def Obligations.RoomsAreConfiguredAndRemoved : Prop :=
  (∀ (s : State) (slot : Byte) (number : Half),
    (s.running = true → s.fo.slot = none →
      exec (.configureRoom .fo slot number) s = .next (s.withAnswer .configureRoom .fo .notPermitted []))
    ∧ (s.Ready .configureRoom .se →
      (128 ≤ slot.toNat ∨ number.toNat = 0 ∨ 9999 < number.toNat →
        exec (.configureRoom .se slot number) s = .next (s.withAnswer .configureRoom .se .badValue []))
      ∧ ∀ i : Slot, slot = slotByte i → 1 ≤ number.toNat → number.toNat ≤ 9999 →
        ((∃ n st, s.rooms[i].occupancy = .letTo n st) ∨ (∃ n, s.rooms[i].occupancy = .held n) →
          exec (.configureRoom .se slot number) s = .next (s.withAnswer .configureRoom .se .wrongState []))
        ∧ (s.rooms[i].occupancy = .unused ∨ (∃ n, s.rooms[i].occupancy = .vacant n) →
          ((∃ j : Slot, j ≠ i ∧ s.rooms[j].occupancy.number? = some number.toNat) →
            exec (.configureRoom .se slot number) s = .next (s.withAnswer .configureRoom .se .inUse []))
          ∧ ((∀ j : Slot, j ≠ i → s.rooms[j].occupancy.number? ≠ some number.toNat) →
            exec (.configureRoom .se slot number) s
              = .next ((s.setRoom i { s.rooms[i] with occupancy := .vacant number.toNat }).withAnswer .configureRoom .se .ok
                (byte i.val ++ be 2 number.toNat))))))
  ∧ ∀ (s : State) (slot : Byte),
    (s.running = true → s.fo.slot = none →
      exec (.removeRoom .fo slot) s = .next (s.withAnswer .removeRoom .fo .notPermitted []))
    ∧ (s.Ready .removeRoom .se → (128 ≤ slot.toNat → exec (.removeRoom .se slot) s = .next (s.withAnswer .removeRoom .se .badValue []))
    ∧ ∀ i : Slot, slot = slotByte i →
      ((∀ n, s.rooms[i].occupancy ≠ .vacant n) →
        exec (.removeRoom .se slot) s = .next (s.withAnswer .removeRoom .se .wrongState []))
      ∧ ∀ n, s.rooms[i].occupancy = .vacant n →
        ((∃ u : UnitId, s.units[u].kind = .roomLock i ∨ s.units[u].kind = .minibarLock i) →
          exec (.removeRoom .se slot) s = .next (s.withAnswer .removeRoom .se .inUse []))
        ∧ ((∀ u : UnitId, s.units[u].kind ≠ .roomLock i ∧ s.units[u].kind ≠ .minibarLock i) →
          (s.accounts[i].charge ≠ 0 ∨ (∃ k : Fin 12, s.accounts[i].tally[k] ≠ 0) →
            exec (.removeRoom .se slot) s = .next (s.withAnswer .removeRoom .se .unsettled []))
          ∧ (s.accounts[i].charge = 0 → (∀ k : Fin 12, s.accounts[i].tally[k] = 0) →
            exec (.removeRoom .se slot) s
              = .next (((s.setRoom i { s.rooms[i] with occupancy := .unused }).setAccount i
                { granted := 0, remaining := 0, charge := 0, overdraft := 0, tally := .replicate 12 0, ceilingMet := false,
                  blocked := true }).withAnswer .removeRoom .se .ok []))))

/-- R22 and R23: HOLD ROOM and FREE ROOM from the SE port, which must hold the room's claim, move a room from VACANT to HELD and
back; the claimed request's checks in R24's order; an accepted one restarts the lease and changes nothing else. -/
def Obligations.HoldAndFreeMoveARoom : Prop :=
  ∀ (s : State) (slot : Byte),
    (s.running = true → s.fo.slot = none →
      exec (.holdRoom .fo slot) s = .next (s.withAnswer .holdRoom .fo .notPermitted [])
      ∧ exec (.freeRoom .fo slot) s = .next (s.withAnswer .freeRoom .fo .notPermitted []))
    ∧ (s.Ready .holdRoom .se →
      (128 ≤ slot.toNat →
        exec (.holdRoom .se slot) s = .next (s.withAnswer .holdRoom .se .badValue [])
        ∧ exec (.freeRoom .se slot) s = .next (s.withAnswer .freeRoom .se .badValue []))
      ∧ ∀ i : Slot, slot = slotByte i →
        (s.holder i ≠ some .se →
          exec (.holdRoom .se slot) s = .next (s.withAnswer .holdRoom .se .notClaimed [])
          ∧ exec (.freeRoom .se slot) s = .next (s.withAnswer .freeRoom .se .notClaimed []))
        ∧ (s.holder i = some .se →
          ((∀ n, s.rooms[i].occupancy ≠ .vacant n) →
            exec (.holdRoom .se slot) s = .next (s.withAnswer .holdRoom .se .wrongState []))
          ∧ ((∀ n, s.rooms[i].occupancy ≠ .held n) →
            exec (.freeRoom .se slot) s = .next (s.withAnswer .freeRoom .se .wrongState []))
          ∧ (∀ n, s.rooms[i].occupancy = .vacant n →
            exec (.holdRoom .se slot) s = .next (((s.setRoom i { s.rooms[i] with occupancy := .held n }).setClaim i
              (some { holder := .se, lease := 120 })).withAnswer .holdRoom .se .ok []))
          ∧ ∀ n, s.rooms[i].occupancy = .held n →
            exec (.freeRoom .se slot) s = .next (((s.setRoom i { s.rooms[i] with occupancy := .vacant n }).setClaim i
              (some { holder := .se, lease := 120 })).withAnswer .freeRoom .se .ok [])))

/-- R24: the five claimed requests of the front office that name a room are refused BAD_VALUE for a slot above 127 and NOT_CLAIMED
where FO does not hold the claim of a slot that is in range with their other fields. HOLD ROOM and FREE ROOM, the security
office's two, are in `HoldAndFreeMoveARoom`. -/
def Obligations.ClaimedRequestsNeedTheClaim : Prop :=
  ∀ (s : State) (slot : Byte) (cls count : Byte) (a d : DayMinute) (allowance : Triple),
    (128 ≤ slot.toNat → s.Ready .checkIn .fo →
      exec (.checkIn .fo slot cls count a d allowance) s = .next (s.withAnswer .checkIn .fo .badValue [])
      ∧ exec (.addCards .fo slot cls count) s = .next (s.withAnswer .addCards .fo .badValue [])
      ∧ exec (.changeStay .fo slot d) s = .next (s.withAnswer .changeStay .fo .badValue [])
      ∧ exec (.checkOut .fo slot) s = .next (s.withAnswer .checkOut .fo .badValue [])
      ∧ exec (.settle .fo slot) s = .next (s.withAnswer .settle .fo .badValue []))
    ∧ (4 ≤ cls.toNat ∨ count.toNat = 0 ∨ 8 < count.toNat → s.Ready .checkIn .fo →
      exec (.checkIn .fo slot cls count a d allowance) s = .next (s.withAnswer .checkIn .fo .badValue [])
      ∧ exec (.addCards .fo slot cls count) s = .next (s.withAnswer .addCards .fo .badValue []))
    ∧ ∀ i : Slot, slot = slotByte i → s.holder i ≠ some .fo → s.Ready .checkIn .fo →
      (cls.toNat < 4 → 1 ≤ count.toNat → count.toNat ≤ 8 →
        exec (.checkIn .fo slot cls count a d allowance) s = .next (s.withAnswer .checkIn .fo .notClaimed [])
        ∧ exec (.addCards .fo slot cls count) s = .next (s.withAnswer .addCards .fo .notClaimed []))
      ∧ exec (.changeStay .fo slot d) s = .next (s.withAnswer .changeStay .fo .notClaimed [])
      ∧ exec (.checkOut .fo slot) s = .next (s.withAnswer .checkOut .fo .notClaimed [])
      ∧ exec (.settle .fo slot) s = .next (s.withAnswer .settle .fo .notClaimed [])

/-- R31 to R33: CLAIM takes a free claim, renews one's own, or, from the SE port with PREEMPT, takes FO's at once with its event
and record; it is refused BAD_VALUE, NOT_PERMITTED and CLAIMED_ELSEWHERE as those rules lay down. RELEASE CLAIM frees the
requester's own claim and no other. That FO's PREEMPT for a slot above 127 is refused BAD_VALUE is the model's choice (log
entry 28). -/
def Obligations.ClaimsAreTakenAndReleased : Prop :=
  ∀ (s : State) (p : Port) (slot preempt : Byte), s.Ready .claim p →
    (128 ≤ slot.toNat →
      exec (.claim p slot preempt) s = .next (s.withAnswer .claim p .badValue [])
      ∧ exec (.releaseClaim p slot) s = .next (s.withAnswer .releaseClaim p .badValue []))
    ∧ ∀ i : Slot, slot = slotByte i →
      (p = .fo → preempt ≠ 0 → exec (.claim p slot preempt) s = .next (s.withAnswer .claim p .notPermitted []))
      ∧ (¬(p = .fo ∧ preempt ≠ 0) → s.holder i = none ∨ s.holder i = some p →
        exec (.claim p slot preempt) s = .next ((s.setClaim i (some { holder := p, lease := 120 })).withAnswer .claim p .ok
          (byte (portCode p) ++ byte 120)))
      ∧ (∀ lease, s.claims[i] = some { holder := otherPort p, lease := lease } → preempt = 0 →
        exec (.claim p slot preempt) s = .next (s.withAnswer .claim p .claimedElsewhere
          (byte (portCode (otherPort p)) ++ byte lease)))
      ∧ (∀ lease, s.claims[i] = some { holder := .fo, lease := lease } → p = .se → preempt ≠ 0 →
        exec (.claim p slot preempt) s = .next ((((s.setClaim i (some { holder := .se, lease := 120 })).raise .fo
          (.claimLost i .preempted)).append (.port .se) none (some i) (.claimPreempt lease)).withAnswer .claim p .ok
            (byte 2 ++ byte 120)))
      ∧ (s.holder i = some p →
        exec (.releaseClaim p slot) s = .next ((s.setClaim i none).withAnswer .releaseClaim p .ok []))
      ∧ (s.holder i ≠ some p → exec (.releaseClaim p slot) s = .next (s.withAnswer .releaseClaim p .notClaimed []))

/-! ## Stays and cards (chapters 2.3 and 3) -/

/-- R49, R52 and R55: a card takes the first number from the counter on that no record holds, and the counter then stands at the
number after it. An admitted batch first deletes the oldest REVOKED records it needs the places of, and then creates one record
for each card in turn, under the first number from the counter on that neither a record kept nor an earlier card of the batch holds,
with the room's next issue numbers, FIRST on the first and FINAL on the last. After the batch the counter stands at the number after
the last card's. Nothing outside the table and the room's issue counter changes. That the table's records stand in ascending card
number order is the model's choice (log entry 20). -/
def Obligations.BatchIssueCreatesItsCards : Prop :=
  (∀ t : CardTable, t.Sound → t.cards.length < 1024 →
    ∃ k : Nat, k < 1024 ∧ t.freeNumber = nextCardNumber^[k] t.nextNumber ∧ (∀ c ∈ t.cards, c.number ≠ t.freeNumber)
      ∧ ∀ j : Fin k, ∃ c ∈ t.cards, c.number = nextCardNumber^[j.val] t.nextNumber)
  ∧ (∀ m : Nat, nextCardNumber m = (if m < 16777215 then m + 1 else 1)
      ∧ nextIssueNumber m = (if m < 65535 then m + 1 else 1))
  ∧ (∀ (t : CardTable) (c : Credential), (t.create c).cards.Perm (c :: t.cards)
      ∧ t.create c = { t with cards := (t.create c).cards, nextNumber := nextCardNumber c.number })
  ∧ ∀ (s : State) (p : Port) (i : Slot) (cls : Fin 8) (w : Window) (n : Nat), s.table.Sound → s.rooms[i].issueCounter ≤ 65535 →
    1 ≤ n → n ≤ 8 → s.table.hasSpace n = true →
    let short := n - (1024 - s.table.cards.length)
    let kept := s.table.cards.filter fun c => !(s.table.revoked.take short).contains c.number
    let r := s.issueBatch p i cls w n
    let reclaimed : CardTable := { s.table with cards := kept, revoked := s.table.revoked.drop short }
    let held (k : Nat) : List Credential := kept ++ r.2.take k
    let counter (k : Nat) : Nat := ((r.2.take k).getLast?.map fun c => nextCardNumber c.number).getD s.table.nextNumber
    r.2.length = n
    ∧ s.table.reclaim n = reclaimed ∧ r.1.table = r.2.foldl CardTable.create reclaimed
    ∧ (∀ k : Nat, ∀ c ∈ r.2[k]?, c.number = ((r.2.take k).foldl CardTable.create reclaimed).freeNumber
      ∧ (∀ d ∈ held k, d.number ≠ c.number)
      ∧ ∃ j : Nat, j < 1024 ∧ c.number = nextCardNumber^[j] (counter k)
        ∧ ∀ l : Fin j, ∃ d ∈ held k, d.number = nextCardNumber^[l.val] (counter k))
    ∧ (∀ c ∈ r.2.getLast?, r.1.table.nextNumber = nextCardNumber c.number)
    ∧ r.1.table.cards.Perm (r.2 ++ kept) ∧ r.1.table.cards.Pairwise (fun a b => a.number < b.number)
    ∧ r.1.table.revoked = s.table.revoked.drop short ∧ r.1.table.site = s.table.site
    ∧ (∀ k : Nat, ∀ c ∈ r.2[k]?, 1 ≤ c.number ∧ c.number ≤ 16777215 ∧ (∀ d ∈ kept, d.number ≠ c.number)
      ∧ c = { number := c.number, cls := cls, binding := some { slot := i, generation := s.rooms[i].generation }
              issueNumber := (nextIssueNumber^[k + 1]) s.rooms[i].issueCounter, first := decide (k = 0),
              final := decide (k + 1 = n), window := w, state := .active, issuedBy := p })
    ∧ r.1 = { s with table := r.1.table
                     rooms := s.rooms.set i { s.rooms[i] with
                       issueCounter := (nextIssueNumber^[n]) s.rooms[i].issueCounter } }

/-- R25, R26, R54 and R56: CHECK IN of a VACANT, settled room, and ADD CARDS to a LET one, for the FO port holding the claim with the
clock set and the window in order. The batch's admission is checked in order: NO_SITE, LIMIT, TABLE_FULL. CHECK IN then raises the
generation, sets the stay and the account, issues the batch and appends the STAY record; ADD CARDS issues under the stay's own
window. Each card has one ISSUE record, in the order of issue, the first with the number of records reclaimed, and the lease
restarts. The refusals after the state, in order. That the response sends the number reclaimed after the images is the model's
choice (log entry 27). -/
def Obligations.CheckInAndAddCardsIssueABatch : Prop :=
  ∀ (s : State) (i : Slot) (cls : Fin 8) (n : Nat) (a d : DayMinute) (allowance : Triple), s.Ready .checkIn .fo →
    s.holder i = some .fo → cls.val < 4 → 1 ≤ n → n ≤ 8 →
    let checkIn := exec (.checkIn .fo (slotByte i) (BitVec.ofNat 8 cls.val) (BitVec.ofNat 8 n) a d allowance) s
    let addCards := exec (.addCards .fo (slotByte i) (BitVec.ofNat 8 cls.val) (BitVec.ofNat 8 n)) s
    let refusedIn (st : Status) := checkIn = .next (s.withAnswer .checkIn .fo st [])
    let refusedAdd (st : Status) := addCards = .next (s.withAnswer .addCards .fo st [])
    let window := deriveWindow (momentOf a) (momentOf d) s.clock.grace s.nowIndex
    let unsettled : Prop := s.accounts[i].charge ≠ 0 ∨ ∃ k : Fin 12, s.accounts[i].tally[k] ≠ 0
    let held := s.table.cards.countP fun c => c.slot? == some i && !c.isRevoked
    let reclaimed := n - (1024 - s.table.cards.length)
    let issues (generation : Nat) (t : State) (cards : List Credential) : State := cards.zipIdx.foldl (fun x c =>
      x.append (.port .fo) (some c.1.number) (some i) (.issue cls.val c.1.issueNumber (decide (c.2 = 0)) (decide (c.2 + 1 = n))
        (some generation) (if c.2 = 0 then reclaimed else 0))) t
    let images (cards : List Credential) : List Byte := byte n ++ cards.flatMap fun c => c.imageBytes s.table.site
    ((∀ number, s.rooms[i].occupancy ≠ .vacant number) → refusedIn .wrongState)
    ∧ ((∀ number stay, s.rooms[i].occupancy ≠ .letTo number stay) → refusedAdd .wrongState)
    ∧ (∀ number, s.rooms[i].occupancy = .vacant number →
      (unsettled → refusedIn .unsettled)
      ∧ (¬unsettled → s.clock.clockSet = false → refusedIn .noClock)
      ∧ (¬unsettled → s.clock.clockSet = true → window = none → refusedIn .badWindow)
      ∧ (¬unsettled → s.clock.clockSet = true → ∀ w, window = some w →
        (s.table.site = 0 → refusedIn .noSite)
        ∧ (s.table.site ≠ 0 → 8 < held + n → refusedIn .limit)
        ∧ (s.table.site ≠ 0 → held + n ≤ 8 → s.table.revoked.length < reclaimed → refusedIn .tableFull)
        ∧ (s.table.site ≠ 0 → held + n ≤ 8 → reclaimed ≤ s.table.revoked.length →
          let stored := min 999999 allowance.toNat
          let generation := (s.rooms[i].generation + 1) % 256
          let stay : Stay := { arrival := momentOf a, departure := momentOf d, window := w }
          let housed := (s.setRoom i { s.rooms[i] with generation := generation, occupancy := .letTo number stay }).setAccount i
            { s.accounts[i] with granted := stored, remaining := stored, ceilingMet := false, blocked := decide (stored = 0) }
          let issued := housed.issueBatch .fo i cls w n
          let logged := issues generation
            (issued.1.append (.port .fo) none (some i) (.stayCheckIn generation w n)) issued.2
          checkIn = .next ((logged.setClaim i (some { holder := .fo, lease := 120 })).withAnswer .checkIn .fo .ok
            (byte generation ++ w.bytes ++ be 3 stored ++ images issued.2 ++ byte reclaimed)))))
    ∧ ∀ number stay, s.rooms[i].occupancy = .letTo number stay →
      (s.clock.clockSet = false → refusedAdd .noClock)
      ∧ (s.clock.clockSet = true → stay.window.stop.index ≤ s.nowIndex → refusedAdd .badWindow)
      ∧ (s.clock.clockSet = true → s.nowIndex < stay.window.stop.index →
        (s.table.site = 0 → refusedAdd .noSite)
        ∧ (s.table.site ≠ 0 → 8 < held + n → refusedAdd .limit)
        ∧ (s.table.site ≠ 0 → held + n ≤ 8 → s.table.revoked.length < reclaimed → refusedAdd .tableFull)
        ∧ (s.table.site ≠ 0 → held + n ≤ 8 → reclaimed ≤ s.table.revoked.length →
          let issued := s.issueBatch .fo i cls stay.window n
          let logged := issues s.rooms[i].generation issued.1 issued.2
          addCards = .next ((logged.setClaim i (some { holder := .fo, lease := 120 })).withAnswer .addCards .fo .ok
            (images issued.2 ++ byte reclaimed))))

/-- R27 and R57: CHANGE STAY moves the departure and the end of the card window of a LET room, and gives the window to every card
of the room that is not REVOKED; arrival and window start are kept. Its refusals after the claim, in order. -/
def Obligations.ChangeStayMovesTheWindow : Prop :=
  ∀ (s : State) (i : Slot) (d : DayMinute), s.Ready .changeStay .fo → s.holder i = some .fo →
    ((∀ number stay, s.rooms[i].occupancy ≠ .letTo number stay) →
      exec (.changeStay .fo (slotByte i) d) s = .next (s.withAnswer .changeStay .fo .wrongState []))
    ∧ ∀ number stay, s.rooms[i].occupancy = .letTo number stay →
      (s.clock.clockSet = false →
        exec (.changeStay .fo (slotByte i) d) s = .next (s.withAnswer .changeStay .fo .noClock []))
      ∧ (s.clock.clockSet = true → deriveWindow stay.arrival (momentOf d) s.clock.grace s.nowIndex = none →
        exec (.changeStay .fo (slotByte i) d) s = .next (s.withAnswer .changeStay .fo .badWindow []))
      ∧ (s.clock.clockSet = true → ∀ derived, deriveWindow stay.arrival (momentOf d) s.clock.grace s.nowIndex = some derived →
        let w : Window := { start := stay.window.start, stop := derived.stop }
        let moved : State := { s with
          rooms := s.rooms.set i { s.rooms[i] with
            occupancy := .letTo number { arrival := stay.arrival, departure := momentOf d, window := w } }
          table := { s.table with
            cards := s.table.cards.map fun c => if c.slot? = some i ∧ c.isRevoked = false then { c with window := w } else c } }
        exec (.changeStay .fo (slotByte i) d) s
          = .next (((moved.append (.port .fo) none (some i) (.stayChange stay.window.stop derived.stop)).setClaim i
            (some { holder := .fo, lease := 120 })).withAnswer .changeStay .fo .ok w.bytes))

/-- R28, R63 and R136: CHECK OUT of a LET room revokes its cards that are not REVOKED with reason CHECKOUT, in ascending order at
the tail of the revocation list, makes the room VACANT, blocks the account, logs the stay and the revocations, and ends a session
at the room's minibar lock with relock set there. A room that is not LET is refused. -/
def Obligations.CheckOutRevokesTheCards : Prop :=
  ∀ (s : State) (i : Slot), s.Ready .checkOut .fo → s.holder i = some .fo → s.table.Sound →
    ((∀ number stay, s.rooms[i].occupancy ≠ .letTo number stay) →
      exec (.checkOut .fo (slotByte i)) s = .next (s.withAnswer .checkOut .fo .wrongState []))
    ∧ ∀ number stay, s.rooms[i].occupancy = .letTo number stay →
      let live := s.table.cards.filter fun c => c.slot? = some i ∧ c.isRevoked = false
      let out : State := { s with
        table := { s.table with
          cards := s.table.cards.map fun c =>
            if c.slot? = some i ∧ c.isRevoked = false then { c with state := .revoked .checkout } else c
          revoked := s.table.revoked ++ live.map Credential.number }
        rooms := s.rooms.set i { s.rooms[i] with occupancy := .vacant number }
        accounts := s.accounts.set i { s.accounts[i] with blocked := true } }
      let logged := live.foldl (fun x c => x.append (.port .fo) (some c.number) (some i) (.revoke .checkout))
        (out.append (.port .fo) none (some i) (.stayCheckOut live.length))
      let ended := match s.minibarLockOf i with
        | some u => if s.sessions[u].isSome then (logged.setRelock u).endSession u .checkout else logged
        | none => logged
      exec (.checkOut .fo (slotByte i)) s
        = .next ((ended.setClaim i (some { holder := .fo, lease := 120 })).withAnswer .checkOut .fo .ok
          (byte live.length ++ flag (s.unsettled i)))

/-- R46 to R48: the image formed from a sound record holds the words of the table of chapter 3.3, is intact by the end-around sum, and
decodes to the record's own number, class, batch flags, room slot, generation, issue number and window under the site code. -/
def Obligations.FormedImageIsIntactAndDecodes : Prop :=
  (∀ (c : Credential) (site : Nat), c.Sound → site ≤ 65535 → (∀ b ∈ c.binding, b.generation ≤ 255) →
    c.window.start.day ≤ 65535 → c.window.start.minute ≤ 1439 → c.window.stop.day ≤ 65535 → c.window.stop.minute ≤ 1439 →
    let image := imageOfBytes (c.imageBytes site)
    let slot := (c.slot?.map Fin.val).getD 255
    let generation := (c.binding.map RoomBinding.generation).getD 0
    let flags := (if c.first then 1 else 0) + (if c.final then 2 else 0)
    let words := [site, c.number / 256, c.number % 256 * 256 + c.cls.val * 16 + flags, slot * 256 + generation, c.issueNumber,
      c.window.start.day, c.window.start.minute, c.window.stop.day, c.window.stop.minute]
    image.toList = words ++ [65535 - endAround words]
      ∧ image.intact = true ∧ image.site = site ∧ image.cardNumber = c.number ∧ image.cls = c.cls.val
      ∧ image.slot = slot ∧ image.generation = generation
      ∧ image.issueNumber = c.issueNumber ∧ image.batchFlags = flags ∧ image.window = c.window ∧ c.agrees image = true)
  ∧ (∀ image : CardImage, image.intact = true ↔ endAround image.toList = 65535)
  ∧ endAround [] = 0
  ∧ ∀ (words : List Nat) (w : Nat), endAround (words ++ [w])
      = if 65535 < endAround words + w then endAround words + w - 65535 else endAround words + w

/-- R58 and R59: the checks of ISSUE STAFF in order, and an accepted one, which reclaims where the table is full, creates the card
under the next free number, and supersedes the card it replaces where that is held and not REVOKED. What the response reports of
a card to replace that is named by no one or that reclamation deleted, its number as asked and the state 0, is the model's choice (log
entry 20). -/
def Obligations.IssueStaffIssuesAndReplaces : Prop :=
  ∀ (s : State) (cls : Byte) (start stop : DayMinute) (old : Triple), s.Ready .issueStaff .se →
    let request := exec (.issueStaff .se cls start stop old) s
    let refused (st : Status) := request = .next (s.withAnswer .issueStaff .se st [])
    (cls.toNat < 4 ∨ 7 < cls.toNat → refused .badValue)
    ∧ ∀ k : Fin 8, cls = BitVec.ofNat 8 k.val → 4 ≤ k.val →
      (s.clock.clockSet = false → refused .noClock)
      ∧ (s.clock.clockSet = true →
        let startIndex := start.day.toNat * 1440 + start.minute.toNat
        let stopIndex := stop.day.toNat * 1440 + stop.minute.toNat
        let fails : Prop := 1439 < start.minute.toNat ∨ 1439 < stop.minute.toNat ∨ stopIndex ≤ startIndex ∨ stopIndex ≤ s.nowIndex
        (fails → refused .badWindow)
        ∧ (¬fails →
          (old ≠ 0 → s.table.find old.toNat = none → refused .notFound)
          ∧ (old ≠ 0 → ∀ c ∈ s.table.find old.toNat, c.binding.isSome = true → refused .wrongState)
          ∧ (old = 0 ∨ (∃ c ∈ s.table.find old.toNat, c.binding = none) →
            (s.table.site = 0 → refused .noSite)
            ∧ (s.table.site ≠ 0 → s.table.cards.length = 1024 → s.table.revoked = [] → refused .tableFull)
            ∧ (s.table.site ≠ 0 → s.table.cards.length < 1024 ∨ (s.table.cards.length = 1024 ∧ s.table.revoked ≠ []) →
              let reclaimed := if s.table.cards.length < 1024 then 0 else 1
              let room := s.table.reclaim 1
              let card : Credential :=
                { number := room.freeNumber, cls := k, binding := none, issueNumber := 1, first := true, final := true
                  window := { start := momentOf start, stop := momentOf stop }, state := .active, issuedBy := .se }
              let replaced := if old = 0 then none else room.find old.toNat
              let superseded := replaced.filter fun c => !c.isRevoked
              let table := match superseded with
                | some c => (room.create card).revoke c.number .superseded
                | none => room.create card
              let logged := ({ s with table := table }).append (.port .se) (some card.number) none
                (.issue k.val 1 true true none reclaimed)
              let done := match superseded with
                | some c => logged.append (.port .se) (some c.number) none (.revoke .superseded)
                | none => logged
              request = .next (done.withAnswer .issueStaff .se .ok (be 3 card.number ++ card.imageBytes s.table.site
                ++ byte reclaimed ++ be 3 old.toNat ++ byte (if replaced.isSome then 3 else 0)))))))

/-- R60 to R62: REVOKE of a card that is not REVOKED gives it the reason, adds its number to the tail of the revocation list and
appends the record; a card already REVOKED is left as it is and answered OK with its own reason. FO needs the claim of the card's
room, and its accepted request restarts that lease; SE needs and renews none. -/
def Obligations.RevokeRevokesOnce : Prop :=
  ∀ (s : State) (p : Port) (card : Triple) (reason : Byte), s.Ready .revoke p →
    (card = 0 ∨ (reason ≠ 3 ∧ reason ≠ 4 ∧ reason ≠ 5) →
      exec (.revoke p card reason) s = .next (s.withAnswer .revoke p .badValue []))
    ∧ ∀ r : RevokeReason, r ≠ .checkout → r ≠ .superseded → reason = BitVec.ofNat 8 r.code → card ≠ 0 →
      (s.table.find card.toNat = none → exec (.revoke p card reason) s = .next (s.withAnswer .revoke p .notFound []))
      ∧ ∀ c ∈ s.table.find card.toNat,
        (p = .fo → c.binding = none → exec (.revoke p card reason) s = .next (s.withAnswer .revoke p .notPermitted []))
        ∧ (p = .fo → ∀ b ∈ c.binding, s.holder b.slot ≠ some .fo →
          exec (.revoke p card reason) s = .next (s.withAnswer .revoke p .notClaimed []))
        ∧ (p = .se ∨ (∃ b ∈ c.binding, s.holder b.slot = some .fo) →
          let renewed (t : State) : State := match p, c.binding with
            | .fo, some b => t.setClaim b.slot (some { holder := .fo, lease := 120 })
            | _, _ => t
          (∀ was, c.state = .revoked was →
            exec (.revoke p card reason) s
              = .next ((renewed s).withAnswer .revoke p .ok (be 3 card.toNat ++ byte 3 ++ byte was.code)))
          ∧ (c.isRevoked = false →
            let table : CardTable := { s.table with
              cards := s.table.cards.map fun d => if d.number = c.number then { d with state := .revoked r } else d
              revoked := s.table.revoked ++ [c.number] }
            exec (.revoke p card reason) s
              = .next ((renewed (({ s with table := table }).append (.port p) (some c.number) c.slot? (.revoke r))).withAnswer
                .revoke p .ok (be 3 card.toNat ++ byte 3 ++ byte r.code))))

/-- R44, R64 and R65: SUSPEND and RESUME move a card between ACTIVE and SUSPENDED and log it, leave one already there as it is, and
are refused for a REVOKED one; SET SITE stores a site code other than 0 while the table is empty. -/
def Obligations.SuspendResumeAndSetSite : Prop :=
  (∀ (s : State) (card : Triple), s.Ready .suspend .se →
    (card = 0 → exec (.suspend .se card) s = .next (s.withAnswer .suspend .se .badValue [])
      ∧ exec (.resume .se card) s = .next (s.withAnswer .resume .se .badValue []))
    ∧ (card ≠ 0 → s.table.find card.toNat = none →
      exec (.suspend .se card) s = .next (s.withAnswer .suspend .se .notFound [])
      ∧ exec (.resume .se card) s = .next (s.withAnswer .resume .se .notFound []))
    ∧ (card ≠ 0 → ∀ c ∈ s.table.find card.toNat,
      let table (st : CardState) : CardTable := { s.table with
        cards := s.table.cards.map fun d => if d.number = c.number then { d with state := st } else d }
      (c.isRevoked = true →
        exec (.suspend .se card) s = .next (s.withAnswer .suspend .se .wrongState [])
        ∧ exec (.resume .se card) s = .next (s.withAnswer .resume .se .wrongState []))
      ∧ (c.state = .active →
        exec (.suspend .se card) s = .next ((({ s with table := table .suspended }).append (.port .se) (some c.number) c.slot?
          .suspend).withAnswer .suspend .se .ok (be 3 card.toNat ++ byte 2))
        ∧ exec (.resume .se card) s = .next (s.withAnswer .resume .se .ok (be 3 card.toNat ++ byte 1)))
      ∧ (c.state = .suspended →
        exec (.suspend .se card) s = .next (s.withAnswer .suspend .se .ok (be 3 card.toNat ++ byte 2))
        ∧ exec (.resume .se card) s = .next ((({ s with table := table .active }).append (.port .se) (some c.number) c.slot?
          .resume).withAnswer .resume .se .ok (be 3 card.toNat ++ byte 1)))))
  ∧ ∀ (s : State) (site : Half), s.Ready .setSite .se →
    (site = 0 → exec (.setSite .se site) s = .next (s.withAnswer .setSite .se .badValue []))
    ∧ (site ≠ 0 → s.table.cards ≠ [] → exec (.setSite .se site) s = .next (s.withAnswer .setSite .se .wrongState []))
    ∧ (site ≠ 0 → s.table.cards = [] →
      exec (.setSite .se site) s = .next (({ s with table := { s.table with site := site.toNat } }).withAnswer .setSite .se .ok
        (be 2 site.toNat)))

/-! ## Units and buses (chapter 4) -/

/-- R72 and R73: an accepted CONFIGURE UNIT stores kind, entrance class and binding, resets the link and entrance fields, stops the
ajar timer, keeps quarantine and relock, and makes privacy UNKNOWN on the room a room lock leaves and on the one it joins. Its
refusals, in order. -/
def Obligations.ConfigureUnitStoresTheRecord : Prop :=
  ∀ s : State, s.Ready .configureUnit .se →
    (∀ bus address kind cls slot gate : Byte,
      (bus ≠ 1 ∧ bus ≠ 2) ∨ address.toNat = 0 ∨ 120 < address.toNat ∨ kind.toNat = 0 ∨ 4 < kind.toNat ∨ 7 < cls.toNat
        ∨ ((kind = 1 ∨ kind = 3) ∧ 127 < slot.toNat) ∨ (kind = 4 ∧ 5 < gate.toNat) →
      exec (.configureUnit .se bus address kind cls slot gate) s = .next (s.withAnswer .configureUnit .se .badValue []))
    ∧ ∀ (u : UnitId) (kind : UnitKind) (ec : Fin 8) (slot gate : Byte), kind ≠ .absent →
      (∀ i ∈ kind.slot?, slot = slotByte i) → (∀ g ∈ kind.gate?, gate = BitVec.ofNat 8 g.val) →
      let request := exec (.configureUnit .se (BitVec.ofNat 8 (busCode (busOf u))) (BitVec.ofNat 8 (addressOf u))
        (BitVec.ofNat 8 kind.code) (BitVec.ofNat 8 ec.val) slot gate) s
      (s.grants[u].isSome = true ∨ s.sessions[u].isSome = true →
        request = .next (s.withAnswer .configureUnit .se .wrongState []))
      ∧ (s.grants[u] = none → s.sessions[u] = none →
        ((∃ i ∈ kind.slot?, s.rooms[i].occupancy = .unused) →
          request = .next (s.withAnswer .configureUnit .se .wrongState []))
        ∧ ((∀ i ∈ kind.slot?, s.rooms[i].occupancy ≠ .unused) →
          (kind.slot?.isSome = true → (∃ v : UnitId, v ≠ u ∧ s.units[v].kind = kind) →
            request = .next (s.withAnswer .configureUnit .se .inUse []))
          ∧ (kind.slot? = none ∨ (∀ v : UnitId, v ≠ u → s.units[v].kind ≠ kind) →
            let r : UnitRec := { kind := kind, entranceClass := ec, quarantined := s.units[u].quarantined, link := .unknown,
                                 misses := 0, expected := none, lastStatus := none, misreads := 0, entrance := .unknown,
                                 relock := s.units[u].relock }
            let rooms := Vector.ofFn fun i : Slot => if s.units[u].kind = .roomLock i ∨ kind = .roomLock i
              then { s.rooms[i] with privacy := .unknown } else s.rooms[i]
            request = .next (({ s with units := s.units.set u r, ajar := s.ajar.set u none, rooms := rooms }).withAnswer
              .configureUnit .se .ok r.bytes))))

/-- R74, R90 and R94: REMOVE UNIT returns a record to its cold-start values, READMIT UNIT clears a quarantine with its record, and
CLEAR BUS COUNTERS answers the four counts and sets them to 0; their refusals, in order. -/
def Obligations.UnitsAreRemovedAndReadmitted : Prop :=
  ∀ s : State,
    (s.Ready .removeUnit .se →
      (∀ bus address : Byte, (bus ≠ 1 ∧ bus ≠ 2) ∨ address.toNat = 0 ∨ 120 < address.toNat →
        exec (.removeUnit .se bus address) s = .next (s.withAnswer .removeUnit .se .badValue [])
        ∧ exec (.readmitUnit .se bus address) s = .next (s.withAnswer .readmitUnit .se .badValue []))
      ∧ ∀ u : UnitId,
        let remove := exec (.removeUnit .se (BitVec.ofNat 8 (busCode (busOf u))) (BitVec.ofNat 8 (addressOf u))) s
        let readmit := exec (.readmitUnit .se (BitVec.ofNat 8 (busCode (busOf u))) (BitVec.ofNat 8 (addressOf u))) s
        (s.units[u].kind = .absent →
          remove = .next (s.withAnswer .removeUnit .se .notFound [])
          ∧ readmit = .next (s.withAnswer .readmitUnit .se .notFound []))
        ∧ (s.units[u].kind ≠ .absent →
          (s.grants[u].isSome = true ∨ s.sessions[u].isSome = true →
            remove = .next (s.withAnswer .removeUnit .se .wrongState []))
          ∧ (s.grants[u] = none → s.sessions[u] = none →
            let rooms := Vector.ofFn fun i : Slot => if s.units[u].kind = .roomLock i
              then { s.rooms[i] with privacy := .unknown } else s.rooms[i]
            remove = .next (({ s with units := s.units.set u UnitRec.cold, ajar := s.ajar.set u none, rooms := rooms }).withAnswer
              .removeUnit .se .ok []))
          ∧ (s.units[u].quarantined = true →
            readmit = .next (((s.setUnit u { s.units[u] with quarantined := false }).append (.port .se) none none
              (.readmit u)).withAnswer .readmitUnit .se .ok []))
          ∧ (s.units[u].quarantined = false → readmit = .next (s.withAnswer .readmitUnit .se .ok []))))
    ∧ (s.Ready .clearBusCounters .se →
      (∀ bus : Byte, bus ≠ 1 → bus ≠ 2 →
        exec (.clearBusCounters .se bus) s = .next (s.withAnswer .clearBusCounters .se .badValue []))
      ∧ ∀ line : Bus, exec (.clearBusCounters .se (BitVec.ofNat 8 (busCode line))) s
        = .next ((s.setBus line { s.bus line with crcErrors := 0, strays := 0, timeouts := 0, malformed := 0 }).withAnswer
          .clearBusCounters .se .ok (be 2 (s.bus line).crcErrors ++ be 2 (s.bus line).strays ++ be 2 (s.bus line).timeouts
            ++ be 2 (s.bus line).malformed)))

/-- What a controller sends between transactions, byte by byte, and in which order: a verdict that waits, then a MODE broadcast, then
a POLL to the unit due next, a SILENT unit only in a round with counter 0 (R68, R69, R76, R78, R80, R86). With no unit left to visit
the round ends; on a bus whose units are all SILENT the empty rounds end at once; and a bus with no unit sends MODE broadcasts alone
(R77). With a transaction in flight, and while the part does not run, nothing is sent (R67, R199). A bus step whose premise fails
changes nothing (log entry 10), a round ends as soon as no unit is left to visit (log entry 16), and a verdict is sent to its unit
though that was removed meanwhile (log entry 30). -/
def Obligations.ControllersSendInOrder : Prop :=
  ∀ (s : State) (line : Bus),
    let framed (address kind : Nat) (payload : List Byte) : List Byte :=
      let body := byte address ++ byte kind ++ byte payload.length ++ payload
      body ++ be 2 (crc16 body).toNat
    let modeSent : State := s.setBus line { s.bus line with
      broadcast := false, sent := framed 0 0x12 (byte s.wing.mode.code) }
    let configured : Prop := ∃ u : UnitId, busOf u = line ∧ s.units[u].kind ≠ .absent
    (s.running = false ∨ (s.bus line).flight ≠ .none →
      exec (.verdict line) s = .next s ∧ exec (.mode line) s = .next s ∧ exec (.poll line) s = .next s)
    ∧ (s.running = true → (s.bus line).flight = .none →
      (∀ d, (s.bus line).due = some d → configured →
        exec (.verdict line) s = .next (s.setBus line { s.bus line with
          due := none
          flight := .verdict d.unit (match d.verdict with | .grant _ => true | .deny _ => false | .reread => false)
          sent := framed (addressOf d.unit) 0x11 (match d.verdict with
            | .grant unlock => byte 1 ++ byte unlock ++ byte 0
            | .deny reason => byte 2 ++ byte 0 ++ byte reason.code
            | .reread => [3, 0, 0]) })
        ∧ exec (.mode line) s = .next s ∧ exec (.poll line) s = .next s)
      ∧ (¬configured → exec (.verdict line) s = .next s ∧ exec (.poll line) s = .next s)
      ∧ ((s.bus line).due = none → exec (.verdict line) s = .next s)
      ∧ ((s.bus line).broadcast = false → exec (.mode line) s = .next s)
      ∧ ((s.bus line).due = none ∨ ¬configured → (s.bus line).broadcast = true →
        exec (.mode line) s = .next modeSent ∧ exec (.poll line) s = .next s)
      ∧ ((s.bus line).due = none → (s.bus line).broadcast = false →
        let left (round above : Nat) (u : UnitId) : Prop := busOf u = line ∧ s.units[u].kind ≠ .absent
          ∧ (s.units[u].link = .silent → round = 0) ∧ above < addressOf u
        let round := (s.bus line).round
        let next := (round + 1) % 16
        let polled (u : UnitId) (round : Nat) : State := s.setBus line { s.bus line with
          round := round, position := addressOf u, flight := .poll u s.units[u].relock
          sent := framed (addressOf u) 0x10 (byte s.wing.mode.code ++ flag s.units[u].relock
            ++ byte (match s.units[u].expected with | none => 0xFF | some false => 0 | some true => 1)) }
        (∀ u, left round (s.bus line).position u → (∀ v, left round (s.bus line).position v → addressOf u ≤ addressOf v) →
          exec (.poll line) s = .next (polled u round))
        ∧ ((∀ v, ¬left round (s.bus line).position v) → ∀ u, left next 0 u → (∀ v, left next 0 v → addressOf u ≤ addressOf v) →
          exec (.poll line) s = .next (polled u next))
        ∧ ((∀ v, ¬left round (s.bus line).position v) →
          (∀ v : UnitId, busOf v = line → s.units[v].kind ≠ .absent → s.units[v].link = .silent) →
          ∀ u, left 0 0 u → (∀ v, left 0 0 v → addressOf u ≤ addressOf v) → exec (.poll line) s = .next (polled u 0))))

/-- R87, R88 and the timeouts of R80 and R86: the third miss in a row makes a unit SILENT with its record and event, an answer sets
the miss count to 0 and brings a SILENT unit back, and a timeout raises the timeout count by one, saturating, and is a miss. After
a transaction the round ends where no unit is left to visit, and on a bus whose units are all SILENT the empty rounds that follow end
at once (R76, R77). A bus step whose premise fails changes nothing (log entry 10), the moment a round ends is log entry 16,
and that a bus left with no unit keeps its rota position is log entry 31. -/
def Obligations.MissesAnswersAndTimeouts : Prop :=
  (∀ (s : State) (u : UnitId),
    let r := s.units[u]
    (r.kind = .absent → s.miss u = s)
    ∧ (r.kind ≠ .absent → r.link ≠ .silent → 2 ≤ r.misses →
      s.miss u = ((s.setUnit u { r with misses := 3, link := .silent, expected := none }).append (.unit u) none r.kind.slot?
        (.unitSilent r.link r.kind.gate?)).raise .se (.unitSilent u))
    ∧ (r.kind ≠ .absent → r.link = .silent ∨ r.misses < 2 → s.miss u = s.setUnit u { r with misses := min 3 (r.misses + 1) })
    ∧ (r.link ≠ .silent → s.answered u = s.setUnit u { r with misses := 0, link := .online })
    ∧ (r.link = .silent →
      s.answered u = ((s.setUnit u { r with misses := 0, link := .online }).append (.unit u) none r.kind.slot?
        (.unitBack r.kind.gate?)).raise .se (.unitBack u)))
  ∧ (∀ (s : State) (line : Bus), s.running = true →
    let ended := s.setBus line { s.bus line with flight := .none, timeouts := min 65535 ((s.bus line).timeouts + 1) }
    (∀ u relock, (s.bus line).flight = .poll u relock → exec (.pollTimeout line) s = .next ((ended.miss u).settleRota line))
    ∧ (∀ u granted, (s.bus line).flight = .verdict u granted →
      exec (.verdictTimeout line) s = .next ((ended.miss u).settleRota line))
    ∧ ((∀ u relock, (s.bus line).flight ≠ .poll u relock) → exec (.pollTimeout line) s = .next s)
    ∧ ((∀ u granted, (s.bus line).flight ≠ .verdict u granted) → exec (.verdictTimeout line) s = .next s))
  ∧ ∀ (s : State) (line : Bus),
    let left (round above : Nat) (u : UnitId) : Prop := busOf u = line ∧ s.units[u].kind ≠ .absent
      ∧ (s.units[u].link = .silent → round = 0) ∧ above < addressOf u
    ((∃ u, left (s.bus line).round (s.bus line).position u) → s.settleRota line = s)
    ∧ ((∀ u : UnitId, busOf u = line → s.units[u].kind = .absent) → s.settleRota line = s)
    ∧ ((∀ u, ¬left (s.bus line).round (s.bus line).position u) → (∃ u, left (((s.bus line).round + 1) % 16) 0 u) →
      s.settleRota line = s.setBus line { s.bus line with round := ((s.bus line).round + 1) % 16, position := 0 })
    ∧ ((∀ u, ¬left (s.bus line).round (s.bus line).position u) → (∃ u : UnitId, busOf u = line ∧ s.units[u].kind ≠ .absent) →
      (∀ u : UnitId, busOf u = line → s.units[u].kind ≠ .absent → s.units[u].link = .silent) →
      s.settleRota line = s.setBus line { s.bus line with round := 0, position := 0 })

/-- R68, R70 and R203: the CRC-16, and what the checks find of a frame. A short frame or a wrong CRC is a CRC error, another address a
stray, and another kind or payload length malformed; a frame formed by R68 from the unit waited for passes them. An ANSWER's
payload formed by Table 11-1 is read back, and one with a wrong length, answer bit, report count, report kind, item slot or reader
side is malformed. -/
def Obligations.FramesAreChecked : Prop :=
  (crc16 [] = 0xFFFF ∧ ∀ (bytes : List Byte) (b : Byte),
    let shift (x : BitVec 16) : BitVec 16 := if x.msb then (x <<< 1) ^^^ 0x1021 else x <<< 1
    crc16 (bytes ++ [b]) = Nat.repeat shift 8 (crc16 bytes ^^^ (b.setWidth 16 <<< 8)))
  ∧ (∀ (frame : List Byte) (address kind : Nat), frame.length < 5 → checkFrame frame address kind = .crcError)
  ∧ (∀ (body : List Byte) (c d : Byte) (address kind : Nat), 3 ≤ body.length → body.length ≤ 51 →
    (crc16 body).toNat ≠ c.toNat * 256 + d.toNat → checkFrame (body ++ [c, d]) address kind = .crcError)
  ∧ (∀ (a k n : Byte) (payload : List Byte) (address kind : Nat), payload.length ≤ 48 →
    let body := a :: k :: n :: payload
    let frame := body ++ be 2 (crc16 body).toNat
    (a.toNat ≠ address → checkFrame frame address kind = .stray)
    ∧ (a.toNat = address → k.toNat ≠ kind ∨ n.toNat ≠ payload.length → checkFrame frame address kind = .malformed)
    ∧ (a.toNat = address → k.toNat = kind → n.toNat = payload.length → checkFrame frame address kind = .wellFormed payload))
  ∧ (∀ (bit status : Byte) (rest : List Byte),
    1 < bit.toNat ∨ 4 < status.toNat / 16 % 8
      ∨ rest.length ≠ 4 * (status.toNat / 16 % 8) + (if status.msb then 21 else 0) →
    answerOf? (bit :: status :: rest) = none)
  ∧ (∀ (bit status : Byte) (before after : List Byte) (k : Nat) (kind x y z : Byte), before.length = 4 * k →
    k < status.toNat / 16 % 8 → kind.toNat = 0 ∨ 6 < kind.toNat ∨ (kind.toNat = 6 ∧ 11 < x.toNat) →
    answerOf? (bit :: status :: (before ++ kind :: x :: y :: z :: after)) = none)
  ∧ (∀ (bit status side : Byte) (reports image : List Byte), status.msb = true →
    reports.length = 4 * (status.toNat / 16 % 8) → side ≠ 1 → side ≠ 2 →
    answerOf? (bit :: status :: (reports ++ side :: image)) = none)
  ∧ ∀ a : AnswerContent, a.reports.length ≤ 4 →
    (∀ r ∈ a.reports, ∀ (item : Fin 12) (n m : Nat), r = .items item n m → n ≤ 255 ∧ m ≤ 255) →
    (∀ x ∈ a.card, ∀ k : Fin 10, x.2[k] ≤ 65535) → answerOf? a.payload = some a

/-- R70, R81 to R86 and R114: the reply frame that ends a transaction. A frame that fails a check raises its one count and is a
miss; an answer resets the misses and clears a relock its POLL carried; a repeat is discarded whole; a new answer's status, reports
and presentation are taken in that order; an ACK marks the grant its VERDICT carried. The reply of a unit made ABSENT meanwhile is
discarded. A frame closed in the other kind of transaction is judged by the transaction that waits, and one closed outside a
transaction, or while the part does not run, is not taken (R67, R199). The order in which a reply's parts take effect is the model's
reading (log entry 17), and so is what becomes of the answer of a unit removed and configured again meanwhile (log entry 29). -/
def Obligations.ReplyFramesEndTransactions : Prop :=
  (∀ (s : State) (line : Bus) (frame : List Byte),
    exec (.ack line frame) s = exec (.answer line frame) s
    ∧ (s.running = false ∨ (s.bus line).flight = .none →
      exec (.answer line frame) s = .next s ∧ exec (.ack line frame) s = .next s))
  ∧ ∀ (s : State) (line : Bus) (frame : List Byte), s.running = true →
    let c := s.bus line
    let ended := s.setBus line { c with flight := .none }
    let failed (u : UnitId) (c : BusState) : State := ((s.setBus line { c with flight := .none }).miss u).settleRota line
    (∀ u relock, c.flight = .poll u relock →
      (checkFrame frame (addressOf u) 0x20 = .crcError →
        exec (.answer line frame) s = .next (failed u { c with crcErrors := min 65535 (c.crcErrors + 1) }))
      ∧ (checkFrame frame (addressOf u) 0x20 = .stray →
        exec (.answer line frame) s = .next (failed u { c with strays := min 65535 (c.strays + 1) }))
      ∧ (checkFrame frame (addressOf u) 0x20 = .malformed →
        exec (.answer line frame) s = .next (failed u { c with malformed := min 65535 (c.malformed + 1) }))
      ∧ ∀ payload, checkFrame frame (addressOf u) 0x20 = .wellFormed payload →
        (answerOf? payload = none →
          exec (.answer line frame) s = .next (failed u { c with malformed := min 65535 (c.malformed + 1) }))
        ∧ ∀ a, answerOf? payload = some a →
          (s.units[u].kind = .absent → exec (.answer line frame) s = .next (ended.settleRota line))
          ∧ (s.units[u].kind ≠ .absent →
            let heard := ended.answered u
            let cleared := if relock then heard.setUnit u { heard.units[u] with relock := false } else heard
            let taken := cleared.setUnit u { cleared.units[u] with expected := some a.bit, lastStatus := some a.status }
            let reported := a.reports.foldl (fun x r => x.report u r) taken
            (s.units[u].expected = some a.bit → exec (.answer line frame) s = .next (cleared.settleRota line))
            ∧ (s.units[u].expected ≠ some a.bit →
              (a.card = none → exec (.answer line frame) s = .next (reported.settleRota line))
              ∧ ∀ side image, a.card = some (side, image) →
                let r := reported.present u side image
                exec (.answer line frame) s
                  = .next (r.1.setBus line { r.1.bus line with due := some { unit := u, verdict := r.2 } }))))
    ∧ ∀ u granted, c.flight = .verdict u granted →
      (checkFrame frame (addressOf u) 0x21 = .crcError →
        exec (.ack line frame) s = .next (failed u { c with crcErrors := min 65535 (c.crcErrors + 1) }))
      ∧ (checkFrame frame (addressOf u) 0x21 = .stray →
        exec (.ack line frame) s = .next (failed u { c with strays := min 65535 (c.strays + 1) }))
      ∧ (checkFrame frame (addressOf u) 0x21 = .malformed →
        exec (.ack line frame) s = .next (failed u { c with malformed := min 65535 (c.malformed + 1) }))
      ∧ ∀ payload, checkFrame frame (addressOf u) 0x21 = .wellFormed payload →
        (payload ≠ [] → exec (.ack line frame) s = .next (failed u { c with malformed := min 65535 (c.malformed + 1) }))
        ∧ (payload = [] → s.units[u].kind = .absent → exec (.ack line frame) s = .next (ended.settleRota line))
        ∧ (payload = [] → s.units[u].kind ≠ .absent →
          let heard := ended.answered u
          (granted = false → exec (.ack line frame) s = .next (heard.settleRota line))
          ∧ (granted = true → s.grants[u] = none → exec (.ack line frame) s = .next (heard.settleRota line))
          ∧ (granted = true → ∀ g, s.grants[u] = some g →
            exec (.ack line frame) s = .next ((heard.setGrant u (some { g with acknowledged := true })).settleRota line)))

/-! ## Decisions (chapter 5) -/

/-- R109: the codes of the sixteen conditions, and when each holds, at a unit with a room and at one with none. -/
def Obligations.ConditionsTestRoomModeAndShift : Prop :=
  ∀ (s : State) (u : UnitId) (k : Fin 8),
    let ec := s.units[u].entranceClass
    let holds := s.conditionHolds u k
    let notPrivate : Prop := ∀ i ∈ s.unitSlot u, s.rooms[i].privacy = .off
    let isLet : Prop := ∃ i ∈ s.unitSlot u, ∃ n st, s.rooms[i].occupancy = .letTo n st
    let isVacant : Prop := ∃ i ∈ s.unitSlot u, ∃ n, s.rooms[i].occupancy = .vacant n
    let isHeld : Prop := ∃ i ∈ s.unitSlot u, ∃ n, s.rooms[i].occupancy = .held n
    let onShift : Prop := s.decision.shifts[k].covers s.clock.minute = true
    let open_ : Prop := s.wing.mode = .normal ∨ s.wing.mode = .storm
    let cell (c : Condition) : Prop := s.decision.conditions[k][ec] = c
    [Condition.always, .never, .notPrivate, .roomLet, .roomVacant, .roomNotHeld, .onShift, .onShiftNotPrivate, .modeNormal,
      .notLockdown, .letNotPrivate, .vacantOrHeld, .onShiftNotLockdown, .notExposedClosed, .notPrivateNotLockdown,
      .onShiftVacantOrHeld].map Condition.code = List.range 16
    ∧ (cell .always → holds = true) ∧ (cell .never → holds = false)
    ∧ (cell .notPrivate → (holds = true ↔ notPrivate)) ∧ (cell .roomLet → (holds = true ↔ isLet))
    ∧ (cell .roomVacant → (holds = true ↔ isVacant)) ∧ (cell .roomNotHeld → (holds = true ↔ ¬isHeld))
    ∧ (cell .onShift → (holds = true ↔ onShift)) ∧ (cell .onShiftNotPrivate → (holds = true ↔ onShift ∧ notPrivate))
    ∧ (cell .modeNormal → (holds = true ↔ s.wing.mode = .normal)) ∧ (cell .notLockdown → (holds = true ↔ open_))
    ∧ (cell .letNotPrivate → (holds = true ↔ isLet ∧ notPrivate))
    ∧ (cell .vacantOrHeld → (holds = true ↔ isVacant ∨ isHeld))
    ∧ (cell .onShiftNotLockdown → (holds = true ↔ onShift ∧ open_))
    ∧ (cell .notExposedClosed → (holds = true ↔ s.wing.mode ≠ .lockdown
        ∧ ¬(s.wing.mode = .storm ∧ s.decision.entrances[ec].exposed = true)))
    ∧ (cell .notPrivateNotLockdown → (holds = true ↔ notPrivate ∧ open_))
    ∧ (cell .onShiftVacantOrHeld → (holds = true ↔ onShift ∧ (isVacant ∨ isHeld)))

/-- R96 to R106: a presentation is decided by the first of the twelve steps that applies, with that verdict's effects: the misread
streak, the pending grant, the record, and the event. That a decoded card number of 0 is no card number in every record is the
model's reading (log entry 18). -/
def Obligations.VerdictFollowsTheTwelveSteps : Prop :=
  ∀ (s : State) (u : UnitId) (side : Side) (image : CardImage),
    let steady := s.setUnit u { s.units[u] with misreads := 0 }
    let number := if image.cardNumber = 0 then none else some image.cardNumber
    let unlock := s.decision.entrances[s.units[u].entranceClass].unlock
    let record (t : State) (card : Option Nat) (d : Detail) : State := t.append (.unit u) card s.units[u].kind.slot? d
    let decided (r : State × Verdict) : Prop := s.present u side image = r
    let denied (reason : Reason) (card : Option Nat) (room : Option Slot) : Prop :=
      decided (record steady card (.denial reason side room), .deny reason)
    let agrees (c : Credential) : Prop := image.cls = c.cls.val ∧ image.slot = (c.slot?.map Fin.val).getD 255
      ∧ image.generation = (c.binding.map RoomBinding.generation).getD 0 ∧ image.issueNumber = c.issueNumber
    (s.units[u].quarantined = true → denied .quarantine none none)
    ∧ (s.units[u].quarantined = false →
      (endAround image.toList ≠ 65535 →
        (s.units[u].misreads < 2 → decided (s.setUnit u { s.units[u] with misreads := s.units[u].misreads + 1 }, .reread))
        ∧ (2 ≤ s.units[u].misreads → decided ((record steady none (.cardFault side)).raise .se (.cardFault u), .reread)))
      ∧ (endAround image.toList = 65535 →
        (s.wing.mode = .evacuation →
          ((∃ i, s.units[u].kind = .minibarLock i) → denied .evacuation number none)
          ∧ ((∀ i, s.units[u].kind ≠ .minibarLock i) →
            decided (record (steady.createGrant u number false unlock true) number (.evacPass side unlock), .grant unlock)))
        ∧ (s.wing.mode ≠ .evacuation →
          (s.clock.clockSet = false → denied .noClock number none)
          ∧ (s.clock.clockSet = true → s.table.site = 0 ∨ image.site ≠ s.table.site → denied .foreign number none)
          ∧ (s.clock.clockSet = true → s.table.site ≠ 0 → image.site = s.table.site →
            (s.table.find image.cardNumber = none → denied .unknown number none)
            ∧ ∀ c ∈ s.table.find image.cardNumber,
              (∀ why, c.state = .revoked why → why ≠ .lost → denied .revoked number none)
              ∧ (c.state = .revoked .lost → decided
                ((record steady number (.denial .revoked side none)).raise .se (.revokedCardSeen u), .deny .revoked))
              ∧ (c.state = .suspended → denied .suspended number none)
              ∧ (c.state = .active → ¬agrees c → denied .stale number none)
              ∧ (c.state = .active → agrees c →
                (s.nowIndex < c.window.start.index → denied .early number none)
                ∧ (c.window.start.index ≤ s.nowIndex → c.window.stop.index ≤ s.nowIndex → denied .expired number none)
                ∧ (c.window.start.index ≤ s.nowIndex → s.nowIndex < c.window.stop.index →
                  (∀ i ∈ s.units[u].kind.slot?, ∀ j ∈ c.slot?, i ≠ j → denied .wrongRoom number (some j))
                  ∧ ((∀ i ∈ s.units[u].kind.slot?, ∀ j ∈ c.slot?, i = j) →
                    (∀ i, s.units[u].kind = .minibarLock i → c.slot?.isSome = true →
                      (s.accounts[i].blocked = true → denied .minibarClosed number none)
                      ∧ (s.accounts[i].blocked = false → s.accounts[i].remaining < s.reserve →
                        denied .allowance number none))
                    ∧ ((∀ i, s.units[u].kind = .minibarLock i → c.slot?.isSome = true →
                        s.accounts[i].blocked = false ∧ s.reserve ≤ s.accounts[i].remaining) →
                      (s.conditionHolds u c.cls = false → denied .condition number none)
                      ∧ (s.conditionHolds u c.cls = true →
                        decided (steady.createGrant u (some c.number) c.slot?.isSome unlock false, .grant unlock))))))))))

/-- R113, R120, R133 and R154: a grant first concludes the unit's earlier grant GRANT_REPLACED, then holds the new one with its
expiry at the unlock seconds plus 2, starts the pulse of a gate reader's enabled gate unless it is an evac pass, and begins or
keeps a minibar session. Each conclusion removes the grant, lowers the grant tally and appends its record. -/
def Obligations.GrantsAreHeldAndConcluded : Prop :=
  (∀ (s : State) (u : UnitId) (card : Option Nat) (guest : Bool) (unlock : Nat) (evac : Bool),
    let before := s.concludeReplaced u
    let grant (pulsed : Bool) : Grant := { card := card, grantedAt := s.now, unlock := unlock, expiry := unlock + 2,
                                           acknowledged := false, evac := evac, pulsed := pulsed }
    let held (t : State) (pulsed : Bool) : State := { t with
      grants := t.grants.set u (some (grant pulsed))
      power := { t.power with grantTally := t.power.grantTally + 1 } }
    let r := s.createGrant u card guest unlock evac
    (s.units[u].kind = .passageLock ∨ (∃ i, s.units[u].kind = .roomLock i) → r = held before false)
    ∧ (∀ g, s.units[u].kind = .gateReader g →
      (hasGate s.gates.enabled g = true → evac = false →
        r = held ({ before with gates := { before.gates with
          pulses := before.gates.pulses.set g (some unlock) } }).setOutputs true)
      ∧ (hasGate s.gates.enabled g = false ∨ evac = true → r = held before false))
    ∧ (∀ i, s.units[u].kind = .minibarLock i →
      let h := held before false
      (s.sessions[u] = none →
        let session : Session := { kind := if guest then .guest else .restock, card := card.getD 0, slot := i,
                                   removed := .replicate 12 0, phase := .awaitingOpen (unlock + 2) }
        r = { h with sessions := h.sessions.set u (some session)
                     power := { h.power with sessionTally := h.power.sessionTally + 1 } })
      ∧ (∀ x n, s.sessions[u] = some x → x.phase = .awaitingOpen n →
        r = { h with sessions := h.sessions.set u (some { x with phase := .awaitingOpen (unlock + 2) }) })
      ∧ (∀ x, s.sessions[u] = some x → x.phase = .inUse → r = h)))
  ∧ ∀ (s : State) (u : UnitId),
    let concluded (g : Grant) (d : Detail) : State :=
      ({ s with grants := s.grants.set u none, power := { s.power with grantTally := s.power.grantTally - 1 } }).append
        (.unit u) g.card s.units[u].kind.slot? d
    (s.grants[u] = none → s.concludeReplaced u = s ∧ s.concludeEntry u = s ∧ s.concludeUnused u = s
      ∧ ∀ cause, s.concludeCut u cause = s)
    ∧ ∀ g, s.grants[u] = some g →
      let items : GrantItems := { grantedAt := g.grantedAt, unlock := g.unlock, acknowledged := g.acknowledged, evac := g.evac }
      let since : Prop := g.evac = false ∧ ∀ n ∈ g.card, ∀ c ∈ s.table.find n, c.isRevoked = true
      s.concludeReplaced u = concluded g (.grantReplaced items)
      ∧ s.concludeUnused u = concluded g (.grantUnused items g.pulsed)
      ∧ (∀ cause, s.concludeCut u cause = concluded g (.grantCut items cause))
      ∧ (since → s.concludeEntry u = concluded g (.entry items true))
      ∧ (¬since → s.concludeEntry u = concluded g (.entry items false))

/-- R38, R84, R89, R122 to R126 and R135: what each report of an answer does at a unit of each kind, and that a report not taken
from the unit's kind does nothing. -/
def Obligations.ReportsActOnTheirOwners : Prop :=
  ∀ (s : State) (u : UnitId),
    let kind := s.units[u].kind
    let limit := s.decision.entrances[s.units[u].entranceClass].ajarLimit
    let swung (t : State) : State := { t with
      units := t.units.set u { t.units[u] with entrance := .opened }
      ajar := t.ajar.set u (some { remaining := limit, limit := limit }) }
    let entered := if s.grants[u].isSome then s.concludeEntry u else s.append (.unit u) none kind.slot? .entryUnattributed
    let forced := (s.append (.unit u) none kind.slot? .forced).raise .se (.forced u)
    let shut : State := { s with units := s.units.set u { s.units[u] with entrance := .closed }, ajar := s.ajar.set u none }
    let opening (t : State) : State := match s.sessions[u] with
      | some x => { t with sessions := t.sessions.set u (some { x with phase := .inUse }) }
      | none => t
    let marked := s.setUnit u { s.units[u] with quarantined := true }
    let cut := (marked.concludeCut u .quarantine).endSession u .quarantine
    let relocked := cut.setUnit u { cut.units[u] with relock := true }
    (kind = .passageLock ∨ (∃ i, kind = .roomLock i) →
      s.report u (.opened true) = swung entered ∧ s.report u (.opened false) = swung forced ∧ s.report u .closed = shut)
    ∧ (∀ i, kind = .minibarLock i →
      s.report u (.opened true) = opening (swung entered) ∧ s.report u (.opened false) = opening (swung forced)
      ∧ (∀ x, s.sessions[u] = some x → x.phase = .inUse → s.report u .closed = shut.endSession u .closed)
      ∧ ((∀ x ∈ s.sessions[u], x.phase ≠ .inUse) → s.report u .closed = shut))
    ∧ (∀ i, kind = .roomLock i →
      s.report u .deadboltOn = s.setRoom i { s.rooms[i] with privacy := .on }
      ∧ s.report u .deadboltOff = s.setRoom i { s.rooms[i] with privacy := .off })
    ∧ (kind ≠ .absent → s.report u .tamper
      = (relocked.append (.unit u) none kind.slot? (.unitTamper kind.gate?)).raise .se (.unitTamper u))
    ∧ ((∀ i, kind ≠ .roomLock i) → s.report u .deadboltOn = s ∧ s.report u .deadboltOff = s)
    ∧ ((∀ i, kind ≠ .minibarLock i) → ∀ item n m, s.report u (.items item n m) = s)
    ∧ (kind = .absent ∨ (∃ g, kind = .gateReader g) → ∀ r, s.report u (.opened r) = s ∧ s.report u .closed = s)

/-! ## Minibar accounts (chapter 6) -/

/-- R139 and R140: what a charge and a credit do to an account, and that both keep it balanced by R128. -/
def Obligations.ChargesAndCreditsKeepTheBalance : Prop :=
  ∀ (a : Account) (x : Nat),
    let c := a.applyCharge x
    let y := min x a.charge
    let d := a.applyCredit x
    (x = 0 → c = a)
    ∧ (0 < x → c.charge = min 16777215 (a.charge + x)
      ∧ (c.ceilingMet = true ↔ a.ceilingMet = true ∨ 16777215 < a.charge + x)
      ∧ (x ≤ a.remaining → c.remaining = a.remaining - x ∧ c.overdraft = a.overdraft)
      ∧ (a.remaining < x → c.remaining = 0 ∧ c.overdraft = min 16777215 (a.overdraft + (x - a.remaining)))
      ∧ c.granted = a.granted ∧ c.tally = a.tally ∧ c.blocked = a.blocked)
    ∧ d.charge = a.charge - y
    ∧ (y ≤ a.overdraft → d.overdraft = a.overdraft - y ∧ d.remaining = a.remaining)
    ∧ (a.overdraft < y → d.overdraft = 0 ∧ d.remaining = min a.granted (a.remaining + (y - a.overdraft)))
    ∧ d.granted = a.granted ∧ d.tally = a.tally ∧ d.blocked = a.blocked ∧ d.ceilingMet = a.ceilingMet
    ∧ (a.Balanced → c.Balanced ∧ d.Balanced)

/-- R141 to R144: an ITEMS report at a minibar lock, within a GUEST session, within a RESTOCK session and with no session: the
account and the session's counts, the records in order, and the events. -/
def Obligations.ItemReportsChargeTheRoom : Prop :=
  ∀ (s : State) (u : UnitId) (i : Slot) (item : Fin 12) (removed returned : Nat), s.units[u].kind = .minibarLock i →
    let report := s.report u (.items item removed returned)
    let charge := s.prices[item] * removed
    let charged (a : Account) : Account := { a.applyCharge charge with
      tally := a.tally.set item (if removed = 0 then a.tally[item] else min 255 (a.tally[item] + removed)) }
    let noticed (t : State) (j : Slot) : State :=
      if s.accounts[j].overdraft = 0 ∧ 0 < (s.accounts[j].applyCharge charge).overdraft then t.raise .fo (.minibarOverdraft j)
      else t
    (removed = 0 → returned = 0 → report = s)
    ∧ (0 < removed ∨ 0 < returned →
      (s.sessions[u] = none →
        let a := s.setAccount i (charged s.accounts[i])
        let b := a.append (.unit u) none (some i) (.minibarItem item removed returned 0 charge 0 false)
        let c := if 0 < returned then b.append (.unit u) none (some i) (.returnUncredited item returned) else b
        report = noticed (c.raise .se (.minibarTamper u)) i)
      ∧ ∀ x, s.sessions[u] = some x →
        (x.kind = .restock →
          report = s.append (.unit u) (some x.card) (some x.slot) (.restock item removed returned))
        ∧ (x.kind = .guest →
          let seen := if removed = 0 then x.removed[item] else min 255 (x.removed[item] + removed)
          let credited := min returned seen
          let a := charged s.accounts[x.slot]
          let b := a.applyCredit (s.prices[item] * credited)
          let settled := { b with tally := b.tally.set item (b.tally[item] - credited) }
          let t := (s.setAccount x.slot settled).setSession u (some { x with removed := x.removed.set item (seen - credited) })
          let t := t.append (.unit u) (some x.card) (some x.slot)
            (.minibarItem item removed returned credited charge (min (s.prices[item] * credited) a.charge) true)
          let t := if credited < returned then
              t.append (.unit u) (some x.card) (some x.slot) (.returnUncredited item (returned - credited))
            else t
          report = noticed t x.slot))

/-- R145: SETTLE, with the claim held and no session open, reports the account, clears it, restores a LET room's remaining
allowance or ends another's allowance, logs it and restarts the lease; its refusals. That it answers the twelve tally counts without
a count byte is the model's reading of R204 (log entry 19). -/
def Obligations.SettleClearsTheAccount : Prop :=
  ∀ (s : State) (i : Slot), s.Ready .settle .fo → s.holder i = some .fo →
    let a := s.accounts[i]
    let isLet := s.rooms[i].occupancy.stay?.isSome
    let openSession : Prop := ∃ u ∈ s.minibarLockOf i, s.sessions[u].isSome = true
    (s.rooms[i].occupancy = .unused →
      exec (.settle .fo (slotByte i)) s = .next (s.withAnswer .settle .fo .wrongState []))
    ∧ (s.rooms[i].occupancy ≠ .unused → openSession →
      exec (.settle .fo (slotByte i)) s = .next (s.withAnswer .settle .fo .sessionOpen []))
    ∧ (s.rooms[i].occupancy ≠ .unused → ¬openSession →
      let cleared : Account := { granted := if isLet then a.granted else 0, remaining := if isLet then a.granted else 0,
                                 charge := 0, overdraft := 0, tally := .replicate 12 0, ceilingMet := false,
                                 blocked := a.blocked }
      exec (.settle .fo (slotByte i)) s
        = .next ((((s.setAccount i cleared).append (.port .fo) none (some i)
            (.settle a.charge a.overdraft a.remaining a.ceilingMet isLet)).setClaim i
              (some { holder := .fo, lease := 120 })).withAnswer .settle .fo .ok
          (a.tally.toList.flatMap byte ++ be 3 a.charge ++ be 3 a.overdraft ++ be 3 a.remaining ++ be 3 a.granted
            ++ flag a.ceilingMet ++ byte (if isLet then 1 else 2))))

/-! ## Expiries -/

/-- R34, R115, R125, R134 and R155: the expiry of a lease, a pending grant, an ajar timer, a minibar session and a gate pulse,
where it is due, and that one that is not due, at a timer that runs on or at one that does not run, changes nothing. The tick that
brings a count to 0 takes its expiry so (`TicksAdvanceClockAndTimers`); that the expiry's own command takes it too, at a count of 0,
and else does nothing, is the model's choice (log entries 4 and 10). -/
def Obligations.ExpiriesActWhenDue : Prop :=
  (∀ s : State,
    (∀ i : Slot, s.running = false ∨ s.claims[i] = none → exec (.claimLeaseExpiry i) s = .next s)
    ∧ (∀ u : UnitId, s.running = false ∨ s.grants[u] = none → exec (.pendingGrantExpiry u) s = .next s)
    ∧ (∀ u : UnitId, s.running = false ∨ s.ajar[u] = none → exec (.ajarTimerExpiry u) s = .next s)
    ∧ (∀ u : UnitId, s.running = false ∨ s.sessions[u] = none → exec (.minibarSessionExpiry u) s = .next s)
    ∧ (∀ g : Gate, s.running = false ∨ s.gates.pulses[g] = none → exec (.gatePulseExpiry g) s = .next s)
    ∧ ∀ p : Port, s.running = false ∨ (s.port p).timer = none → exec (.supervisionTimerExpiry p) s = .next s)
  ∧ ∀ s : State, s.running = true →
    (∀ (i : Slot) (holder : Port), s.claims[i] = some { holder := holder, lease := 0 } →
      exec (.claimLeaseExpiry i) s = .next ((s.setClaim i none).raise holder (.claimLost i .expired)))
    ∧ (∀ i : Slot, s.leaseOf i ≠ 0 ∨ s.claims[i] = none → exec (.claimLeaseExpiry i) s = .next s)
    ∧ (∀ (u : UnitId) (g : Grant), s.grants[u] = some g →
      (g.expiry = 0 → (∀ i, s.units[u].kind ≠ .minibarLock i) →
        exec (.pendingGrantExpiry u) s = .next (s.concludeUnused u))
      ∧ (g.expiry = 0 → (∃ i, s.units[u].kind = .minibarLock i) →
        (∀ x n, s.sessions[u] = some x → x.phase = .awaitingOpen n →
          exec (.pendingGrantExpiry u) s = .next ((s.concludeUnused u).endSession u .unopened))
        ∧ ((∀ x ∈ s.sessions[u], x.phase = .inUse) → exec (.pendingGrantExpiry u) s = .next (s.concludeUnused u)))
      ∧ (g.expiry ≠ 0 → exec (.pendingGrantExpiry u) s = .next s))
    ∧ (∀ (u : UnitId) (t : AjarTimer), s.ajar[u] = some t →
      (t.remaining = 0 →
        exec (.ajarTimerExpiry u) s = .next (((({ s with
          units := s.units.set u { s.units[u] with entrance := .ajar }, ajar := s.ajar.set u none }).append (.unit u) none
            s.units[u].kind.slot? (.ajar t.limit)).raise .se (.ajar u))))
      ∧ (t.remaining ≠ 0 → exec (.ajarTimerExpiry u) s = .next s))
    ∧ (∀ (u : UnitId) (x : Session), s.sessions[u] = some x →
      (x.phase = .awaitingOpen 0 → exec (.minibarSessionExpiry u) s = .next (s.endSession u .unopened))
      ∧ (x.phase ≠ .awaitingOpen 0 → exec (.minibarSessionExpiry u) s = .next s))
    ∧ (∀ g : Gate,
      (s.gates.pulses[g] = some 0 → exec (.gatePulseExpiry g) s
        = .next ({ s with gates := { s.gates with pulses := s.gates.pulses.set g none } }).setOutputs)
      ∧ (s.gates.pulses[g] ≠ some 0 → exec (.gatePulseExpiry g) s = .next s))
    ∧ ∀ (u : UnitId) (x : Session) (reason : EndReason), s.sessions[u] = some x →
      s.endSession u reason = ({ s with
        sessions := s.sessions.set u none
        power := { s.power with sessionTally := s.power.sessionTally - 1 } }).append (.unit u) (some x.card) (some x.slot)
          (.minibarSession x.kind reason (decide (x.phase = SessionPhase.inUse)) x.removed.toList.sum)

/-! ## Gates and wing modes (chapter 7) -/

/-- R148, R150 and R151: SET GATE replaces both sets, stops the pulse of each gate now disabled and sets the outputs again; a
schedule entry joins after every entry whose minute is not greater, or leaves its position, with no output changed. Their
refusals, in order. That SET GATE answers the six outputs without a count byte is the model's reading of R204 (log entry 19). -/
def Obligations.GatesAndScheduleAreSet : Prop :=
  ∀ s : State, s.Ready .setGate .se →
    (∀ enabled exposed : Byte, 64 ≤ enabled.toNat ∨ 64 ≤ exposed.toNat →
      exec (.setGate .se enabled exposed) s = .next (s.withAnswer .setGate .se .badValue []))
    ∧ (∀ enabled exposed : GateSet,
      let gates : Gates := { s.gates with
        enabled := enabled, exposed := exposed
        pulses := Vector.ofFn fun g : Gate => if hasGate enabled g then s.gates.pulses[g] else none }
      let outputs : Vector GateLevel 6 := Vector.ofFn fun g => outputLevel gates s.wing.mode g
      exec (.setGate .se (enabled.setWidth 8) (exposed.setWidth 8)) s
        = .next (({ s with gates := { gates with outputs := outputs } }).withAnswer .setGate .se .ok
          (byte enabled.toNat ++ byte exposed.toNat ++ outputs.toList.flatMap fun l : GateLevel => byte l.code)))
    ∧ (∀ (minute : Half) (gates level : Byte),
      1439 < minute.toNat ∨ gates = 0 ∨ 64 ≤ gates.toNat ∨ (level ≠ 1 ∧ level ≠ 2) →
      exec (.addScheduleEntry .se minute gates level) s = .next (s.withAnswer .addScheduleEntry .se .badValue []))
    ∧ (∀ (minute : Half) (gates : GateSet) (level : GateLevel), minute.toNat ≤ 1439 → gates ≠ 0 →
      let request := exec (.addScheduleEntry .se minute (gates.setWidth 8) (BitVec.ofNat 8 level.code)) s
      (32 ≤ s.gates.schedule.length → request = .next (s.withAnswer .addScheduleEntry .se .tableFull []))
      ∧ (s.gates.schedule.length < 32 → s.gates.schedule.Pairwise (fun a b => a.minute ≤ b.minute) →
        let before := s.gates.schedule.filter fun e => decide (e.minute ≤ minute.toNat)
        let after := s.gates.schedule.filter fun e => decide (minute.toNat < e.minute)
        let entry : ScheduleEntry := { minute := minute.toNat, gates := gates, level := level }
        request = .next (({ s with gates := { s.gates with schedule := before ++ entry :: after } }).withAnswer
          .addScheduleEntry .se .ok (byte before.length ++ byte (s.gates.schedule.length + 1)))))
    ∧ (∀ position : Byte,
      (31 < position.toNat →
        exec (.removeScheduleEntry .se position) s = .next (s.withAnswer .removeScheduleEntry .se .badValue []))
      ∧ (position.toNat ≤ 31 → s.gates.schedule.length ≤ position.toNat →
        exec (.removeScheduleEntry .se position) s = .next (s.withAnswer .removeScheduleEntry .se .notFound []))
      ∧ (position.toNat ≤ 31 → ∀ before e after, s.gates.schedule = before ++ e :: after → before.length = position.toNat →
        exec (.removeScheduleEntry .se position) s
          = .next (({ s with gates := { s.gates with schedule := before ++ after } }).withAnswer .removeScheduleEntry .se .ok
            (be 2 e.minute ++ byte e.gates.toNat ++ byte e.level.code ++ byte (before.length + after.length)))))
    ∧ exec (.clearSchedule .se) s = .next (({ s with gates := { s.gates with schedule := [] } }).withAnswer .clearSchedule .se .ok
        (byte s.gates.schedule.length))

/-- R152 and R156: the scheduled level of a gate is the last entry's that names it at or before the minute, else the last one's in
the list that names it, else SHUT; a working stores all six with the minute and sets the outputs by the output function's table. -/
def Obligations.ScheduledLevelsAndOutputs : Prop :=
  (∀ (before after : List ScheduleEntry) (e : ScheduleEntry) (minute : Nat) (g : Gate), hasGate e.gates g = true →
    (e.minute ≤ minute → (∀ x ∈ after, hasGate x.gates g = true → minute < x.minute) →
      scheduledLevel (before ++ e :: after) minute g = e.level)
    ∧ ((∀ x ∈ before ++ e :: after, hasGate x.gates g = true → minute < x.minute) →
      (∀ x ∈ after, hasGate x.gates g = false) → scheduledLevel (before ++ e :: after) minute g = e.level))
  ∧ (∀ (schedule : List ScheduleEntry) (minute : Nat) (g : Gate), (∀ x ∈ schedule, hasGate x.gates g = false) →
    scheduledLevel schedule minute g = .shut)
  ∧ (∀ s : State,
    let gates : Gates := { s.gates with
      scheduled := Vector.ofFn fun g => scheduledLevel s.gates.schedule s.clock.minute g, lastWorking := s.clock.minute }
    s.workLevels = { s with gates := { gates with outputs := Vector.ofFn fun g => outputLevel gates s.wing.mode g } })
  ∧ ∀ (gates : Gates) (mode : WingMode) (g : Gate),
    (hasGate gates.enabled g = false → outputLevel gates mode g = .shut)
    ∧ (hasGate gates.enabled g = true →
      (mode = .evacuation → outputLevel gates mode g = .opened)
      ∧ (mode ≠ .evacuation → gates.pulses[g].isSome = true → outputLevel gates mode g = .opened)
      ∧ (gates.pulses[g] = none → mode = .lockdown → outputLevel gates mode g = .shut)
      ∧ (gates.pulses[g] = none → mode = .storm → hasGate gates.exposed g = true → outputLevel gates mode g = .shut)
      ∧ (gates.pulses[g] = none → mode = .normal ∨ (mode = .storm ∧ hasGate gates.exposed g = false) →
        outputLevel gates mode g = gates.scheduled[g]))

/-- R159 to R161, R116 and R164: SET MODE and RESTORE. A change stores the mode, appends MODE_CHANGE, cuts every pending grant with
relock set where it enters LOCKDOWN, sets the outputs, and then queues MODE_CHANGED to both ports and sets both broadcasts pending;
RESTORE leads from EVACUATION to NORMAL with the levels worked out. Their refusals, in order; asking the present mode changes
nothing. -/
def Obligations.SetModeAndRestoreChangeTheMode : Prop :=
  ∀ s : State, s.Ready .setMode .se →
    let entered (m : WingMode) : State := ({ s with wing := { s.wing with mode := m } }).append (.port .se) none none
      (.modeChange s.wing.mode m)
    let told (t : State) (m : WingMode) : State :=
      let r := (t.raise .fo (.modeChanged m)).raise .se (.modeChanged m)
      { r with busA := { r.busA with broadcast := true }, busB := { r.busB with broadcast := true } }
    let cut (t : State) : State := allUnits.foldl (fun x u => if x.grants[u].isSome
      then (x.concludeCut u .lockdown).setRelock u else x) t
    (∀ b : Byte, 2 < b.toNat → exec (.setMode .se b) s = .next (s.withAnswer .setMode .se .badValue []))
    ∧ (∀ m : WingMode, m ≠ .evacuation →
      let request := exec (.setMode .se (BitVec.ofNat 8 m.code)) s
      (s.wing.mode = .evacuation → request = .next (s.withAnswer .setMode .se .evacActive []))
      ∧ (s.wing.mode = m → request = .next (s.withAnswer .setMode .se .ok (byte m.code)))
      ∧ (s.wing.mode ≠ .evacuation → s.wing.mode ≠ m →
        request = .next ((told ((if m = .lockdown then cut (entered m) else entered m).setOutputs) m).withAnswer .setMode .se .ok
          (byte m.code))))
    ∧ (s.wing.mode ≠ .evacuation → exec (.restore .se) s = .next (s.withAnswer .restore .se .wrongState []))
    ∧ (s.wing.mode = .evacuation → s.wing.evacSampled = true →
      exec (.restore .se) s = .next (s.withAnswer .restore .se .evacActive []))
    ∧ (s.wing.mode = .evacuation → s.wing.evacSampled = false →
      exec (.restore .se) s = .next ((told (entered .normal).workLevels .normal).withAnswer .restore .se .ok [0]))

/-- R162, R163, R118 and R136: a rising edge of the EVAC line takes the wing into EVACUATION, marks every pending grant evac pass,
stops every pulse, ends every session with relock set, sets the outputs and tells both ports; in EVACUATION already it is no change
of mode. A falling edge leaves the mode. During a start an edge moves the pin alone (R199), and a line already at the level makes
no edge. The pin's level in State, and the edge of a level it already has, are the model's choices (log entry 15). -/
def Obligations.EvacEdgesAreTaken : Prop :=
  ∀ s : State,
    (s.wing.evacPin = true → exec .evacRisingEdge s = .next s)
    ∧ (s.wing.evacPin = false → exec .evacFallingEdge s = .next s)
    ∧ (s.running = false → s.wing.evacPin = false →
      exec .evacRisingEdge s = .next { s with wing := { s.wing with evacPin := true } })
    ∧ (s.running = false → s.wing.evacPin = true →
      exec .evacFallingEdge s = .next { s with wing := { s.wing with evacPin := false } })
    ∧ (s.running = true → s.wing.evacPin = true →
      exec .evacFallingEdge s = .next (((({ s with wing := { s.wing with evacPin := false, evacSampled := false } }).append
        .evacLine none none .evacClear).raise .fo (.evacLine false)).raise .se (.evacLine false)))
    ∧ (s.running = true → s.wing.evacPin = false →
      let logged := ({ s with wing := { s.wing with evacPin := true, evacSampled := true } }).append .evacLine none none
        (.evac s.wing.mode)
      let entered := if s.wing.mode = .evacuation then logged
        else ({ logged with wing := { logged.wing with mode := .evacuation } }).append .evacLine none none
          (.modeChange s.wing.mode .evacuation)
      let marked : State := { entered with
        grants := entered.grants.map fun g => g.map fun g => { g with evac := true }
        gates := { entered.gates with pulses := .replicate 6 none } }
      let ended := allUnits.foldl (fun x u => if x.sessions[u].isSome
        then (x.setRelock u).endSession u .evacuation else x) marked
      let told := (ended.setOutputs.raise .fo (.evacLine true)).raise .se (.evacLine true)
      exec .evacRisingEdge s = .next (if s.wing.mode = .evacuation then told
        else
          let r := (told.raise .fo (.modeChanged .evacuation)).raise .se (.modeChanged .evacuation)
          { r with busA := { r.busA with broadcast := true }, busB := { r.busB with broadcast := true } }))

/-! ## Retention and starts (chapter 10) -/

/-- R197 to R201 and Table 10-1: what power, reset and each step of a start do, every value written out. Main power's fall and a start
put each volatile item at its start value; retained state stays, privacy becomes UNKNOWN at a start, and the tallies wait for the
START record of the warm start that ends. A cold start gives every block its cold-start values, with the mode and the sampled line
taken from the line. What each power step takes at once, from which phase a start is accepted, and that a power step out of its
phase changes nothing are the model's choices (log entries 10, 12 and 13), and so are the empty bytes sent (log entry 21). -/
def Obligations.StartsRebuildVolatileState : Prop :=
  ∀ s : State,
    let asserted := s.wing.evacPin
    let fresh : BusState := { position := 0, round := 0, broadcast := true, flight := .none, due := none, crcErrors := 0,
                              strays := 0, timeouts := 0, malformed := 0, sent := [] }
    let port : PortState := { slot := none, overrun := false, events := [], eventsLost := false, supervised := false,
                              interval := 0, timer := none, linkLost := false, attn := false, fixed := none, sent := [] }
    let lost : State := { s with
      claims := .replicate 128 none
      units := s.units.map fun r =>
        { kind := r.kind, entranceClass := r.entranceClass, quarantined := r.quarantined, link := .unknown, misses := 0,
          expected := none, lastStatus := none, misreads := 0, entrance := .unknown, relock := false }
      grants := .replicate 240 none, ajar := .replicate 240 none, sessions := .replicate 240 none
      busA := fresh, busB := fresh
      gates := { s.gates with pulses := .replicate 6 none }
      log := { s.log with
        fo := { cursor := s.log.fo.cursor, policy := .yields, skipped := 0, threshold := 256 }
        se := { cursor := s.log.se.cursor, policy := .hold, skipped := 0, threshold := 256 } }
      fo := port, se := port }
    (s.power.phase ≠ .off →
      exec .rstAsserted s = .next { s with
        busA := { s.busA with flight := .none, due := none }, busB := { s.busB with flight := .none, due := none }
        fo := { s.fo with fixed := none }, se := { s.se with fixed := none }
        power := { s.power with phase := .inReset } }
      ∧ exec .mainPowerFall s = .next { lost with power := { s.power with phase := .off } }
      ∧ exec .retentionLost s = .next s)
    ∧ (s.power.phase = .off →
      exec .rstAsserted s = .next s ∧ exec .mainPowerFall s = .next s
      ∧ exec .retentionLost s = .next { s with power := { s.power with retained := false, latch := true } })
    ∧ (s.power.latch = false →
      exec .coldStart s = .next s
      ∧ (let mode := if asserted then .evacuation else s.wing.mode
         let levels : Gates := { lost.gates with
           scheduled := Vector.ofFn fun g => scheduledLevel s.gates.schedule s.clock.minute g, lastWorking := s.clock.minute }
         let record : Formed := { time := s.now, source := .controller, card := none, room := none
                                  detail := .start true s.power.grantTally s.power.sessionTally }
         exec .warmStart s = .next { lost with
           rooms := s.rooms.map fun r => { r with privacy := .unknown }
           wing := { s.wing with evacSampled := asserted }
           gates := { levels with outputs := Vector.ofFn fun g => outputLevel levels mode g }
           power := { s.power with phase := .starting (.warm mode record), retained := true } }))
    ∧ (s.power.latch = true →
      exec .warmStart s = .next s
      ∧ exec .coldStart s = .next
        { pending := s.pending
          power := { phase := .starting .cold, retained := true, latch := true, grantTally := 0, sessionTally := 0 }
          clock := { day := 0, minute := 0, second := 0, prescaler := 0, clockSet := false, clockEnd := false, grace := 60 }
          rooms := .replicate 128 { occupancy := .unused, generation := 0, issueCounter := 0, privacy := .unknown }
          claims := .replicate 128 none
          accounts := .replicate 128 { granted := 0, remaining := 0, charge := 0, overdraft := 0, tally := .replicate 12 0,
                                       ceilingMet := false, blocked := true }
          prices := .replicate 12 0
          reserve := 500
          table := { cards := [], revoked := [], nextNumber := 1, site := 0 }
          units := .replicate 240 { kind := .absent, entranceClass := 0, quarantined := false, link := .unknown, misses := 0,
                                    expected := none, lastStatus := none, misreads := 0, entrance := .unknown, relock := false }
          grants := .replicate 240 none, ajar := .replicate 240 none, sessions := .replicate 240 none
          busA := fresh, busB := fresh
          decision := { conditions := .replicate 8 (.replicate 8 .never)
                        entrances := .replicate 8 { unlock := 5, ajarLimit := 60, exposed := false }
                        shifts := .replicate 8 { opens := 0, closes := 0 } }
          gates := { enabled := 0, exposed := 0, schedule := [], scheduled := .replicate 6 .shut, lastWorking := 0,
                     pulses := .replicate 6 none, outputs := .replicate 6 .shut }
          wing := { mode := if asserted then .evacuation else .normal, evacSampled := asserted, evacPin := asserted }
          log := { records := [{ seq := 0
                                 formed := { time := { day := 0, minute := 0, second := 0 }, source := .controller, card := none
                                             room := none, detail := .start false 0 0 }
                                 gap := none }]
                   next := 1, lost := 0
                   fo := { cursor := 0, policy := .yields, skipped := 0, threshold := 256 }
                   se := { cursor := 0, policy := .hold, skipped := 0, threshold := 256 } }
          fo := port, se := port })
    ∧ (let ended (t : State) : State :=
         if asserted = s.wing.evacSampled then t else if asserted then t.evacRises else t.evacFalls
       (∀ mode record, s.power.phase = .starting (.warm mode record) →
         exec .startEnd s = .next (ended { s with
           wing := { s.wing with mode := mode }, log := s.log.offer record
           power := { s.power with phase := .running, grantTally := 0, sessionTally := 0 } }))
       ∧ (s.power.phase = .starting .cold →
         exec .startEnd s = .next (ended { s with power := { s.power with phase := .running, latch := false } }))
       ∧ (s.power.phase = .running ∨ s.power.phase = .inReset ∨ s.power.phase = .off → exec .startEnd s = .next s))

/-! ## Invariants that every step keeps -/

/-- The state right after reset meets every invariant below. That reset is an ended cold start with the line deasserted is the
model's choice (log entry 1). -/
def Obligations.ResetMeetsTheInvariants : Prop := Inv State.reset

/-- R168, R170, R173 and R175: every step keeps the log at most 4096 records long, numbered consecutively, with both cursors
standing within it. -/
def Obligations.LogInvariantIsKept : Prop := ∀ s t : State, LogInv s → step s = .next t → LogInv t

/-- R40, R41, R45, R51 and R54: every step keeps the card numbers distinct and the table within 1024 records, the revocation list
equal to the REVOKED records' numbers, at most 8 live cards to a room, and each of them at its LET room's generation and window. -/
def Obligations.CardInvariantIsKept : Prop := ∀ s t : State, CardInv s → step s = .next t → CardInv t

/-- R128: every step keeps each account balanced: remaining allowance plus charge total equals granted allowance plus overdraft
while CHARGE_CEILING is clear. -/
def Obligations.AccountInvariantIsKept : Prop := ∀ s t : State, AccountInv s → step s = .next t → AccountInv t

/-- R149 and R156: every step keeps the schedule sorted and within 32 entries, and each gate output as the output function of its
enable bit, pulse, exposure, scheduled level and the mode gives it. -/
def Obligations.GateInvariantIsKept : Prop :=
  ∀ s t : State, ScheduleInv s → OutputInv s → step s = .next t → ScheduleInv t ∧ OutputInv t

/-- R87, R97, R113, R133 and R198: every step keeps a quarantined unit without grant and session, a session only at the minibar
lock of its own room, the miss count and link state in step, and the start tallies equal to the grants and sessions held. -/
def Obligations.UnitInvariantIsKept : Prop :=
  ∀ s t : State, UnitInv s → TallyInv s → step s = .next t → UnitInv t ∧ TallyInv t

/-- R20, R21, R72 and R143: every step keeps room numbers distinct, at most one room lock and one minibar lock to a room, and locks
bound only to configured slots. -/
def Obligations.RoomInvariantIsKept : Prop := ∀ s t : State, RoomInv s → step s = .next t → RoomInv t

/-- R30, R184, R186, R189 and R193: every step keeps a port whose supervision has expired without a claim, each lease at 120 s or
less, each event queue within 16, and ATTN as the slot and the queue have it. -/
def Obligations.PortInvariantIsKept : Prop :=
  ∀ s t : State, ClaimInv s → PortInv s → step s = .next t → ClaimInv t ∧ PortInv t

/-- R3, R10, R76, R86 and R197: every step keeps the clock in range with CLOCK_END set exactly at its last second, the timers and
the Quaybus Controllers in range, and the retention-lost latch as the phase of the part has it. -/
def Obligations.RangeInvariantIsKept : Prop :=
  ∀ s t : State, ClockInv s → TimerInv s → BusInv s → PowerInv s → step s = .next t →
    ClockInv t ∧ TimerInv t ∧ BusInv t ∧ PowerInv t

/-- Whole-machine rules over every command: the wing leaves EVACUATION only by RESTORE while the part runs (R158, R159, R164); and
the generations (R17), CLOCK_SET (R6), the site code (R44, R45), the prices (R129), the reserve (R130), the Decision Unit's tables
(R110 to R112) and the gate schedule (R150, R151) are changed only by their own requests and by a cold start. A request is carried
by its own command or, by its bytes, by BAD_REQUEST, which is the model's choice (log entry 14). -/
def Obligations.OnlyTheirRequestsChangeThem : Prop :=
  ∀ (s t : State) (c : Instr) (rest : List Instr), s.pending = c :: rest → step s = .next t →
    t.pending = rest
    ∧ (s.running = true → t.running = true → s.wing.mode = .evacuation → t.wing.mode ≠ .evacuation → carriedRequest c = some .restore)
    ∧ (c ≠ .coldStart →
      (∀ i : Slot, t.rooms[i].generation ≠ s.rooms[i].generation → carriedRequest c = some .checkIn)
      ∧ (t.clock.clockSet ≠ s.clock.clockSet → carriedRequest c = some .setClock)
      ∧ (t.table.site ≠ s.table.site → carriedRequest c = some .setSite)
      ∧ (t.prices ≠ s.prices → carriedRequest c = some .setPrices)
      ∧ (t.reserve ≠ s.reserve → carriedRequest c = some .setReserve)
      ∧ (t.decision.conditions ≠ s.decision.conditions → carriedRequest c = some .setCondition)
      ∧ (t.decision.entrances ≠ s.decision.entrances → carriedRequest c = some .setEntranceClass)
      ∧ (t.decision.shifts ≠ s.decision.shifts → carriedRequest c = some .setShift)
      ∧ (t.gates.schedule ≠ s.gates.schedule →
        carriedRequest c ∈ [some .addScheduleEntry, some .removeScheduleEntry, some .clearSchedule]))
end

