-- ==== Sys2Proof/Laws/State.lean ====
section
/-! SUPPORT. What each update of `State` leaves of every field: one lemma for each field and update, so that no proof unfolds a
record update. -/

namespace Sys2Proof.Machine

open Sys2Proof

variable (s : State)

/-! ## Ports -/

@[simp] theorem State.setPort_pending (p : Port) (q : PortState) : (s.setPort p q).pending = s.pending := by cases p <;> rfl
@[simp] theorem State.setPort_power (p : Port) (q : PortState) : (s.setPort p q).power = s.power := by cases p <;> rfl
@[simp] theorem State.setPort_clock (p : Port) (q : PortState) : (s.setPort p q).clock = s.clock := by cases p <;> rfl
@[simp] theorem State.setPort_rooms (p : Port) (q : PortState) : (s.setPort p q).rooms = s.rooms := by cases p <;> rfl
@[simp] theorem State.setPort_claims (p : Port) (q : PortState) : (s.setPort p q).claims = s.claims := by cases p <;> rfl
@[simp] theorem State.setPort_accounts (p : Port) (q : PortState) : (s.setPort p q).accounts = s.accounts := by cases p <;> rfl
@[simp] theorem State.setPort_prices (p : Port) (q : PortState) : (s.setPort p q).prices = s.prices := by cases p <;> rfl
@[simp] theorem State.setPort_reserve (p : Port) (q : PortState) : (s.setPort p q).reserve = s.reserve := by cases p <;> rfl
@[simp] theorem State.setPort_table (p : Port) (q : PortState) : (s.setPort p q).table = s.table := by cases p <;> rfl
@[simp] theorem State.setPort_units (p : Port) (q : PortState) : (s.setPort p q).units = s.units := by cases p <;> rfl
@[simp] theorem State.setPort_grants (p : Port) (q : PortState) : (s.setPort p q).grants = s.grants := by cases p <;> rfl
@[simp] theorem State.setPort_ajar (p : Port) (q : PortState) : (s.setPort p q).ajar = s.ajar := by cases p <;> rfl
@[simp] theorem State.setPort_sessions (p : Port) (q : PortState) : (s.setPort p q).sessions = s.sessions := by cases p <;> rfl
@[simp] theorem State.setPort_busA (p : Port) (q : PortState) : (s.setPort p q).busA = s.busA := by cases p <;> rfl
@[simp] theorem State.setPort_busB (p : Port) (q : PortState) : (s.setPort p q).busB = s.busB := by cases p <;> rfl
@[simp] theorem State.setPort_decision (p : Port) (q : PortState) : (s.setPort p q).decision = s.decision := by cases p <;> rfl
@[simp] theorem State.setPort_gates (p : Port) (q : PortState) : (s.setPort p q).gates = s.gates := by cases p <;> rfl
@[simp] theorem State.setPort_wing (p : Port) (q : PortState) : (s.setPort p q).wing = s.wing := by cases p <;> rfl
@[simp] theorem State.setPort_log (p : Port) (q : PortState) : (s.setPort p q).log = s.log := by cases p <;> rfl
@[simp] theorem State.setPort_fo_fo (q : PortState) : (s.setPort .fo q).fo = q := rfl
@[simp] theorem State.setPort_fo_se (q : PortState) : (s.setPort .fo q).se = s.se := rfl
@[simp] theorem State.setPort_se_fo (q : PortState) : (s.setPort .se q).fo = s.fo := rfl
@[simp] theorem State.setPort_se_se (q : PortState) : (s.setPort .se q).se = q := rfl
@[simp] theorem State.port_fo : s.port .fo = s.fo := rfl
@[simp] theorem State.port_se : s.port .se = s.se := rfl
@[simp] theorem State.setPort_port (p : Port) (q : PortState) : (s.setPort p q).port p = q := by cases p <;> rfl
@[simp] theorem State.setPort_port_other (p : Port) (q : PortState) :
    (s.setPort p q).port (otherPort p) = s.port (otherPort p) := by cases p <;> rfl
@[simp] theorem State.setPort_other_port (p : Port) (q : PortState) :
    (s.setPort (otherPort p) q).port p = s.port p := by cases p <;> rfl
@[simp] theorem State.setPort_setPort (p : Port) (q r : PortState) : (s.setPort p q).setPort p r = s.setPort p r := by
  cases p <;> rfl
@[simp] theorem State.setPort_self (p : Port) : s.setPort p (s.port p) = s := by cases p <;> rfl
@[simp] theorem State.setPort_bus (p : Port) (q : PortState) (line : Bus) : (s.setPort p q).bus line = s.bus line := by
  cases p <;> cases line <;> rfl
@[simp] theorem otherPort_otherPort (p : Port) : otherPort (otherPort p) = p := by cases p <;> rfl
@[simp] theorem otherPort_ne (p : Port) : otherPort p ≠ p := by cases p <;> decide

/-- The two ports are kept apart: updates of one and of the other can be taken in either order. -/
theorem State.setPort_comm (p : Port) (q r : PortState) :
    (s.setPort p q).setPort (otherPort p) r = (s.setPort (otherPort p) r).setPort p q := by cases p <;> rfl

/-! ## Quaybus Controllers -/

@[simp] theorem State.setBus_pending (line : Bus) (c : BusState) :
    (s.setBus line c).pending = s.pending := by cases line <;> rfl
@[simp] theorem State.setBus_power (line : Bus) (c : BusState) : (s.setBus line c).power = s.power := by cases line <;> rfl
@[simp] theorem State.setBus_clock (line : Bus) (c : BusState) : (s.setBus line c).clock = s.clock := by cases line <;> rfl
@[simp] theorem State.setBus_rooms (line : Bus) (c : BusState) : (s.setBus line c).rooms = s.rooms := by cases line <;> rfl
@[simp] theorem State.setBus_claims (line : Bus) (c : BusState) : (s.setBus line c).claims = s.claims := by cases line <;> rfl
@[simp] theorem State.setBus_accounts (line : Bus) (c : BusState) :
    (s.setBus line c).accounts = s.accounts := by cases line <;> rfl
@[simp] theorem State.setBus_prices (line : Bus) (c : BusState) : (s.setBus line c).prices = s.prices := by cases line <;> rfl
@[simp] theorem State.setBus_reserve (line : Bus) (c : BusState) :
    (s.setBus line c).reserve = s.reserve := by cases line <;> rfl
@[simp] theorem State.setBus_table (line : Bus) (c : BusState) : (s.setBus line c).table = s.table := by cases line <;> rfl
@[simp] theorem State.setBus_units (line : Bus) (c : BusState) : (s.setBus line c).units = s.units := by cases line <;> rfl
@[simp] theorem State.setBus_grants (line : Bus) (c : BusState) : (s.setBus line c).grants = s.grants := by cases line <;> rfl
@[simp] theorem State.setBus_ajar (line : Bus) (c : BusState) : (s.setBus line c).ajar = s.ajar := by cases line <;> rfl
@[simp] theorem State.setBus_sessions (line : Bus) (c : BusState) :
    (s.setBus line c).sessions = s.sessions := by cases line <;> rfl
@[simp] theorem State.setBus_decision (line : Bus) (c : BusState) :
    (s.setBus line c).decision = s.decision := by cases line <;> rfl
@[simp] theorem State.setBus_gates (line : Bus) (c : BusState) : (s.setBus line c).gates = s.gates := by cases line <;> rfl
@[simp] theorem State.setBus_wing (line : Bus) (c : BusState) : (s.setBus line c).wing = s.wing := by cases line <;> rfl
@[simp] theorem State.setBus_log (line : Bus) (c : BusState) : (s.setBus line c).log = s.log := by cases line <;> rfl
@[simp] theorem State.setBus_fo (line : Bus) (c : BusState) : (s.setBus line c).fo = s.fo := by cases line <;> rfl
@[simp] theorem State.setBus_se (line : Bus) (c : BusState) : (s.setBus line c).se = s.se := by cases line <;> rfl
@[simp] theorem State.setBus_a_busA (c : BusState) : (s.setBus .a c).busA = c := rfl
@[simp] theorem State.setBus_a_busB (c : BusState) : (s.setBus .a c).busB = s.busB := rfl
@[simp] theorem State.setBus_b_busA (c : BusState) : (s.setBus .b c).busA = s.busA := rfl
@[simp] theorem State.setBus_b_busB (c : BusState) : (s.setBus .b c).busB = c := rfl
@[simp] theorem State.bus_a : s.bus .a = s.busA := rfl
@[simp] theorem State.bus_b : s.bus .b = s.busB := rfl
@[simp] theorem State.setBus_bus (line : Bus) (c : BusState) : (s.setBus line c).bus line = c := by cases line <;> rfl
@[simp] theorem State.setBus_setBus (line : Bus) (c d : BusState) : (s.setBus line c).setBus line d = s.setBus line d := by
  cases line <;> rfl
@[simp] theorem State.setBus_self (line : Bus) : s.setBus line (s.bus line) = s := by cases line <;> rfl
@[simp] theorem State.setBus_port (line : Bus) (c : BusState) (p : Port) : (s.setBus line c).port p = s.port p := by
  cases line <;> cases p <;> rfl

/-! ## Unit records -/

@[simp] theorem State.setUnit_pending (u : UnitId) (r : UnitRec) : (s.setUnit u r).pending = s.pending := rfl
@[simp] theorem State.setUnit_power (u : UnitId) (r : UnitRec) : (s.setUnit u r).power = s.power := rfl
@[simp] theorem State.setUnit_clock (u : UnitId) (r : UnitRec) : (s.setUnit u r).clock = s.clock := rfl
@[simp] theorem State.setUnit_rooms (u : UnitId) (r : UnitRec) : (s.setUnit u r).rooms = s.rooms := rfl
@[simp] theorem State.setUnit_claims (u : UnitId) (r : UnitRec) : (s.setUnit u r).claims = s.claims := rfl
@[simp] theorem State.setUnit_accounts (u : UnitId) (r : UnitRec) : (s.setUnit u r).accounts = s.accounts := rfl
@[simp] theorem State.setUnit_prices (u : UnitId) (r : UnitRec) : (s.setUnit u r).prices = s.prices := rfl
@[simp] theorem State.setUnit_reserve (u : UnitId) (r : UnitRec) : (s.setUnit u r).reserve = s.reserve := rfl
@[simp] theorem State.setUnit_table (u : UnitId) (r : UnitRec) : (s.setUnit u r).table = s.table := rfl
@[simp] theorem State.setUnit_units (u : UnitId) (r : UnitRec) : (s.setUnit u r).units = s.units.set u r := rfl
@[simp] theorem State.setUnit_grants (u : UnitId) (r : UnitRec) : (s.setUnit u r).grants = s.grants := rfl
@[simp] theorem State.setUnit_ajar (u : UnitId) (r : UnitRec) : (s.setUnit u r).ajar = s.ajar := rfl
@[simp] theorem State.setUnit_sessions (u : UnitId) (r : UnitRec) : (s.setUnit u r).sessions = s.sessions := rfl
@[simp] theorem State.setUnit_busA (u : UnitId) (r : UnitRec) : (s.setUnit u r).busA = s.busA := rfl
@[simp] theorem State.setUnit_busB (u : UnitId) (r : UnitRec) : (s.setUnit u r).busB = s.busB := rfl
@[simp] theorem State.setUnit_decision (u : UnitId) (r : UnitRec) : (s.setUnit u r).decision = s.decision := rfl
@[simp] theorem State.setUnit_gates (u : UnitId) (r : UnitRec) : (s.setUnit u r).gates = s.gates := rfl
@[simp] theorem State.setUnit_wing (u : UnitId) (r : UnitRec) : (s.setUnit u r).wing = s.wing := rfl
@[simp] theorem State.setUnit_log (u : UnitId) (r : UnitRec) : (s.setUnit u r).log = s.log := rfl
@[simp] theorem State.setUnit_fo (u : UnitId) (r : UnitRec) : (s.setUnit u r).fo = s.fo := rfl
@[simp] theorem State.setUnit_se (u : UnitId) (r : UnitRec) : (s.setUnit u r).se = s.se := rfl
@[simp] theorem State.setUnit_port (u : UnitId) (r : UnitRec) (p : Port) :
    (s.setUnit u r).port p = s.port p := by cases p <;> rfl
@[simp] theorem State.setUnit_bus (u : UnitId) (r : UnitRec) (line : Bus) :
    (s.setUnit u r).bus line = s.bus line := by cases line <;> rfl

/-! ## Pending grants -/

@[simp] theorem State.setGrant_pending (u : UnitId) (g : Option Grant) : (s.setGrant u g).pending = s.pending := rfl
@[simp] theorem State.setGrant_power (u : UnitId) (g : Option Grant) : (s.setGrant u g).power = s.power := rfl
@[simp] theorem State.setGrant_clock (u : UnitId) (g : Option Grant) : (s.setGrant u g).clock = s.clock := rfl
@[simp] theorem State.setGrant_rooms (u : UnitId) (g : Option Grant) : (s.setGrant u g).rooms = s.rooms := rfl
@[simp] theorem State.setGrant_claims (u : UnitId) (g : Option Grant) : (s.setGrant u g).claims = s.claims := rfl
@[simp] theorem State.setGrant_accounts (u : UnitId) (g : Option Grant) : (s.setGrant u g).accounts = s.accounts := rfl
@[simp] theorem State.setGrant_prices (u : UnitId) (g : Option Grant) : (s.setGrant u g).prices = s.prices := rfl
@[simp] theorem State.setGrant_reserve (u : UnitId) (g : Option Grant) : (s.setGrant u g).reserve = s.reserve := rfl
@[simp] theorem State.setGrant_table (u : UnitId) (g : Option Grant) : (s.setGrant u g).table = s.table := rfl
@[simp] theorem State.setGrant_units (u : UnitId) (g : Option Grant) : (s.setGrant u g).units = s.units := rfl
@[simp] theorem State.setGrant_grants (u : UnitId) (g : Option Grant) : (s.setGrant u g).grants = s.grants.set u g := rfl
@[simp] theorem State.setGrant_ajar (u : UnitId) (g : Option Grant) : (s.setGrant u g).ajar = s.ajar := rfl
@[simp] theorem State.setGrant_sessions (u : UnitId) (g : Option Grant) : (s.setGrant u g).sessions = s.sessions := rfl
@[simp] theorem State.setGrant_busA (u : UnitId) (g : Option Grant) : (s.setGrant u g).busA = s.busA := rfl
@[simp] theorem State.setGrant_busB (u : UnitId) (g : Option Grant) : (s.setGrant u g).busB = s.busB := rfl
@[simp] theorem State.setGrant_decision (u : UnitId) (g : Option Grant) : (s.setGrant u g).decision = s.decision := rfl
@[simp] theorem State.setGrant_gates (u : UnitId) (g : Option Grant) : (s.setGrant u g).gates = s.gates := rfl
@[simp] theorem State.setGrant_wing (u : UnitId) (g : Option Grant) : (s.setGrant u g).wing = s.wing := rfl
@[simp] theorem State.setGrant_log (u : UnitId) (g : Option Grant) : (s.setGrant u g).log = s.log := rfl
@[simp] theorem State.setGrant_fo (u : UnitId) (g : Option Grant) : (s.setGrant u g).fo = s.fo := rfl
@[simp] theorem State.setGrant_se (u : UnitId) (g : Option Grant) : (s.setGrant u g).se = s.se := rfl
@[simp] theorem State.setGrant_port (u : UnitId) (g : Option Grant) (p : Port) :
    (s.setGrant u g).port p = s.port p := by cases p <;> rfl
@[simp] theorem State.setGrant_bus (u : UnitId) (g : Option Grant) (line : Bus) :
    (s.setGrant u g).bus line = s.bus line := by cases line <;> rfl

/-! ## Ajar timers -/

@[simp] theorem State.setAjar_pending (u : UnitId) (t : Option AjarTimer) : (s.setAjar u t).pending = s.pending := rfl
@[simp] theorem State.setAjar_power (u : UnitId) (t : Option AjarTimer) : (s.setAjar u t).power = s.power := rfl
@[simp] theorem State.setAjar_clock (u : UnitId) (t : Option AjarTimer) : (s.setAjar u t).clock = s.clock := rfl
@[simp] theorem State.setAjar_rooms (u : UnitId) (t : Option AjarTimer) : (s.setAjar u t).rooms = s.rooms := rfl
@[simp] theorem State.setAjar_claims (u : UnitId) (t : Option AjarTimer) : (s.setAjar u t).claims = s.claims := rfl
@[simp] theorem State.setAjar_accounts (u : UnitId) (t : Option AjarTimer) : (s.setAjar u t).accounts = s.accounts := rfl
@[simp] theorem State.setAjar_prices (u : UnitId) (t : Option AjarTimer) : (s.setAjar u t).prices = s.prices := rfl
@[simp] theorem State.setAjar_reserve (u : UnitId) (t : Option AjarTimer) : (s.setAjar u t).reserve = s.reserve := rfl
@[simp] theorem State.setAjar_table (u : UnitId) (t : Option AjarTimer) : (s.setAjar u t).table = s.table := rfl
@[simp] theorem State.setAjar_units (u : UnitId) (t : Option AjarTimer) : (s.setAjar u t).units = s.units := rfl
@[simp] theorem State.setAjar_grants (u : UnitId) (t : Option AjarTimer) : (s.setAjar u t).grants = s.grants := rfl
@[simp] theorem State.setAjar_ajar (u : UnitId) (t : Option AjarTimer) : (s.setAjar u t).ajar = s.ajar.set u t := rfl
@[simp] theorem State.setAjar_sessions (u : UnitId) (t : Option AjarTimer) : (s.setAjar u t).sessions = s.sessions := rfl
@[simp] theorem State.setAjar_busA (u : UnitId) (t : Option AjarTimer) : (s.setAjar u t).busA = s.busA := rfl
@[simp] theorem State.setAjar_busB (u : UnitId) (t : Option AjarTimer) : (s.setAjar u t).busB = s.busB := rfl
@[simp] theorem State.setAjar_decision (u : UnitId) (t : Option AjarTimer) : (s.setAjar u t).decision = s.decision := rfl
@[simp] theorem State.setAjar_gates (u : UnitId) (t : Option AjarTimer) : (s.setAjar u t).gates = s.gates := rfl
@[simp] theorem State.setAjar_wing (u : UnitId) (t : Option AjarTimer) : (s.setAjar u t).wing = s.wing := rfl
@[simp] theorem State.setAjar_log (u : UnitId) (t : Option AjarTimer) : (s.setAjar u t).log = s.log := rfl
@[simp] theorem State.setAjar_fo (u : UnitId) (t : Option AjarTimer) : (s.setAjar u t).fo = s.fo := rfl
@[simp] theorem State.setAjar_se (u : UnitId) (t : Option AjarTimer) : (s.setAjar u t).se = s.se := rfl
@[simp] theorem State.setAjar_port (u : UnitId) (t : Option AjarTimer) (p : Port) :
    (s.setAjar u t).port p = s.port p := by cases p <;> rfl
@[simp] theorem State.setAjar_bus (u : UnitId) (t : Option AjarTimer) (line : Bus) :
    (s.setAjar u t).bus line = s.bus line := by cases line <;> rfl

/-! ## Minibar sessions -/

@[simp] theorem State.setSession_pending (u : UnitId) (x : Option Session) : (s.setSession u x).pending = s.pending := rfl
@[simp] theorem State.setSession_power (u : UnitId) (x : Option Session) : (s.setSession u x).power = s.power := rfl
@[simp] theorem State.setSession_clock (u : UnitId) (x : Option Session) : (s.setSession u x).clock = s.clock := rfl
@[simp] theorem State.setSession_rooms (u : UnitId) (x : Option Session) : (s.setSession u x).rooms = s.rooms := rfl
@[simp] theorem State.setSession_claims (u : UnitId) (x : Option Session) : (s.setSession u x).claims = s.claims := rfl
@[simp] theorem State.setSession_accounts (u : UnitId) (x : Option Session) : (s.setSession u x).accounts = s.accounts := rfl
@[simp] theorem State.setSession_prices (u : UnitId) (x : Option Session) : (s.setSession u x).prices = s.prices := rfl
@[simp] theorem State.setSession_reserve (u : UnitId) (x : Option Session) : (s.setSession u x).reserve = s.reserve := rfl
@[simp] theorem State.setSession_table (u : UnitId) (x : Option Session) : (s.setSession u x).table = s.table := rfl
@[simp] theorem State.setSession_units (u : UnitId) (x : Option Session) : (s.setSession u x).units = s.units := rfl
@[simp] theorem State.setSession_grants (u : UnitId) (x : Option Session) : (s.setSession u x).grants = s.grants := rfl
@[simp] theorem State.setSession_ajar (u : UnitId) (x : Option Session) : (s.setSession u x).ajar = s.ajar := rfl
@[simp] theorem State.setSession_sessions (u : UnitId) (x : Option Session) :
    (s.setSession u x).sessions = s.sessions.set u x := rfl
@[simp] theorem State.setSession_busA (u : UnitId) (x : Option Session) : (s.setSession u x).busA = s.busA := rfl
@[simp] theorem State.setSession_busB (u : UnitId) (x : Option Session) : (s.setSession u x).busB = s.busB := rfl
@[simp] theorem State.setSession_decision (u : UnitId) (x : Option Session) : (s.setSession u x).decision = s.decision := rfl
@[simp] theorem State.setSession_gates (u : UnitId) (x : Option Session) : (s.setSession u x).gates = s.gates := rfl
@[simp] theorem State.setSession_wing (u : UnitId) (x : Option Session) : (s.setSession u x).wing = s.wing := rfl
@[simp] theorem State.setSession_log (u : UnitId) (x : Option Session) : (s.setSession u x).log = s.log := rfl
@[simp] theorem State.setSession_fo (u : UnitId) (x : Option Session) : (s.setSession u x).fo = s.fo := rfl
@[simp] theorem State.setSession_se (u : UnitId) (x : Option Session) : (s.setSession u x).se = s.se := rfl
@[simp] theorem State.setSession_port (u : UnitId) (x : Option Session) (p : Port) :
    (s.setSession u x).port p = s.port p := by cases p <;> rfl
@[simp] theorem State.setSession_bus (u : UnitId) (x : Option Session) (line : Bus) :
    (s.setSession u x).bus line = s.bus line := by cases line <;> rfl

/-! ## Room records -/

@[simp] theorem State.setRoom_pending (i : Slot) (r : Room) : (s.setRoom i r).pending = s.pending := rfl
@[simp] theorem State.setRoom_power (i : Slot) (r : Room) : (s.setRoom i r).power = s.power := rfl
@[simp] theorem State.setRoom_clock (i : Slot) (r : Room) : (s.setRoom i r).clock = s.clock := rfl
@[simp] theorem State.setRoom_rooms (i : Slot) (r : Room) : (s.setRoom i r).rooms = s.rooms.set i r := rfl
@[simp] theorem State.setRoom_claims (i : Slot) (r : Room) : (s.setRoom i r).claims = s.claims := rfl
@[simp] theorem State.setRoom_accounts (i : Slot) (r : Room) : (s.setRoom i r).accounts = s.accounts := rfl
@[simp] theorem State.setRoom_prices (i : Slot) (r : Room) : (s.setRoom i r).prices = s.prices := rfl
@[simp] theorem State.setRoom_reserve (i : Slot) (r : Room) : (s.setRoom i r).reserve = s.reserve := rfl
@[simp] theorem State.setRoom_table (i : Slot) (r : Room) : (s.setRoom i r).table = s.table := rfl
@[simp] theorem State.setRoom_units (i : Slot) (r : Room) : (s.setRoom i r).units = s.units := rfl
@[simp] theorem State.setRoom_grants (i : Slot) (r : Room) : (s.setRoom i r).grants = s.grants := rfl
@[simp] theorem State.setRoom_ajar (i : Slot) (r : Room) : (s.setRoom i r).ajar = s.ajar := rfl
@[simp] theorem State.setRoom_sessions (i : Slot) (r : Room) : (s.setRoom i r).sessions = s.sessions := rfl
@[simp] theorem State.setRoom_busA (i : Slot) (r : Room) : (s.setRoom i r).busA = s.busA := rfl
@[simp] theorem State.setRoom_busB (i : Slot) (r : Room) : (s.setRoom i r).busB = s.busB := rfl
@[simp] theorem State.setRoom_decision (i : Slot) (r : Room) : (s.setRoom i r).decision = s.decision := rfl
@[simp] theorem State.setRoom_gates (i : Slot) (r : Room) : (s.setRoom i r).gates = s.gates := rfl
@[simp] theorem State.setRoom_wing (i : Slot) (r : Room) : (s.setRoom i r).wing = s.wing := rfl
@[simp] theorem State.setRoom_log (i : Slot) (r : Room) : (s.setRoom i r).log = s.log := rfl
@[simp] theorem State.setRoom_fo (i : Slot) (r : Room) : (s.setRoom i r).fo = s.fo := rfl
@[simp] theorem State.setRoom_se (i : Slot) (r : Room) : (s.setRoom i r).se = s.se := rfl
@[simp] theorem State.setRoom_port (i : Slot) (r : Room) (p : Port) : (s.setRoom i r).port p = s.port p := by cases p <;> rfl
@[simp] theorem State.setRoom_bus (i : Slot) (r : Room) (line : Bus) :
    (s.setRoom i r).bus line = s.bus line := by cases line <;> rfl

/-! ## Claims -/

@[simp] theorem State.setClaim_pending (i : Slot) (c : Option Claim) : (s.setClaim i c).pending = s.pending := rfl
@[simp] theorem State.setClaim_power (i : Slot) (c : Option Claim) : (s.setClaim i c).power = s.power := rfl
@[simp] theorem State.setClaim_clock (i : Slot) (c : Option Claim) : (s.setClaim i c).clock = s.clock := rfl
@[simp] theorem State.setClaim_rooms (i : Slot) (c : Option Claim) : (s.setClaim i c).rooms = s.rooms := rfl
@[simp] theorem State.setClaim_claims (i : Slot) (c : Option Claim) : (s.setClaim i c).claims = s.claims.set i c := rfl
@[simp] theorem State.setClaim_accounts (i : Slot) (c : Option Claim) : (s.setClaim i c).accounts = s.accounts := rfl
@[simp] theorem State.setClaim_prices (i : Slot) (c : Option Claim) : (s.setClaim i c).prices = s.prices := rfl
@[simp] theorem State.setClaim_reserve (i : Slot) (c : Option Claim) : (s.setClaim i c).reserve = s.reserve := rfl
@[simp] theorem State.setClaim_table (i : Slot) (c : Option Claim) : (s.setClaim i c).table = s.table := rfl
@[simp] theorem State.setClaim_units (i : Slot) (c : Option Claim) : (s.setClaim i c).units = s.units := rfl
@[simp] theorem State.setClaim_grants (i : Slot) (c : Option Claim) : (s.setClaim i c).grants = s.grants := rfl
@[simp] theorem State.setClaim_ajar (i : Slot) (c : Option Claim) : (s.setClaim i c).ajar = s.ajar := rfl
@[simp] theorem State.setClaim_sessions (i : Slot) (c : Option Claim) : (s.setClaim i c).sessions = s.sessions := rfl
@[simp] theorem State.setClaim_busA (i : Slot) (c : Option Claim) : (s.setClaim i c).busA = s.busA := rfl
@[simp] theorem State.setClaim_busB (i : Slot) (c : Option Claim) : (s.setClaim i c).busB = s.busB := rfl
@[simp] theorem State.setClaim_decision (i : Slot) (c : Option Claim) : (s.setClaim i c).decision = s.decision := rfl
@[simp] theorem State.setClaim_gates (i : Slot) (c : Option Claim) : (s.setClaim i c).gates = s.gates := rfl
@[simp] theorem State.setClaim_wing (i : Slot) (c : Option Claim) : (s.setClaim i c).wing = s.wing := rfl
@[simp] theorem State.setClaim_log (i : Slot) (c : Option Claim) : (s.setClaim i c).log = s.log := rfl
@[simp] theorem State.setClaim_fo (i : Slot) (c : Option Claim) : (s.setClaim i c).fo = s.fo := rfl
@[simp] theorem State.setClaim_se (i : Slot) (c : Option Claim) : (s.setClaim i c).se = s.se := rfl
@[simp] theorem State.setClaim_port (i : Slot) (c : Option Claim) (p : Port) :
    (s.setClaim i c).port p = s.port p := by cases p <;> rfl
@[simp] theorem State.setClaim_bus (i : Slot) (c : Option Claim) (line : Bus) :
    (s.setClaim i c).bus line = s.bus line := by cases line <;> rfl

/-! ## Accounts -/

@[simp] theorem State.setAccount_pending (i : Slot) (a : Account) : (s.setAccount i a).pending = s.pending := rfl
@[simp] theorem State.setAccount_power (i : Slot) (a : Account) : (s.setAccount i a).power = s.power := rfl
@[simp] theorem State.setAccount_clock (i : Slot) (a : Account) : (s.setAccount i a).clock = s.clock := rfl
@[simp] theorem State.setAccount_rooms (i : Slot) (a : Account) : (s.setAccount i a).rooms = s.rooms := rfl
@[simp] theorem State.setAccount_claims (i : Slot) (a : Account) : (s.setAccount i a).claims = s.claims := rfl
@[simp] theorem State.setAccount_accounts (i : Slot) (a : Account) : (s.setAccount i a).accounts = s.accounts.set i a := rfl
@[simp] theorem State.setAccount_prices (i : Slot) (a : Account) : (s.setAccount i a).prices = s.prices := rfl
@[simp] theorem State.setAccount_reserve (i : Slot) (a : Account) : (s.setAccount i a).reserve = s.reserve := rfl
@[simp] theorem State.setAccount_table (i : Slot) (a : Account) : (s.setAccount i a).table = s.table := rfl
@[simp] theorem State.setAccount_units (i : Slot) (a : Account) : (s.setAccount i a).units = s.units := rfl
@[simp] theorem State.setAccount_grants (i : Slot) (a : Account) : (s.setAccount i a).grants = s.grants := rfl
@[simp] theorem State.setAccount_ajar (i : Slot) (a : Account) : (s.setAccount i a).ajar = s.ajar := rfl
@[simp] theorem State.setAccount_sessions (i : Slot) (a : Account) : (s.setAccount i a).sessions = s.sessions := rfl
@[simp] theorem State.setAccount_busA (i : Slot) (a : Account) : (s.setAccount i a).busA = s.busA := rfl
@[simp] theorem State.setAccount_busB (i : Slot) (a : Account) : (s.setAccount i a).busB = s.busB := rfl
@[simp] theorem State.setAccount_decision (i : Slot) (a : Account) : (s.setAccount i a).decision = s.decision := rfl
@[simp] theorem State.setAccount_gates (i : Slot) (a : Account) : (s.setAccount i a).gates = s.gates := rfl
@[simp] theorem State.setAccount_wing (i : Slot) (a : Account) : (s.setAccount i a).wing = s.wing := rfl
@[simp] theorem State.setAccount_log (i : Slot) (a : Account) : (s.setAccount i a).log = s.log := rfl
@[simp] theorem State.setAccount_fo (i : Slot) (a : Account) : (s.setAccount i a).fo = s.fo := rfl
@[simp] theorem State.setAccount_se (i : Slot) (a : Account) : (s.setAccount i a).se = s.se := rfl
@[simp] theorem State.setAccount_port (i : Slot) (a : Account) (p : Port) :
    (s.setAccount i a).port p = s.port p := by cases p <;> rfl
@[simp] theorem State.setAccount_bus (i : Slot) (a : Account) (line : Bus) :
    (s.setAccount i a).bus line = s.bus line := by cases line <;> rfl

/-! ## Whether the part runs -/

@[simp] theorem State.setPort_running (p : Port) (q : PortState) : (s.setPort p q).running = s.running := by cases p <;> rfl
@[simp] theorem State.setBus_running (line : Bus) (c : BusState) :
    (s.setBus line c).running = s.running := by cases line <;> rfl
@[simp] theorem State.setUnit_running (u : UnitId) (r : UnitRec) : (s.setUnit u r).running = s.running := rfl
@[simp] theorem State.setGrant_running (u : UnitId) (g : Option Grant) : (s.setGrant u g).running = s.running := rfl
@[simp] theorem State.setAjar_running (u : UnitId) (t : Option AjarTimer) : (s.setAjar u t).running = s.running := rfl
@[simp] theorem State.setSession_running (u : UnitId) (x : Option Session) : (s.setSession u x).running = s.running := rfl
@[simp] theorem State.setRoom_running (i : Slot) (r : Room) : (s.setRoom i r).running = s.running := rfl
@[simp] theorem State.setClaim_running (i : Slot) (c : Option Claim) : (s.setClaim i c).running = s.running := rfl
@[simp] theorem State.setAccount_running (i : Slot) (a : Account) : (s.setAccount i a).running = s.running := rfl

/-- The part runs exactly in the phase `running`. -/
theorem State.running_iff : s.running = true ↔ s.power.phase = .running := by
  unfold State.running; split <;> simp_all

end Sys2Proof.Machine
end

