-- ==== Sys2Proof/Laws/Ops.lean ====
section
/-! SUPPORT. What the shared operations of Machine/Ops.lean can do, said once for each, so that no proof unfolds them: events, the
entry log, responses, the station port's checks and the claim check. -/

namespace Sys2Proof.Machine

open Sys2Proof

/-! ## Events (R189) -/

theorem PortState.queue_room (q : PortState) (e : Event) (h : q.events.length < 16) :
    q.queue e = { q with events := q.events ++ [e], attn := true } := by
  simp [PortState.queue, Config.maxEvents, h, PortState.withAttn, PortState.attnLevel]

theorem PortState.queue_full (q : PortState) (e : Event) (h : 16 ≤ q.events.length) :
    q.queue e = { q with eventsLost := true } := by
  simp [PortState.queue, Config.maxEvents, Nat.not_lt.mpr h]

/-- A queued event leaves everything of its port but the queue, EVENTS_LOST and ATTN. -/
theorem PortState.queue_spec (q : PortState) (e : Event) :
    q.queue e = { q with events := (q.queue e).events, eventsLost := (q.queue e).eventsLost, attn := (q.queue e).attn } := by
  simp only [PortState.queue]; split <;> rfl

@[simp] theorem PortState.queue_slot (q : PortState) (e : Event) : (q.queue e).slot = q.slot := by
  simp only [PortState.queue]; split <;> rfl
@[simp] theorem PortState.queue_overrun (q : PortState) (e : Event) : (q.queue e).overrun = q.overrun := by
  simp only [PortState.queue]; split <;> rfl
@[simp] theorem PortState.queue_supervised (q : PortState) (e : Event) : (q.queue e).supervised = q.supervised := by
  simp only [PortState.queue]; split <;> rfl
@[simp] theorem PortState.queue_interval (q : PortState) (e : Event) : (q.queue e).interval = q.interval := by
  simp only [PortState.queue]; split <;> rfl
@[simp] theorem PortState.queue_timer (q : PortState) (e : Event) : (q.queue e).timer = q.timer := by
  simp only [PortState.queue]; split <;> rfl
@[simp] theorem PortState.queue_linkLost (q : PortState) (e : Event) : (q.queue e).linkLost = q.linkLost := by
  simp only [PortState.queue]; split <;> rfl
@[simp] theorem PortState.queue_fixed (q : PortState) (e : Event) : (q.queue e).fixed = q.fixed := by
  simp only [PortState.queue]; split <;> rfl
@[simp] theorem PortState.queue_sent (q : PortState) (e : Event) : (q.queue e).sent = q.sent := by
  simp only [PortState.queue]; split <;> rfl

theorem State.raise_eq (s : State) (p : Port) (e : Event) : s.raise p e = s.setPort p ((s.port p).queue e) := rfl

@[simp] theorem State.raise_pending (s : State) (p : Port) (e : Event) : (s.raise p e).pending = s.pending := by simp [State.raise]
@[simp] theorem State.raise_power (s : State) (p : Port) (e : Event) : (s.raise p e).power = s.power := by simp [State.raise]
@[simp] theorem State.raise_clock (s : State) (p : Port) (e : Event) : (s.raise p e).clock = s.clock := by simp [State.raise]
@[simp] theorem State.raise_rooms (s : State) (p : Port) (e : Event) : (s.raise p e).rooms = s.rooms := by simp [State.raise]
@[simp] theorem State.raise_claims (s : State) (p : Port) (e : Event) : (s.raise p e).claims = s.claims := by simp [State.raise]
@[simp] theorem State.raise_accounts (s : State) (p : Port) (e : Event) : (s.raise p e).accounts = s.accounts := by simp [State.raise]
@[simp] theorem State.raise_prices (s : State) (p : Port) (e : Event) : (s.raise p e).prices = s.prices := by simp [State.raise]
@[simp] theorem State.raise_reserve (s : State) (p : Port) (e : Event) : (s.raise p e).reserve = s.reserve := by simp [State.raise]
@[simp] theorem State.raise_table (s : State) (p : Port) (e : Event) : (s.raise p e).table = s.table := by simp [State.raise]
@[simp] theorem State.raise_units (s : State) (p : Port) (e : Event) : (s.raise p e).units = s.units := by simp [State.raise]
@[simp] theorem State.raise_grants (s : State) (p : Port) (e : Event) : (s.raise p e).grants = s.grants := by simp [State.raise]
@[simp] theorem State.raise_ajar (s : State) (p : Port) (e : Event) : (s.raise p e).ajar = s.ajar := by simp [State.raise]
@[simp] theorem State.raise_sessions (s : State) (p : Port) (e : Event) : (s.raise p e).sessions = s.sessions := by simp [State.raise]
@[simp] theorem State.raise_busA (s : State) (p : Port) (e : Event) : (s.raise p e).busA = s.busA := by simp [State.raise]
@[simp] theorem State.raise_busB (s : State) (p : Port) (e : Event) : (s.raise p e).busB = s.busB := by simp [State.raise]
@[simp] theorem State.raise_decision (s : State) (p : Port) (e : Event) : (s.raise p e).decision = s.decision := by simp [State.raise]
@[simp] theorem State.raise_gates (s : State) (p : Port) (e : Event) : (s.raise p e).gates = s.gates := by simp [State.raise]
@[simp] theorem State.raise_wing (s : State) (p : Port) (e : Event) : (s.raise p e).wing = s.wing := by simp [State.raise]
@[simp] theorem State.raise_log (s : State) (p : Port) (e : Event) : (s.raise p e).log = s.log := by simp [State.raise]
@[simp] theorem State.raise_port (s : State) (p : Port) (e : Event) : (s.raise p e).port p = (s.port p).queue e := by
  simp [State.raise]
@[simp] theorem State.raise_port_other (s : State) (p : Port) (e : Event) :
    (s.raise p e).port (otherPort p) = s.port (otherPort p) := by simp [State.raise]
@[simp] theorem State.raise_running (s : State) (p : Port) (e : Event) : (s.raise p e).running = s.running := by
  simp [State.raise]

/-! ## The entry log (chapter 8) -/

/-- A record handed to a log with a place for it (R170). -/
theorem EntryLog.offer_room (l : EntryLog) (r : Formed) (h : l.records.length < 4096) : l.offer r = l.store r := by
  simp [EntryLog.offer, Config.maxRecords, h]

/-- A record handed to a full log whose oldest record a HOLD cursor stands on (R171). -/
theorem EntryLog.offer_blocked (l : EntryLog) (r : Formed) (h : 4096 ≤ l.records.length) (hb : l.blocked = true) :
    l.offer r = { l with lost := countUp l.lost } := by
  simp [EntryLog.offer, Config.maxRecords, Nat.not_lt.mpr h, hb]

/-- A record handed to a full log whose oldest record no HOLD cursor stands on (R172). -/
theorem EntryLog.offer_full (l : EntryLog) (r : Formed) (h : 4096 ≤ l.records.length) (hb : l.blocked = false) :
    l.offer r = l.discard.store r := by
  simp [EntryLog.offer, Config.maxRecords, Nat.not_lt.mpr h, hb]

@[simp] theorem Reader.skip_policy (r : Reader) (seq : Nat) : (r.skip seq).policy = r.policy := by simp only [Reader.skip]; split <;> rfl
@[simp] theorem Reader.skip_threshold (r : Reader) (seq : Nat) : (r.skip seq).threshold = r.threshold := by simp only [Reader.skip]; split <;> rfl
@[simp] theorem EntryLog.discard_fo_policy (l : EntryLog) : l.discard.fo.policy = l.fo.policy := by
  simp only [EntryLog.discard]; split <;> simp
@[simp] theorem EntryLog.offer_fo_policy (l : EntryLog) (r : Formed) : (l.offer r).fo.policy = l.fo.policy := by
  simp only [EntryLog.offer]; split <;> [rfl; (split <;> simp [EntryLog.store])]
@[simp] theorem EntryLog.discard_fo_threshold (l : EntryLog) : l.discard.fo.threshold = l.fo.threshold := by
  simp only [EntryLog.discard]; split <;> simp
@[simp] theorem EntryLog.offer_fo_threshold (l : EntryLog) (r : Formed) : (l.offer r).fo.threshold = l.fo.threshold := by
  simp only [EntryLog.offer]; split <;> [rfl; (split <;> simp [EntryLog.store])]
@[simp] theorem EntryLog.discard_se_policy (l : EntryLog) : l.discard.se.policy = l.se.policy := by
  simp only [EntryLog.discard]; split <;> simp
@[simp] theorem EntryLog.offer_se_policy (l : EntryLog) (r : Formed) : (l.offer r).se.policy = l.se.policy := by
  simp only [EntryLog.offer]; split <;> [rfl; (split <;> simp [EntryLog.store])]
@[simp] theorem EntryLog.discard_se_threshold (l : EntryLog) : l.discard.se.threshold = l.se.threshold := by
  simp only [EntryLog.discard]; split <;> simp
@[simp] theorem EntryLog.offer_se_threshold (l : EntryLog) (r : Formed) : (l.offer r).se.threshold = l.se.threshold := by
  simp only [EntryLog.offer]; split <;> [rfl; (split <;> simp [EntryLog.store])]

/-- The threshold test of one port leaves everything but that port (R181). -/
theorem State.notify_cases (s : State) (before : EntryLog) (p : Port) :
    s.notify before p = s ∨ s.notify before p = s.raise p (.logThreshold (s.log.unread p)) := by
  simp only [State.notify]; split <;> simp

@[simp] theorem State.notify_pending (s : State) (before : EntryLog) (p : Port) : (s.notify before p).pending = s.pending := by
  simp only [State.notify]; split <;> simp
@[simp] theorem State.notify_power (s : State) (before : EntryLog) (p : Port) : (s.notify before p).power = s.power := by
  simp only [State.notify]; split <;> simp
@[simp] theorem State.notify_clock (s : State) (before : EntryLog) (p : Port) : (s.notify before p).clock = s.clock := by
  simp only [State.notify]; split <;> simp
@[simp] theorem State.notify_rooms (s : State) (before : EntryLog) (p : Port) : (s.notify before p).rooms = s.rooms := by
  simp only [State.notify]; split <;> simp
@[simp] theorem State.notify_claims (s : State) (before : EntryLog) (p : Port) : (s.notify before p).claims = s.claims := by
  simp only [State.notify]; split <;> simp
@[simp] theorem State.notify_accounts (s : State) (before : EntryLog) (p : Port) : (s.notify before p).accounts = s.accounts := by
  simp only [State.notify]; split <;> simp
@[simp] theorem State.notify_prices (s : State) (before : EntryLog) (p : Port) : (s.notify before p).prices = s.prices := by
  simp only [State.notify]; split <;> simp
@[simp] theorem State.notify_reserve (s : State) (before : EntryLog) (p : Port) : (s.notify before p).reserve = s.reserve := by
  simp only [State.notify]; split <;> simp
@[simp] theorem State.notify_table (s : State) (before : EntryLog) (p : Port) : (s.notify before p).table = s.table := by
  simp only [State.notify]; split <;> simp
@[simp] theorem State.notify_units (s : State) (before : EntryLog) (p : Port) : (s.notify before p).units = s.units := by
  simp only [State.notify]; split <;> simp
@[simp] theorem State.notify_grants (s : State) (before : EntryLog) (p : Port) : (s.notify before p).grants = s.grants := by
  simp only [State.notify]; split <;> simp
@[simp] theorem State.notify_ajar (s : State) (before : EntryLog) (p : Port) : (s.notify before p).ajar = s.ajar := by
  simp only [State.notify]; split <;> simp
@[simp] theorem State.notify_sessions (s : State) (before : EntryLog) (p : Port) : (s.notify before p).sessions = s.sessions := by
  simp only [State.notify]; split <;> simp
@[simp] theorem State.notify_busA (s : State) (before : EntryLog) (p : Port) : (s.notify before p).busA = s.busA := by
  simp only [State.notify]; split <;> simp
@[simp] theorem State.notify_busB (s : State) (before : EntryLog) (p : Port) : (s.notify before p).busB = s.busB := by
  simp only [State.notify]; split <;> simp
@[simp] theorem State.notify_decision (s : State) (before : EntryLog) (p : Port) : (s.notify before p).decision = s.decision := by
  simp only [State.notify]; split <;> simp
@[simp] theorem State.notify_gates (s : State) (before : EntryLog) (p : Port) : (s.notify before p).gates = s.gates := by
  simp only [State.notify]; split <;> simp
@[simp] theorem State.notify_wing (s : State) (before : EntryLog) (p : Port) : (s.notify before p).wing = s.wing := by
  simp only [State.notify]; split <;> simp
@[simp] theorem State.notify_log (s : State) (before : EntryLog) (p : Port) : (s.notify before p).log = s.log := by
  simp only [State.notify]; split <;> simp
@[simp] theorem State.notify_running (s : State) (before : EntryLog) (p : Port) :
    (s.notify before p).running = s.running := by simp only [State.notify]; split <;> simp

/-! An append changes the log, and the ports by a LOG_THRESHOLD event at most (R170, R181). -/

variable (s : State) (source : Source) (card : Option Nat) (room : Option Slot) (detail : Detail)

@[simp] theorem State.append_pending : (s.append source card room detail).pending = s.pending := by simp [State.append]
@[simp] theorem State.append_power : (s.append source card room detail).power = s.power := by simp [State.append]
@[simp] theorem State.append_clock : (s.append source card room detail).clock = s.clock := by simp [State.append]
@[simp] theorem State.append_rooms : (s.append source card room detail).rooms = s.rooms := by simp [State.append]
@[simp] theorem State.append_claims : (s.append source card room detail).claims = s.claims := by simp [State.append]
@[simp] theorem State.append_accounts : (s.append source card room detail).accounts = s.accounts := by simp [State.append]
@[simp] theorem State.append_prices : (s.append source card room detail).prices = s.prices := by simp [State.append]
@[simp] theorem State.append_reserve : (s.append source card room detail).reserve = s.reserve := by simp [State.append]
@[simp] theorem State.append_table : (s.append source card room detail).table = s.table := by simp [State.append]
@[simp] theorem State.append_units : (s.append source card room detail).units = s.units := by simp [State.append]
@[simp] theorem State.append_grants : (s.append source card room detail).grants = s.grants := by simp [State.append]
@[simp] theorem State.append_ajar : (s.append source card room detail).ajar = s.ajar := by simp [State.append]
@[simp] theorem State.append_sessions : (s.append source card room detail).sessions = s.sessions := by simp [State.append]
@[simp] theorem State.append_busA : (s.append source card room detail).busA = s.busA := by simp [State.append]
@[simp] theorem State.append_busB : (s.append source card room detail).busB = s.busB := by simp [State.append]
@[simp] theorem State.append_decision : (s.append source card room detail).decision = s.decision := by simp [State.append]
@[simp] theorem State.append_gates : (s.append source card room detail).gates = s.gates := by simp [State.append]
@[simp] theorem State.append_wing : (s.append source card room detail).wing = s.wing := by simp [State.append]
@[simp] theorem State.append_log : (s.append source card room detail).log = s.log.offer (s.form source card room detail) := by
  simp [State.append]
@[simp] theorem State.append_running : (s.append source card room detail).running = s.running := by
  simp [State.append]; rfl

/-- An append leaves every port's response slot, flags of the slot, supervision and transaction in progress. -/
theorem State.append_port (p : Port) :
    (s.append source card room detail).port p = s.port p
    ∨ ∃ n, (s.append source card room detail).port p = (s.port p).queue (.logThreshold n) := by
  unfold State.append
  generalize hl : ({ s with log := s.log.offer (s.form source card room detail) } : State) = t
  have ht : t.port p = s.port p := by subst hl; cases p <;> rfl
  rw [← ht]
  rcases t.notify_cases s.log .fo with h | h <;> rw [h] <;>
    rcases State.notify_cases _ s.log .se with h' | h' <;> rw [h'] <;> cases p <;>
    simp only [State.raise, State.port, State.setPort] <;>
    first | exact .inl trivial | exact .inl rfl | exact .inr ⟨_, rfl⟩

@[simp] theorem State.append_port_slot (p : Port) :
    ((s.append source card room detail).port p).slot = (s.port p).slot := by
  rcases s.append_port source card room detail p with h | ⟨n, h⟩ <;> simp [h]
@[simp] theorem State.append_port_overrun (p : Port) :
    ((s.append source card room detail).port p).overrun = (s.port p).overrun := by
  rcases s.append_port source card room detail p with h | ⟨n, h⟩ <;> simp [h]
@[simp] theorem State.append_port_supervised (p : Port) :
    ((s.append source card room detail).port p).supervised = (s.port p).supervised := by
  rcases s.append_port source card room detail p with h | ⟨n, h⟩ <;> simp [h]
@[simp] theorem State.append_port_interval (p : Port) :
    ((s.append source card room detail).port p).interval = (s.port p).interval := by
  rcases s.append_port source card room detail p with h | ⟨n, h⟩ <;> simp [h]
@[simp] theorem State.append_port_timer (p : Port) :
    ((s.append source card room detail).port p).timer = (s.port p).timer := by
  rcases s.append_port source card room detail p with h | ⟨n, h⟩ <;> simp [h]
@[simp] theorem State.append_port_linkLost (p : Port) :
    ((s.append source card room detail).port p).linkLost = (s.port p).linkLost := by
  rcases s.append_port source card room detail p with h | ⟨n, h⟩ <;> simp [h]
@[simp] theorem State.append_port_fixed (p : Port) :
    ((s.append source card room detail).port p).fixed = (s.port p).fixed := by
  rcases s.append_port source card room detail p with h | ⟨n, h⟩ <;> simp [h]
@[simp] theorem State.append_port_sent (p : Port) :
    ((s.append source card room detail).port p).sent = (s.port p).sent := by
  rcases s.append_port source card room detail p with h | ⟨n, h⟩ <;> simp [h]

/-! ## Responses and the station port's checks (R183 to R188, R194) -/

/-- A response placed after the bytes of its transaction were sent is what `withResponse` says. -/
theorem State.respond_sendZeros (s : State) (p : Port) (n : Nat) (st : Status) (body : List Byte) :
    (s.sendZeros p n).respond p { status := st, body := body } = s.withResponse p n st body := by
  cases p <;> simp [State.respond, State.sendZeros, State.withResponse, PortState.withAttn, PortState.attnLevel]

/-- A request taken with the port ready is answered by its own rule. -/
theorem State.takeRequest_ready {s : State} {rq : Request} {p : Port} (rule : State → Reply) (h : s.Ready rq p) :
    s.takeRequest rq p rule
      = (rule (s.sendZeros p (2 + rq.bodyLength))).1.respond p (rule (s.sendZeros p (2 + rq.bodyLength))).2 := by
  obtain ⟨hr, hs, hp, hl⟩ := h
  have hc : (s.sendZeros p (2 + rq.bodyLength)).portCheck rq p = none := by
    simp only [State.portCheck, hp, State.sendZeros, State.setPort_port]
    cases hk : (s.port p).linkLost <;> simp_all
  simp [State.takeRequest, hr, hs, State.answerRequest, hc]

/-- A request taken with the port ready whose rule refuses it changes nothing but the response. -/
theorem State.takeRequest_refused {s : State} {rq : Request} {p : Port} {rule : State → Reply} {st : Status} {body : List Byte}
    (h : s.Ready rq p)
    (hr : rule (s.sendZeros p (2 + rq.bodyLength)) = (s.sendZeros p (2 + rq.bodyLength), { status := st, body := body })) :
    s.takeRequest rq p rule = s.withAnswer rq p st body := by
  rw [State.takeRequest_ready rule h, hr]
  exact State.respond_sendZeros s p _ st body

/-- A request refused by the station port's own checks. -/
theorem State.takeRequest_checked {s : State} {rq : Request} {p : Port} {st : Status} (rule : State → Reply)
    (hr : s.running = true) (hs : (s.port p).slot = none) (hc : s.portCheck rq p = some st) :
    s.takeRequest rq p rule = s.withAnswer rq p st [] := by
  have h : (s.sendZeros p (2 + rq.bodyLength)).portCheck rq p = some st := by
    simpa [State.portCheck, State.sendZeros] using hc
  simp only [State.takeRequest, hr, hs, State.answerRequest, h]
  exact State.respond_sendZeros s p _ st []

/-- A request taken with the slot full (R184). -/
theorem State.takeRequest_full {s : State} {rq : Request} {p : Port} (rule : State → Reply) (hr : s.running = true)
    (hs : (s.port p).slot.isSome = true) :
    s.takeRequest rq p rule
      = s.setPort p { s.port p with overrun := true, sent := List.replicate (2 + rq.bodyLength) 0 } := by
  simp [State.takeRequest, hr, hs, State.overrun, State.sendZeros]

/-- No request is taken while the part does not run (R199). -/
theorem State.takeRequest_stopped {s : State} (rq : Request) (p : Port) (rule : State → Reply) (h : s.running = false) :
    s.takeRequest rq p rule = s := by simp [State.takeRequest, h]

/-! ## Fields of requests -/

@[simp] theorem slotByte_toNat (i : Slot) : (slotByte i).toNat = i.val := by
  simp only [slotByte, BitVec.toNat_ofNat]; omega

@[simp] theorem slotOf?_slotByte (i : Slot) : slotOf? (slotByte i) = some i := by
  simp [slotOf?, i.isLt]

theorem slotOf?_eq_none {b : Byte} (h : 128 ≤ b.toNat) : slotOf? b = none := by
  simp [slotOf?, Nat.not_lt.mpr h]

theorem indexOf?_ofNat (k : Fin 8) : indexOf? (BitVec.ofNat 8 k.val) = some k := by
  have : (BitVec.ofNat 8 k.val).toNat = k.val := by simp only [BitVec.toNat_ofNat]; omega
  simp [indexOf?, this, k.isLt]

theorem indexOf?_eq_none {b : Byte} (h : 7 < b.toNat) : indexOf? b = none := by
  simp [indexOf?]; omega

theorem unitOf?_bytes (u : UnitId) :
    unitOf? (BitVec.ofNat 8 (busCode (busOf u))) (BitVec.ofNat 8 (addressOf u)) = some u := by
  revert u; decide +kernel

theorem unitOf?_eq_none {b a : Byte} (h : (b ≠ 1 ∧ b ≠ 2) ∨ a.toNat = 0 ∨ 120 < a.toNat) : unitOf? b a = none := by
  unfold unitOf? busOf?
  rcases h with ⟨h1, h2⟩ | h
  · rw [if_neg h1, if_neg h2]; rfl
  · have : ∀ line, unitAt? line a.toNat = none := fun line => by simp [unitAt?]; omega
    split <;> [simp [this]; (split <;> simp [this])]

/-! ## Claims (R24, R34) -/

/-- A claimed request that passes the first three checks of R24 runs its own rule, and an OK answer renews the lease. -/
theorem claimed_held {p : Port} {i : Slot} {s : State} (rule : Slot → State → Reply) (h : s.holder i = some p) :
    claimed p (slotByte i) true rule s = renewing p i (rule i s) := by
  simp [claimed, h]

theorem claimed_notHeld {p : Port} {i : Slot} {s : State} (rule : Slot → State → Reply) (h : s.holder i ≠ some p) :
    claimed p (slotByte i) true rule s = refuse .notClaimed s := by
  simp [claimed, h]

theorem claimed_badField {p : Port} {slot : Byte} {s : State} (rule : Slot → State → Reply) :
    claimed p slot false rule s = refuse .badValue s := by
  unfold claimed; split <;> simp

theorem claimed_badSlot {p : Port} {slot : Byte} {s : State} (ok : Bool) (rule : Slot → State → Reply) (h : 128 ≤ slot.toNat) :
    claimed p slot ok rule s = refuse .badValue s := by
  simp [claimed, slotOf?_eq_none h]

theorem renewing_accept (p : Port) (i : Slot) (s : State) (body : List Byte) :
    renewing p i (accept s body) = (s.setClaim i (some { holder := p, lease := 120 }), { status := .ok, body := body }) := rfl

theorem renewing_refuse (p : Port) (i : Slot) (s : State) {st : Status} (h : st ≠ .ok) :
    renewing p i (refuse st s) = refuse st s := by simp [renewing, refuse, h]

@[simp] theorem State.sendZeros_holder (s : State) (p : Port) (n : Nat) (i : Slot) :
    (s.sendZeros p n).holder i = s.holder i := by simp [State.holder, State.sendZeros]

@[simp] theorem State.raise_holder (s : State) (p : Port) (e : Event) (i : Slot) : (s.raise p e).holder i = s.holder i := by
  simp [State.holder]

@[simp] theorem State.append_holder (i : Slot) : (s.append source card room detail).holder i = s.holder i := by
  simp [State.holder]

/-! ## Elapsed timers (R10) -/

@[simp] theorem State.tickTimers_pending : s.tickTimers.pending = s.pending := rfl
@[simp] theorem State.tickTimers_power : s.tickTimers.power = s.power := rfl
@[simp] theorem State.tickTimers_clock : s.tickTimers.clock = s.clock := rfl
@[simp] theorem State.tickTimers_rooms : s.tickTimers.rooms = s.rooms := rfl
@[simp] theorem State.tickTimers_accounts : s.tickTimers.accounts = s.accounts := rfl
@[simp] theorem State.tickTimers_prices : s.tickTimers.prices = s.prices := rfl
@[simp] theorem State.tickTimers_reserve : s.tickTimers.reserve = s.reserve := rfl
@[simp] theorem State.tickTimers_table : s.tickTimers.table = s.table := rfl
@[simp] theorem State.tickTimers_units : s.tickTimers.units = s.units := rfl
@[simp] theorem State.tickTimers_busA : s.tickTimers.busA = s.busA := rfl
@[simp] theorem State.tickTimers_busB : s.tickTimers.busB = s.busB := rfl
@[simp] theorem State.tickTimers_decision : s.tickTimers.decision = s.decision := rfl
@[simp] theorem State.tickTimers_wing : s.tickTimers.wing = s.wing := rfl
@[simp] theorem State.tickTimers_log : s.tickTimers.log = s.log := rfl

end Sys2Proof.Machine
end

