-- ==== Sys2Proof/Laws/Blocks.lean ====
section
/-! SUPPORT. What the operations shared by the blocks can do: the fields each leaves as they were, and its cases, said once so that
no proof unfolds them. -/

namespace Sys2Proof.Machine

open Sys2Proof

/-! ## Gates (R152, R156) -/

@[simp] theorem State.setOutputs_frame (s : State)  :
    (s.setOutputs).pending = s.pending ∧ (s.setOutputs).power = s.power ∧ (s.setOutputs).clock = s.clock
    ∧ (s.setOutputs).rooms = s.rooms ∧ (s.setOutputs).claims = s.claims ∧ (s.setOutputs).accounts = s.accounts
    ∧ (s.setOutputs).prices = s.prices ∧ (s.setOutputs).reserve = s.reserve ∧ (s.setOutputs).table = s.table
    ∧ (s.setOutputs).units = s.units ∧ (s.setOutputs).grants = s.grants ∧ (s.setOutputs).ajar = s.ajar
    ∧ (s.setOutputs).sessions = s.sessions ∧ (s.setOutputs).busA = s.busA ∧ (s.setOutputs).busB = s.busB
    ∧ (s.setOutputs).decision = s.decision ∧ (s.setOutputs).wing = s.wing ∧ (s.setOutputs).log = s.log
    ∧ (s.setOutputs).fo = s.fo ∧ (s.setOutputs).se = s.se := ⟨rfl, rfl, rfl, rfl, rfl, rfl, rfl, rfl, rfl, rfl, rfl, rfl, rfl, rfl, rfl, rfl, rfl, rfl, rfl, rfl⟩

@[simp] theorem State.setOutputs_gates_enabled (s : State) : s.setOutputs.gates.enabled = s.gates.enabled := rfl
@[simp] theorem State.setOutputs_gates_exposed (s : State) : s.setOutputs.gates.exposed = s.gates.exposed := rfl
@[simp] theorem State.setOutputs_gates_schedule (s : State) : s.setOutputs.gates.schedule = s.gates.schedule := rfl
@[simp] theorem State.setOutputs_gates_scheduled (s : State) : s.setOutputs.gates.scheduled = s.gates.scheduled := rfl
@[simp] theorem State.setOutputs_gates_lastWorking (s : State) : s.setOutputs.gates.lastWorking = s.gates.lastWorking := rfl
@[simp] theorem State.setOutputs_gates_pulses (s : State) : s.setOutputs.gates.pulses = s.gates.pulses := rfl

/-- After the outputs are set, each is the output function's (R156). -/
theorem State.setOutputs_outputs (s : State) (g : Gate) :
    s.setOutputs.gates.outputs[g] = outputLevel s.setOutputs.gates s.wing.mode g := by
  simp [State.setOutputs, Gates.applyOutputs]; rfl

@[simp] theorem State.workLevels_frame (s : State)  :
    (s.workLevels).pending = s.pending ∧ (s.workLevels).power = s.power ∧ (s.workLevels).clock = s.clock
    ∧ (s.workLevels).rooms = s.rooms ∧ (s.workLevels).claims = s.claims ∧ (s.workLevels).accounts = s.accounts
    ∧ (s.workLevels).prices = s.prices ∧ (s.workLevels).reserve = s.reserve ∧ (s.workLevels).table = s.table
    ∧ (s.workLevels).units = s.units ∧ (s.workLevels).grants = s.grants ∧ (s.workLevels).ajar = s.ajar
    ∧ (s.workLevels).sessions = s.sessions ∧ (s.workLevels).busA = s.busA ∧ (s.workLevels).busB = s.busB
    ∧ (s.workLevels).decision = s.decision ∧ (s.workLevels).wing = s.wing ∧ (s.workLevels).log = s.log
    ∧ (s.workLevels).fo = s.fo ∧ (s.workLevels).se = s.se := ⟨rfl, rfl, rfl, rfl, rfl, rfl, rfl, rfl, rfl, rfl, rfl, rfl, rfl, rfl, rfl, rfl, rfl, rfl, rfl, rfl⟩

@[simp] theorem State.workLevels_gates_enabled (s : State) : s.workLevels.gates.enabled = s.gates.enabled := rfl
@[simp] theorem State.workLevels_gates_exposed (s : State) : s.workLevels.gates.exposed = s.gates.exposed := rfl
@[simp] theorem State.workLevels_gates_schedule (s : State) : s.workLevels.gates.schedule = s.gates.schedule := rfl
@[simp] theorem State.workLevels_gates_pulses (s : State) : s.workLevels.gates.pulses = s.gates.pulses := rfl
@[simp] theorem State.loadPulse_frame (s : State) (g : Gate) (unlock : Nat) (evac : Bool) :
    ((s.loadPulse g unlock evac).1).pending = s.pending ∧ ((s.loadPulse g unlock evac).1).power = s.power
    ∧ ((s.loadPulse g unlock evac).1).clock = s.clock ∧ ((s.loadPulse g unlock evac).1).rooms = s.rooms
    ∧ ((s.loadPulse g unlock evac).1).claims = s.claims ∧ ((s.loadPulse g unlock evac).1).accounts = s.accounts
    ∧ ((s.loadPulse g unlock evac).1).prices = s.prices ∧ ((s.loadPulse g unlock evac).1).reserve = s.reserve
    ∧ ((s.loadPulse g unlock evac).1).table = s.table ∧ ((s.loadPulse g unlock evac).1).units = s.units
    ∧ ((s.loadPulse g unlock evac).1).grants = s.grants ∧ ((s.loadPulse g unlock evac).1).ajar = s.ajar
    ∧ ((s.loadPulse g unlock evac).1).sessions = s.sessions ∧ ((s.loadPulse g unlock evac).1).busA = s.busA
    ∧ ((s.loadPulse g unlock evac).1).busB = s.busB ∧ ((s.loadPulse g unlock evac).1).decision = s.decision
    ∧ ((s.loadPulse g unlock evac).1).wing = s.wing ∧ ((s.loadPulse g unlock evac).1).log = s.log
    ∧ ((s.loadPulse g unlock evac).1).fo = s.fo ∧ ((s.loadPulse g unlock evac).1).se = s.se := by
  simp only [State.loadPulse]; split <;> simp


/-! ## Minibar sessions (R136, R137) -/

theorem State.endSession_none {s : State} {u : UnitId} (reason : EndReason) (h : s.sessions[u] = none) :
    s.endSession u reason = s := by simp only [State.endSession, h]

@[simp] theorem State.endSession_frame (s : State) (u : UnitId) (reason : EndReason) :
    (s.endSession u reason).pending = s.pending ∧ (s.endSession u reason).clock = s.clock
    ∧ (s.endSession u reason).rooms = s.rooms ∧ (s.endSession u reason).claims = s.claims
    ∧ (s.endSession u reason).accounts = s.accounts ∧ (s.endSession u reason).prices = s.prices
    ∧ (s.endSession u reason).reserve = s.reserve ∧ (s.endSession u reason).table = s.table
    ∧ (s.endSession u reason).units = s.units ∧ (s.endSession u reason).grants = s.grants
    ∧ (s.endSession u reason).ajar = s.ajar ∧ (s.endSession u reason).busA = s.busA ∧ (s.endSession u reason).busB = s.busB
    ∧ (s.endSession u reason).decision = s.decision ∧ (s.endSession u reason).gates = s.gates
    ∧ (s.endSession u reason).wing = s.wing := by
  simp only [State.endSession]; split <;> simp

@[simp] theorem State.endSessionRelock_frame (s : State) (u : UnitId) (reason : EndReason) :
    (s.endSessionRelock u reason).pending = s.pending ∧ (s.endSessionRelock u reason).clock = s.clock
    ∧ (s.endSessionRelock u reason).rooms = s.rooms ∧ (s.endSessionRelock u reason).claims = s.claims
    ∧ (s.endSessionRelock u reason).accounts = s.accounts ∧ (s.endSessionRelock u reason).prices = s.prices
    ∧ (s.endSessionRelock u reason).reserve = s.reserve ∧ (s.endSessionRelock u reason).table = s.table
    ∧ (s.endSessionRelock u reason).grants = s.grants ∧ (s.endSessionRelock u reason).ajar = s.ajar
    ∧ (s.endSessionRelock u reason).busA = s.busA ∧ (s.endSessionRelock u reason).busB = s.busB
    ∧ (s.endSessionRelock u reason).decision = s.decision ∧ (s.endSessionRelock u reason).gates = s.gates
    ∧ (s.endSessionRelock u reason).wing = s.wing := by
  simp only [State.endSessionRelock]; split <;> simp [State.setRelock]

@[simp] theorem State.endUnopened_frame (s : State) (u : UnitId) :
    (s.endUnopened u).pending = s.pending ∧ (s.endUnopened u).clock = s.clock ∧ (s.endUnopened u).rooms = s.rooms
    ∧ (s.endUnopened u).claims = s.claims ∧ (s.endUnopened u).accounts = s.accounts ∧ (s.endUnopened u).prices = s.prices
    ∧ (s.endUnopened u).reserve = s.reserve ∧ (s.endUnopened u).table = s.table ∧ (s.endUnopened u).units = s.units
    ∧ (s.endUnopened u).grants = s.grants ∧ (s.endUnopened u).ajar = s.ajar ∧ (s.endUnopened u).busA = s.busA
    ∧ (s.endUnopened u).busB = s.busB ∧ (s.endUnopened u).decision = s.decision ∧ (s.endUnopened u).gates = s.gates
    ∧ (s.endUnopened u).wing = s.wing := by
  simp only [State.endUnopened]; split <;> [(split <;> simp); simp]

@[simp] theorem State.grantSession_frame (s : State) (u : UnitId) (card : Nat) (guest : Bool) (slot : Slot) (expiry : Nat) :
    (s.grantSession u card guest slot expiry).pending = s.pending ∧ (s.grantSession u card guest slot expiry).clock = s.clock
    ∧ (s.grantSession u card guest slot expiry).rooms = s.rooms ∧ (s.grantSession u card guest slot expiry).claims = s.claims
    ∧ (s.grantSession u card guest slot expiry).accounts = s.accounts
    ∧ (s.grantSession u card guest slot expiry).prices = s.prices
    ∧ (s.grantSession u card guest slot expiry).reserve = s.reserve
    ∧ (s.grantSession u card guest slot expiry).table = s.table ∧ (s.grantSession u card guest slot expiry).units = s.units
    ∧ (s.grantSession u card guest slot expiry).grants = s.grants ∧ (s.grantSession u card guest slot expiry).ajar = s.ajar
    ∧ (s.grantSession u card guest slot expiry).busA = s.busA ∧ (s.grantSession u card guest slot expiry).busB = s.busB
    ∧ (s.grantSession u card guest slot expiry).decision = s.decision
    ∧ (s.grantSession u card guest slot expiry).gates = s.gates ∧ (s.grantSession u card guest slot expiry).wing = s.wing
    ∧ (s.grantSession u card guest slot expiry).log = s.log ∧ (s.grantSession u card guest slot expiry).fo = s.fo
    ∧ (s.grantSession u card guest slot expiry).se = s.se := by
  simp only [State.grantSession]; split <;> [simp; (split <;> simp)]

@[simp] theorem State.raiseOverdraft_frame (s : State) (i : Slot) (arose : Bool) :
    (s.raiseOverdraft i arose).pending = s.pending ∧ (s.raiseOverdraft i arose).power = s.power
    ∧ (s.raiseOverdraft i arose).clock = s.clock ∧ (s.raiseOverdraft i arose).rooms = s.rooms
    ∧ (s.raiseOverdraft i arose).claims = s.claims ∧ (s.raiseOverdraft i arose).accounts = s.accounts
    ∧ (s.raiseOverdraft i arose).prices = s.prices ∧ (s.raiseOverdraft i arose).reserve = s.reserve
    ∧ (s.raiseOverdraft i arose).table = s.table ∧ (s.raiseOverdraft i arose).units = s.units
    ∧ (s.raiseOverdraft i arose).grants = s.grants ∧ (s.raiseOverdraft i arose).ajar = s.ajar
    ∧ (s.raiseOverdraft i arose).sessions = s.sessions ∧ (s.raiseOverdraft i arose).busA = s.busA
    ∧ (s.raiseOverdraft i arose).busB = s.busB ∧ (s.raiseOverdraft i arose).decision = s.decision
    ∧ (s.raiseOverdraft i arose).gates = s.gates ∧ (s.raiseOverdraft i arose).wing = s.wing
    ∧ (s.raiseOverdraft i arose).log = s.log := by
  simp only [State.raiseOverdraft]; split <;> simp


/-! ## Item reports (R141 to R143) -/

@[simp] theorem State.restockItems_frame (s : State) (u : UnitId) (x : Session) (item : Fin 12) (n m : Nat) :
    (s.restockItems u x item n m).pending = s.pending ∧ (s.restockItems u x item n m).power = s.power
    ∧ (s.restockItems u x item n m).clock = s.clock ∧ (s.restockItems u x item n m).rooms = s.rooms
    ∧ (s.restockItems u x item n m).claims = s.claims ∧ (s.restockItems u x item n m).accounts = s.accounts
    ∧ (s.restockItems u x item n m).prices = s.prices ∧ (s.restockItems u x item n m).reserve = s.reserve
    ∧ (s.restockItems u x item n m).table = s.table ∧ (s.restockItems u x item n m).units = s.units
    ∧ (s.restockItems u x item n m).grants = s.grants ∧ (s.restockItems u x item n m).ajar = s.ajar
    ∧ (s.restockItems u x item n m).sessions = s.sessions ∧ (s.restockItems u x item n m).busA = s.busA
    ∧ (s.restockItems u x item n m).busB = s.busB ∧ (s.restockItems u x item n m).decision = s.decision
    ∧ (s.restockItems u x item n m).gates = s.gates ∧ (s.restockItems u x item n m).wing = s.wing := by
  simp only [State.restockItems]; split <;> simp

@[simp] theorem State.looseItems_frame (s : State) (u : UnitId) (i : Slot) (item : Fin 12) (n m : Nat) :
    (s.looseItems u i item n m).pending = s.pending ∧ (s.looseItems u i item n m).power = s.power
    ∧ (s.looseItems u i item n m).clock = s.clock ∧ (s.looseItems u i item n m).rooms = s.rooms
    ∧ (s.looseItems u i item n m).claims = s.claims ∧ (s.looseItems u i item n m).prices = s.prices
    ∧ (s.looseItems u i item n m).reserve = s.reserve ∧ (s.looseItems u i item n m).table = s.table
    ∧ (s.looseItems u i item n m).units = s.units ∧ (s.looseItems u i item n m).grants = s.grants
    ∧ (s.looseItems u i item n m).ajar = s.ajar ∧ (s.looseItems u i item n m).sessions = s.sessions
    ∧ (s.looseItems u i item n m).busA = s.busA ∧ (s.looseItems u i item n m).busB = s.busB
    ∧ (s.looseItems u i item n m).decision = s.decision ∧ (s.looseItems u i item n m).gates = s.gates
    ∧ (s.looseItems u i item n m).wing = s.wing := by
  simp only [State.looseItems]; split <;> [(split <;> simp); simp]

@[simp] theorem State.guestItems_frame (s : State) (u : UnitId) (x : Session) (item : Fin 12) (n m : Nat) :
    (s.guestItems u x item n m).pending = s.pending ∧ (s.guestItems u x item n m).power = s.power
    ∧ (s.guestItems u x item n m).clock = s.clock ∧ (s.guestItems u x item n m).rooms = s.rooms
    ∧ (s.guestItems u x item n m).claims = s.claims ∧ (s.guestItems u x item n m).prices = s.prices
    ∧ (s.guestItems u x item n m).reserve = s.reserve ∧ (s.guestItems u x item n m).table = s.table
    ∧ (s.guestItems u x item n m).units = s.units ∧ (s.guestItems u x item n m).grants = s.grants
    ∧ (s.guestItems u x item n m).ajar = s.ajar ∧ (s.guestItems u x item n m).busA = s.busA
    ∧ (s.guestItems u x item n m).busB = s.busB ∧ (s.guestItems u x item n m).decision = s.decision
    ∧ (s.guestItems u x item n m).gates = s.gates ∧ (s.guestItems u x item n m).wing = s.wing := by
  simp only [State.guestItems]; split <;> split <;> simp

@[simp] theorem State.reportItems_frame (s : State) (u : UnitId) (i : Slot) (item : Fin 12) (n m : Nat) :
    (s.reportItems u i item n m).pending = s.pending ∧ (s.reportItems u i item n m).power = s.power
    ∧ (s.reportItems u i item n m).clock = s.clock ∧ (s.reportItems u i item n m).rooms = s.rooms
    ∧ (s.reportItems u i item n m).claims = s.claims ∧ (s.reportItems u i item n m).prices = s.prices
    ∧ (s.reportItems u i item n m).reserve = s.reserve ∧ (s.reportItems u i item n m).table = s.table
    ∧ (s.reportItems u i item n m).units = s.units ∧ (s.reportItems u i item n m).grants = s.grants
    ∧ (s.reportItems u i item n m).ajar = s.ajar ∧ (s.reportItems u i item n m).busA = s.busA
    ∧ (s.reportItems u i item n m).busB = s.busB ∧ (s.reportItems u i item n m).decision = s.decision
    ∧ (s.reportItems u i item n m).gates = s.gates ∧ (s.reportItems u i item n m).wing = s.wing := by
  simp only [State.reportItems]; split <;> [simp; (split <;> simp)]


/-! ## Pending grants (R113, R120) -/

theorem State.concludeGrant_none {s : State} {u : UnitId} (detail : Grant → Detail) (h : s.grants[u] = none) :
    s.concludeGrant u detail = s := by simp only [State.concludeGrant, h]

theorem State.concludeGrant_some {s : State} {u : UnitId} {g : Grant} (detail : Grant → Detail) (h : s.grants[u] = some g) :
    s.concludeGrant u detail
      = ({ s with grants := s.grants.set u none, power := { s.power with grantTally := s.power.grantTally - 1 } }).append (.unit u)
          g.card s.units[u].kind.slot? (detail g) := by
  simp only [State.concludeGrant, h]; rfl

@[simp] theorem State.concludeGrant_frame (s : State) (u : UnitId) (detail : Grant → Detail) :
    (s.concludeGrant u detail).pending = s.pending ∧ (s.concludeGrant u detail).clock = s.clock
    ∧ (s.concludeGrant u detail).rooms = s.rooms ∧ (s.concludeGrant u detail).claims = s.claims
    ∧ (s.concludeGrant u detail).accounts = s.accounts ∧ (s.concludeGrant u detail).prices = s.prices
    ∧ (s.concludeGrant u detail).reserve = s.reserve ∧ (s.concludeGrant u detail).table = s.table
    ∧ (s.concludeGrant u detail).units = s.units ∧ (s.concludeGrant u detail).ajar = s.ajar
    ∧ (s.concludeGrant u detail).sessions = s.sessions ∧ (s.concludeGrant u detail).busA = s.busA
    ∧ (s.concludeGrant u detail).busB = s.busB ∧ (s.concludeGrant u detail).decision = s.decision
    ∧ (s.concludeGrant u detail).gates = s.gates ∧ (s.concludeGrant u detail).wing = s.wing := by
  simp only [State.concludeGrant]; split <;> simp [State.appendUnit]

@[simp] theorem State.concludeEntry_frame (s : State) (u : UnitId) :
    (s.concludeEntry u).pending = s.pending ∧ (s.concludeEntry u).clock = s.clock ∧ (s.concludeEntry u).rooms = s.rooms
    ∧ (s.concludeEntry u).claims = s.claims ∧ (s.concludeEntry u).accounts = s.accounts
    ∧ (s.concludeEntry u).prices = s.prices ∧ (s.concludeEntry u).reserve = s.reserve ∧ (s.concludeEntry u).table = s.table
    ∧ (s.concludeEntry u).units = s.units ∧ (s.concludeEntry u).ajar = s.ajar ∧ (s.concludeEntry u).sessions = s.sessions
    ∧ (s.concludeEntry u).busA = s.busA ∧ (s.concludeEntry u).busB = s.busB ∧ (s.concludeEntry u).decision = s.decision
    ∧ (s.concludeEntry u).gates = s.gates ∧ (s.concludeEntry u).wing = s.wing := by simp [State.concludeEntry]

@[simp] theorem State.concludeUnused_frame (s : State) (u : UnitId) :
    (s.concludeUnused u).pending = s.pending ∧ (s.concludeUnused u).clock = s.clock ∧ (s.concludeUnused u).rooms = s.rooms
    ∧ (s.concludeUnused u).claims = s.claims ∧ (s.concludeUnused u).accounts = s.accounts
    ∧ (s.concludeUnused u).prices = s.prices ∧ (s.concludeUnused u).reserve = s.reserve
    ∧ (s.concludeUnused u).table = s.table ∧ (s.concludeUnused u).units = s.units ∧ (s.concludeUnused u).ajar = s.ajar
    ∧ (s.concludeUnused u).sessions = s.sessions ∧ (s.concludeUnused u).busA = s.busA ∧ (s.concludeUnused u).busB = s.busB
    ∧ (s.concludeUnused u).decision = s.decision ∧ (s.concludeUnused u).gates = s.gates ∧ (s.concludeUnused u).wing = s.wing := by simp [State.concludeUnused]

@[simp] theorem State.concludeCut_frame (s : State) (u : UnitId) (cause : CutCause) :
    (s.concludeCut u cause).pending = s.pending ∧ (s.concludeCut u cause).clock = s.clock
    ∧ (s.concludeCut u cause).rooms = s.rooms ∧ (s.concludeCut u cause).claims = s.claims
    ∧ (s.concludeCut u cause).accounts = s.accounts ∧ (s.concludeCut u cause).prices = s.prices
    ∧ (s.concludeCut u cause).reserve = s.reserve ∧ (s.concludeCut u cause).table = s.table
    ∧ (s.concludeCut u cause).units = s.units ∧ (s.concludeCut u cause).ajar = s.ajar
    ∧ (s.concludeCut u cause).sessions = s.sessions ∧ (s.concludeCut u cause).busA = s.busA
    ∧ (s.concludeCut u cause).busB = s.busB ∧ (s.concludeCut u cause).decision = s.decision
    ∧ (s.concludeCut u cause).gates = s.gates ∧ (s.concludeCut u cause).wing = s.wing := by simp [State.concludeCut]

@[simp] theorem State.concludeReplaced_frame (s : State) (u : UnitId) :
    (s.concludeReplaced u).pending = s.pending ∧ (s.concludeReplaced u).clock = s.clock
    ∧ (s.concludeReplaced u).rooms = s.rooms ∧ (s.concludeReplaced u).claims = s.claims
    ∧ (s.concludeReplaced u).accounts = s.accounts ∧ (s.concludeReplaced u).prices = s.prices
    ∧ (s.concludeReplaced u).reserve = s.reserve ∧ (s.concludeReplaced u).table = s.table
    ∧ (s.concludeReplaced u).units = s.units ∧ (s.concludeReplaced u).ajar = s.ajar
    ∧ (s.concludeReplaced u).sessions = s.sessions ∧ (s.concludeReplaced u).busA = s.busA
    ∧ (s.concludeReplaced u).busB = s.busB ∧ (s.concludeReplaced u).decision = s.decision
    ∧ (s.concludeReplaced u).gates = s.gates ∧ (s.concludeReplaced u).wing = s.wing := by simp [State.concludeReplaced]

@[simp] theorem State.createGrant_frame (s : State) (u : UnitId) (card : Option Nat) (guest : Bool) (n : Nat) (evac : Bool) :
    (s.createGrant u card guest n evac).pending = s.pending ∧ (s.createGrant u card guest n evac).clock = s.clock
    ∧ (s.createGrant u card guest n evac).rooms = s.rooms ∧ (s.createGrant u card guest n evac).claims = s.claims
    ∧ (s.createGrant u card guest n evac).accounts = s.accounts ∧ (s.createGrant u card guest n evac).prices = s.prices
    ∧ (s.createGrant u card guest n evac).reserve = s.reserve ∧ (s.createGrant u card guest n evac).table = s.table
    ∧ (s.createGrant u card guest n evac).units = s.units ∧ (s.createGrant u card guest n evac).ajar = s.ajar
    ∧ (s.createGrant u card guest n evac).busA = s.busA ∧ (s.createGrant u card guest n evac).busB = s.busB
    ∧ (s.createGrant u card guest n evac).decision = s.decision ∧ (s.createGrant u card guest n evac).wing = s.wing := by
  simp only [State.createGrant]; split <;> split <;> simp

@[simp] theorem State.acknowledge_frame (s : State) (u : UnitId) :
    (s.acknowledge u).pending = s.pending ∧ (s.acknowledge u).power = s.power ∧ (s.acknowledge u).clock = s.clock
    ∧ (s.acknowledge u).rooms = s.rooms ∧ (s.acknowledge u).claims = s.claims ∧ (s.acknowledge u).accounts = s.accounts
    ∧ (s.acknowledge u).prices = s.prices ∧ (s.acknowledge u).reserve = s.reserve ∧ (s.acknowledge u).table = s.table
    ∧ (s.acknowledge u).units = s.units ∧ (s.acknowledge u).ajar = s.ajar ∧ (s.acknowledge u).sessions = s.sessions
    ∧ (s.acknowledge u).busA = s.busA ∧ (s.acknowledge u).busB = s.busB ∧ (s.acknowledge u).decision = s.decision
    ∧ (s.acknowledge u).gates = s.gates ∧ (s.acknowledge u).wing = s.wing ∧ (s.acknowledge u).log = s.log
    ∧ (s.acknowledge u).fo = s.fo ∧ (s.acknowledge u).se = s.se := by simp only [State.acknowledge]; split <;> simp


/-! ## Units (R87 to R89, R98) -/

@[simp] theorem State.miss_frame (s : State) (u : UnitId) :
    (s.miss u).pending = s.pending ∧ (s.miss u).power = s.power ∧ (s.miss u).clock = s.clock ∧ (s.miss u).rooms = s.rooms
    ∧ (s.miss u).claims = s.claims ∧ (s.miss u).accounts = s.accounts ∧ (s.miss u).prices = s.prices
    ∧ (s.miss u).reserve = s.reserve ∧ (s.miss u).table = s.table ∧ (s.miss u).grants = s.grants ∧ (s.miss u).ajar = s.ajar
    ∧ (s.miss u).sessions = s.sessions ∧ (s.miss u).busA = s.busA ∧ (s.miss u).busB = s.busB
    ∧ (s.miss u).decision = s.decision ∧ (s.miss u).gates = s.gates ∧ (s.miss u).wing = s.wing := by
  simp only [State.miss]; split <;> [skip; try split] <;> simp [State.appendUnit]

@[simp] theorem State.answered_frame (s : State) (u : UnitId) :
    (s.answered u).pending = s.pending ∧ (s.answered u).power = s.power ∧ (s.answered u).clock = s.clock
    ∧ (s.answered u).rooms = s.rooms ∧ (s.answered u).claims = s.claims ∧ (s.answered u).accounts = s.accounts
    ∧ (s.answered u).prices = s.prices ∧ (s.answered u).reserve = s.reserve ∧ (s.answered u).table = s.table
    ∧ (s.answered u).grants = s.grants ∧ (s.answered u).ajar = s.ajar ∧ (s.answered u).sessions = s.sessions
    ∧ (s.answered u).busA = s.busA ∧ (s.answered u).busB = s.busB ∧ (s.answered u).decision = s.decision
    ∧ (s.answered u).gates = s.gates ∧ (s.answered u).wing = s.wing := by
  simp only [State.answered]; split <;> [skip; try split] <;> simp [State.appendUnit]

@[simp] theorem State.misread_frame (s : State) (u : UnitId) (side : Side) :
    (s.misread u side).pending = s.pending ∧ (s.misread u side).power = s.power ∧ (s.misread u side).clock = s.clock
    ∧ (s.misread u side).rooms = s.rooms ∧ (s.misread u side).claims = s.claims ∧ (s.misread u side).accounts = s.accounts
    ∧ (s.misread u side).prices = s.prices ∧ (s.misread u side).reserve = s.reserve ∧ (s.misread u side).table = s.table
    ∧ (s.misread u side).grants = s.grants ∧ (s.misread u side).ajar = s.ajar ∧ (s.misread u side).sessions = s.sessions
    ∧ (s.misread u side).busA = s.busA ∧ (s.misread u side).busB = s.busB ∧ (s.misread u side).decision = s.decision
    ∧ (s.misread u side).gates = s.gates ∧ (s.misread u side).wing = s.wing := by
  simp only [State.misread]; split <;> simp [State.setMisreads, State.appendUnit]

@[simp] theorem State.tamper_frame (s : State) (u : UnitId) :
    (s.tamper u).pending = s.pending ∧ (s.tamper u).clock = s.clock ∧ (s.tamper u).rooms = s.rooms
    ∧ (s.tamper u).claims = s.claims ∧ (s.tamper u).accounts = s.accounts ∧ (s.tamper u).prices = s.prices
    ∧ (s.tamper u).reserve = s.reserve ∧ (s.tamper u).table = s.table ∧ (s.tamper u).ajar = s.ajar
    ∧ (s.tamper u).busA = s.busA ∧ (s.tamper u).busB = s.busB ∧ (s.tamper u).decision = s.decision
    ∧ (s.tamper u).gates = s.gates ∧ (s.tamper u).wing = s.wing := by
  simp [State.tamper, State.setRelock, State.appendUnit]


/-! ## Decisions and reports (R96 to R106, R122 to R126) -/

@[simp] theorem State.carryOut_frame (s : State) (u : UnitId) (side : Side) (r : Ruling) :
    ((s.carryOut u side r).1).pending = s.pending ∧ ((s.carryOut u side r).1).clock = s.clock
    ∧ ((s.carryOut u side r).1).rooms = s.rooms ∧ ((s.carryOut u side r).1).claims = s.claims
    ∧ ((s.carryOut u side r).1).accounts = s.accounts ∧ ((s.carryOut u side r).1).prices = s.prices
    ∧ ((s.carryOut u side r).1).reserve = s.reserve ∧ ((s.carryOut u side r).1).table = s.table
    ∧ ((s.carryOut u side r).1).ajar = s.ajar ∧ ((s.carryOut u side r).1).busA = s.busA
    ∧ ((s.carryOut u side r).1).busB = s.busB ∧ ((s.carryOut u side r).1).decision = s.decision
    ∧ ((s.carryOut u side r).1).wing = s.wing := by
  cases r <;> simp only [State.carryOut] <;> (try split) <;> simp [State.setMisreads, State.appendUnit]

@[simp] theorem State.present_frame (s : State) (u : UnitId) (side : Side) (image : CardImage) :
    ((s.present u side image).1).pending = s.pending ∧ ((s.present u side image).1).clock = s.clock
    ∧ ((s.present u side image).1).rooms = s.rooms ∧ ((s.present u side image).1).claims = s.claims
    ∧ ((s.present u side image).1).accounts = s.accounts ∧ ((s.present u side image).1).prices = s.prices
    ∧ ((s.present u side image).1).reserve = s.reserve ∧ ((s.present u side image).1).table = s.table
    ∧ ((s.present u side image).1).ajar = s.ajar ∧ ((s.present u side image).1).busA = s.busA
    ∧ ((s.present u side image).1).busB = s.busB ∧ ((s.present u side image).1).decision = s.decision
    ∧ ((s.present u side image).1).wing = s.wing := by simp [State.present]

@[simp] theorem State.entranceOpened_frame (s : State) (u : UnitId) :
    (s.entranceOpened u).pending = s.pending ∧ (s.entranceOpened u).power = s.power ∧ (s.entranceOpened u).clock = s.clock
    ∧ (s.entranceOpened u).rooms = s.rooms ∧ (s.entranceOpened u).claims = s.claims
    ∧ (s.entranceOpened u).accounts = s.accounts ∧ (s.entranceOpened u).prices = s.prices
    ∧ (s.entranceOpened u).reserve = s.reserve ∧ (s.entranceOpened u).table = s.table
    ∧ (s.entranceOpened u).grants = s.grants ∧ (s.entranceOpened u).sessions = s.sessions
    ∧ (s.entranceOpened u).busA = s.busA ∧ (s.entranceOpened u).busB = s.busB ∧ (s.entranceOpened u).decision = s.decision
    ∧ (s.entranceOpened u).gates = s.gates ∧ (s.entranceOpened u).wing = s.wing ∧ (s.entranceOpened u).log = s.log
    ∧ (s.entranceOpened u).fo = s.fo ∧ (s.entranceOpened u).se = s.se := by
  simp [State.entranceOpened]

@[simp] theorem State.decideOpened_frame (s : State) (u : UnitId) (released : Bool) :
    (s.decideOpened u released).pending = s.pending ∧ (s.decideOpened u released).clock = s.clock
    ∧ (s.decideOpened u released).rooms = s.rooms ∧ (s.decideOpened u released).claims = s.claims
    ∧ (s.decideOpened u released).accounts = s.accounts ∧ (s.decideOpened u released).prices = s.prices
    ∧ (s.decideOpened u released).reserve = s.reserve ∧ (s.decideOpened u released).table = s.table
    ∧ (s.decideOpened u released).sessions = s.sessions ∧ (s.decideOpened u released).busA = s.busA
    ∧ (s.decideOpened u released).busB = s.busB ∧ (s.decideOpened u released).decision = s.decision
    ∧ (s.decideOpened u released).gates = s.gates ∧ (s.decideOpened u released).wing = s.wing := by
  cases released
  · simp only [State.decideOpened]; rw [if_neg (by decide)]; simp [State.appendUnit]
  · simp only [State.decideOpened]; rw [if_pos trivial]
    by_cases h : s.grants[u].isSome = true
    · rw [if_pos h]; simp
    · rw [if_neg h]; simp [State.appendUnit]

@[simp] theorem State.sessionOpened_frame (s : State) (u : UnitId) :
    (s.sessionOpened u).pending = s.pending ∧ (s.sessionOpened u).power = s.power ∧ (s.sessionOpened u).clock = s.clock
    ∧ (s.sessionOpened u).rooms = s.rooms ∧ (s.sessionOpened u).claims = s.claims ∧ (s.sessionOpened u).accounts = s.accounts
    ∧ (s.sessionOpened u).prices = s.prices ∧ (s.sessionOpened u).reserve = s.reserve ∧ (s.sessionOpened u).table = s.table
    ∧ (s.sessionOpened u).units = s.units ∧ (s.sessionOpened u).grants = s.grants ∧ (s.sessionOpened u).ajar = s.ajar
    ∧ (s.sessionOpened u).busA = s.busA ∧ (s.sessionOpened u).busB = s.busB ∧ (s.sessionOpened u).decision = s.decision
    ∧ (s.sessionOpened u).gates = s.gates ∧ (s.sessionOpened u).wing = s.wing ∧ (s.sessionOpened u).log = s.log
    ∧ (s.sessionOpened u).fo = s.fo ∧ (s.sessionOpened u).se = s.se := by simp only [State.sessionOpened]; split <;> simp

@[simp] theorem State.sessionClosed_frame (s : State) (u : UnitId) :
    (s.sessionClosed u).pending = s.pending ∧ (s.sessionClosed u).clock = s.clock ∧ (s.sessionClosed u).rooms = s.rooms
    ∧ (s.sessionClosed u).claims = s.claims ∧ (s.sessionClosed u).accounts = s.accounts
    ∧ (s.sessionClosed u).prices = s.prices ∧ (s.sessionClosed u).reserve = s.reserve ∧ (s.sessionClosed u).table = s.table
    ∧ (s.sessionClosed u).units = s.units ∧ (s.sessionClosed u).grants = s.grants ∧ (s.sessionClosed u).ajar = s.ajar
    ∧ (s.sessionClosed u).busA = s.busA ∧ (s.sessionClosed u).busB = s.busB ∧ (s.sessionClosed u).decision = s.decision
    ∧ (s.sessionClosed u).gates = s.gates ∧ (s.sessionClosed u).wing = s.wing := by
  simp only [State.sessionClosed]; split <;> [(split <;> simp); simp]

@[simp] theorem State.decideClosed_frame (s : State) (u : UnitId) :
    (s.decideClosed u).pending = s.pending ∧ (s.decideClosed u).power = s.power ∧ (s.decideClosed u).clock = s.clock
    ∧ (s.decideClosed u).rooms = s.rooms ∧ (s.decideClosed u).claims = s.claims ∧ (s.decideClosed u).accounts = s.accounts
    ∧ (s.decideClosed u).prices = s.prices ∧ (s.decideClosed u).reserve = s.reserve ∧ (s.decideClosed u).table = s.table
    ∧ (s.decideClosed u).grants = s.grants ∧ (s.decideClosed u).sessions = s.sessions ∧ (s.decideClosed u).busA = s.busA
    ∧ (s.decideClosed u).busB = s.busB ∧ (s.decideClosed u).decision = s.decision ∧ (s.decideClosed u).gates = s.gates
    ∧ (s.decideClosed u).wing = s.wing ∧ (s.decideClosed u).log = s.log ∧ (s.decideClosed u).fo = s.fo
    ∧ (s.decideClosed u).se = s.se := ⟨rfl, rfl, rfl, rfl, rfl, rfl, rfl, rfl, rfl, rfl, rfl, rfl, rfl, rfl, rfl, rfl, rfl, rfl, rfl⟩

@[simp] theorem State.report_frame (s : State) (u : UnitId) (r : Report) :
    (s.report u r).pending = s.pending ∧ (s.report u r).clock = s.clock ∧ (s.report u r).claims = s.claims
    ∧ (s.report u r).prices = s.prices ∧ (s.report u r).reserve = s.reserve ∧ (s.report u r).table = s.table
    ∧ (s.report u r).busA = s.busA ∧ (s.report u r).busB = s.busB ∧ (s.report u r).decision = s.decision
    ∧ (s.report u r).gates = s.gates ∧ (s.report u r).wing = s.wing := by
  simp only [State.report]; split <;> simp [State.setPrivacy]

@[simp] theorem State.reports_frame (s : State) (u : UnitId) (rs : List Report) :
    (s.reports u rs).pending = s.pending ∧ (s.reports u rs).clock = s.clock ∧ (s.reports u rs).claims = s.claims
    ∧ (s.reports u rs).prices = s.prices ∧ (s.reports u rs).reserve = s.reserve ∧ (s.reports u rs).table = s.table
    ∧ (s.reports u rs).busA = s.busA ∧ (s.reports u rs).busB = s.busB ∧ (s.reports u rs).decision = s.decision
    ∧ (s.reports u rs).gates = s.gates ∧ (s.reports u rs).wing = s.wing := by
  simp only [State.reports]; induction rs generalizing s with
  | nil => simp
  | cons r rs ih => simp [ih]


/-! ## The Quaybus Controllers (R76) -/

@[simp] theorem State.settleRota_frame (s : State) (line : Bus) :
    (s.settleRota line).pending = s.pending ∧ (s.settleRota line).power = s.power ∧ (s.settleRota line).clock = s.clock
    ∧ (s.settleRota line).rooms = s.rooms ∧ (s.settleRota line).claims = s.claims ∧ (s.settleRota line).accounts = s.accounts
    ∧ (s.settleRota line).prices = s.prices ∧ (s.settleRota line).reserve = s.reserve ∧ (s.settleRota line).table = s.table
    ∧ (s.settleRota line).units = s.units ∧ (s.settleRota line).grants = s.grants ∧ (s.settleRota line).ajar = s.ajar
    ∧ (s.settleRota line).sessions = s.sessions ∧ (s.settleRota line).decision = s.decision
    ∧ (s.settleRota line).gates = s.gates ∧ (s.settleRota line).wing = s.wing ∧ (s.settleRota line).log = s.log
    ∧ (s.settleRota line).fo = s.fo ∧ (s.settleRota line).se = s.se := by simp [State.settleRota]

@[simp] theorem State.endFlight_frame (s : State) (line : Bus) :
    (s.endFlight line).pending = s.pending ∧ (s.endFlight line).power = s.power ∧ (s.endFlight line).clock = s.clock
    ∧ (s.endFlight line).rooms = s.rooms ∧ (s.endFlight line).claims = s.claims ∧ (s.endFlight line).accounts = s.accounts
    ∧ (s.endFlight line).prices = s.prices ∧ (s.endFlight line).reserve = s.reserve ∧ (s.endFlight line).table = s.table
    ∧ (s.endFlight line).units = s.units ∧ (s.endFlight line).grants = s.grants ∧ (s.endFlight line).ajar = s.ajar
    ∧ (s.endFlight line).sessions = s.sessions ∧ (s.endFlight line).decision = s.decision
    ∧ (s.endFlight line).gates = s.gates ∧ (s.endFlight line).wing = s.wing ∧ (s.endFlight line).log = s.log
    ∧ (s.endFlight line).fo = s.fo ∧ (s.endFlight line).se = s.se := by simp [State.endFlight]

@[simp] theorem State.countError_frame (s : State) (line : Bus) (e : FrameCheck) :
    (s.countError line e).pending = s.pending ∧ (s.countError line e).power = s.power ∧ (s.countError line e).clock = s.clock
    ∧ (s.countError line e).rooms = s.rooms ∧ (s.countError line e).claims = s.claims
    ∧ (s.countError line e).accounts = s.accounts ∧ (s.countError line e).prices = s.prices
    ∧ (s.countError line e).reserve = s.reserve ∧ (s.countError line e).table = s.table
    ∧ (s.countError line e).units = s.units ∧ (s.countError line e).grants = s.grants ∧ (s.countError line e).ajar = s.ajar
    ∧ (s.countError line e).sessions = s.sessions ∧ (s.countError line e).decision = s.decision
    ∧ (s.countError line e).gates = s.gates ∧ (s.countError line e).wing = s.wing ∧ (s.countError line e).log = s.log
    ∧ (s.countError line e).fo = s.fo ∧ (s.countError line e).se = s.se := by
  cases e <;> simp [State.countError]


/-! ## Modes (R160, R116) -/

@[simp] theorem State.enterMode_frame (s : State) (source : Source) (m : WingMode) :
    (s.enterMode source m).pending = s.pending ∧ (s.enterMode source m).power = s.power
    ∧ (s.enterMode source m).clock = s.clock ∧ (s.enterMode source m).rooms = s.rooms
    ∧ (s.enterMode source m).claims = s.claims ∧ (s.enterMode source m).accounts = s.accounts
    ∧ (s.enterMode source m).prices = s.prices ∧ (s.enterMode source m).reserve = s.reserve
    ∧ (s.enterMode source m).table = s.table ∧ (s.enterMode source m).units = s.units
    ∧ (s.enterMode source m).grants = s.grants ∧ (s.enterMode source m).ajar = s.ajar
    ∧ (s.enterMode source m).sessions = s.sessions ∧ (s.enterMode source m).busA = s.busA
    ∧ (s.enterMode source m).busB = s.busB ∧ (s.enterMode source m).decision = s.decision
    ∧ (s.enterMode source m).gates = s.gates := by
  simp [State.enterMode]

@[simp] theorem State.announceMode_frame (s : State) (m : WingMode) :
    (s.announceMode m).pending = s.pending ∧ (s.announceMode m).power = s.power ∧ (s.announceMode m).clock = s.clock
    ∧ (s.announceMode m).rooms = s.rooms ∧ (s.announceMode m).claims = s.claims ∧ (s.announceMode m).accounts = s.accounts
    ∧ (s.announceMode m).prices = s.prices ∧ (s.announceMode m).reserve = s.reserve ∧ (s.announceMode m).table = s.table
    ∧ (s.announceMode m).units = s.units ∧ (s.announceMode m).grants = s.grants ∧ (s.announceMode m).ajar = s.ajar
    ∧ (s.announceMode m).sessions = s.sessions ∧ (s.announceMode m).decision = s.decision
    ∧ (s.announceMode m).gates = s.gates ∧ (s.announceMode m).wing = s.wing ∧ (s.announceMode m).log = s.log := by
  simp [State.announceMode, State.raiseBoth, State.broadcastBoth]

@[simp] theorem State.cutForLockdown_frame (s : State) (u : UnitId) :
    (s.cutForLockdown u).pending = s.pending ∧ (s.cutForLockdown u).clock = s.clock ∧ (s.cutForLockdown u).rooms = s.rooms
    ∧ (s.cutForLockdown u).claims = s.claims ∧ (s.cutForLockdown u).accounts = s.accounts
    ∧ (s.cutForLockdown u).prices = s.prices ∧ (s.cutForLockdown u).reserve = s.reserve
    ∧ (s.cutForLockdown u).table = s.table ∧ (s.cutForLockdown u).ajar = s.ajar ∧ (s.cutForLockdown u).sessions = s.sessions
    ∧ (s.cutForLockdown u).busA = s.busA ∧ (s.cutForLockdown u).busB = s.busB ∧ (s.cutForLockdown u).decision = s.decision
    ∧ (s.cutForLockdown u).gates = s.gates ∧ (s.cutForLockdown u).wing = s.wing := by
  simp only [State.cutForLockdown]; split <;> simp [State.setRelock]

@[simp] theorem State.cutAll_frame (s : State)  :
    (s.cutAll).pending = s.pending ∧ (s.cutAll).clock = s.clock ∧ (s.cutAll).rooms = s.rooms ∧ (s.cutAll).claims = s.claims
    ∧ (s.cutAll).accounts = s.accounts ∧ (s.cutAll).prices = s.prices ∧ (s.cutAll).reserve = s.reserve
    ∧ (s.cutAll).table = s.table ∧ (s.cutAll).ajar = s.ajar ∧ (s.cutAll).sessions = s.sessions ∧ (s.cutAll).busA = s.busA
    ∧ (s.cutAll).busB = s.busB ∧ (s.cutAll).decision = s.decision ∧ (s.cutAll).gates = s.gates ∧ (s.cutAll).wing = s.wing := by
  simp only [State.cutAll]; generalize allUnits = us; induction us generalizing s with
  | nil => simp
  | cons u us ih => simp [ih]

@[simp] theorem State.endAllSessions_frame (s : State)  :
    (s.endAllSessions).pending = s.pending ∧ (s.endAllSessions).clock = s.clock ∧ (s.endAllSessions).rooms = s.rooms
    ∧ (s.endAllSessions).claims = s.claims ∧ (s.endAllSessions).accounts = s.accounts ∧ (s.endAllSessions).prices = s.prices
    ∧ (s.endAllSessions).reserve = s.reserve ∧ (s.endAllSessions).table = s.table ∧ (s.endAllSessions).grants = s.grants
    ∧ (s.endAllSessions).ajar = s.ajar ∧ (s.endAllSessions).busA = s.busA ∧ (s.endAllSessions).busB = s.busB
    ∧ (s.endAllSessions).decision = s.decision ∧ (s.endAllSessions).gates = s.gates ∧ (s.endAllSessions).wing = s.wing := by
  simp only [State.endAllSessions]; generalize allUnits = us; induction us generalizing s with
  | nil => simp
  | cons u us ih => simp [ih]


/-! ## Issuing cards (R49, R55) -/

@[simp] theorem issueCards_frame (s : State) (p : Port) (i : Slot) (cls : Fin 8) (w : Window) (n left : Nat) :
    ((issueCards p i cls w n left s).1).pending = s.pending ∧ ((issueCards p i cls w n left s).1).power = s.power
    ∧ ((issueCards p i cls w n left s).1).clock = s.clock ∧ ((issueCards p i cls w n left s).1).claims = s.claims
    ∧ ((issueCards p i cls w n left s).1).accounts = s.accounts ∧ ((issueCards p i cls w n left s).1).prices = s.prices
    ∧ ((issueCards p i cls w n left s).1).reserve = s.reserve ∧ ((issueCards p i cls w n left s).1).units = s.units
    ∧ ((issueCards p i cls w n left s).1).grants = s.grants ∧ ((issueCards p i cls w n left s).1).ajar = s.ajar
    ∧ ((issueCards p i cls w n left s).1).sessions = s.sessions ∧ ((issueCards p i cls w n left s).1).busA = s.busA
    ∧ ((issueCards p i cls w n left s).1).busB = s.busB ∧ ((issueCards p i cls w n left s).1).decision = s.decision
    ∧ ((issueCards p i cls w n left s).1).gates = s.gates ∧ ((issueCards p i cls w n left s).1).wing = s.wing
    ∧ ((issueCards p i cls w n left s).1).log = s.log ∧ ((issueCards p i cls w n left s).1).fo = s.fo
    ∧ ((issueCards p i cls w n left s).1).se = s.se := by
  induction left generalizing s with
  | zero => simp [issueCards]
  | succ left ih => simp [issueCards, ih]

@[simp] theorem State.issueBatch_frame (s : State) (p : Port) (i : Slot) (cls : Fin 8) (w : Window) (n : Nat) :
    ((s.issueBatch p i cls w n).1).pending = s.pending ∧ ((s.issueBatch p i cls w n).1).power = s.power
    ∧ ((s.issueBatch p i cls w n).1).clock = s.clock ∧ ((s.issueBatch p i cls w n).1).claims = s.claims
    ∧ ((s.issueBatch p i cls w n).1).accounts = s.accounts ∧ ((s.issueBatch p i cls w n).1).prices = s.prices
    ∧ ((s.issueBatch p i cls w n).1).reserve = s.reserve ∧ ((s.issueBatch p i cls w n).1).units = s.units
    ∧ ((s.issueBatch p i cls w n).1).grants = s.grants ∧ ((s.issueBatch p i cls w n).1).ajar = s.ajar
    ∧ ((s.issueBatch p i cls w n).1).sessions = s.sessions ∧ ((s.issueBatch p i cls w n).1).busA = s.busA
    ∧ ((s.issueBatch p i cls w n).1).busB = s.busB ∧ ((s.issueBatch p i cls w n).1).decision = s.decision
    ∧ ((s.issueBatch p i cls w n).1).gates = s.gates ∧ ((s.issueBatch p i cls w n).1).wing = s.wing
    ∧ ((s.issueBatch p i cls w n).1).log = s.log ∧ ((s.issueBatch p i cls w n).1).fo = s.fo
    ∧ ((s.issueBatch p i cls w n).1).se = s.se := by
  simp [State.issueBatch]

@[simp] theorem logIssues_frame (s : State) (p : Port) (n : Nat) (cards : List Credential) :
    (logIssues p n cards s).pending = s.pending ∧ (logIssues p n cards s).power = s.power
    ∧ (logIssues p n cards s).clock = s.clock ∧ (logIssues p n cards s).rooms = s.rooms
    ∧ (logIssues p n cards s).claims = s.claims ∧ (logIssues p n cards s).accounts = s.accounts
    ∧ (logIssues p n cards s).prices = s.prices ∧ (logIssues p n cards s).reserve = s.reserve
    ∧ (logIssues p n cards s).table = s.table ∧ (logIssues p n cards s).units = s.units
    ∧ (logIssues p n cards s).grants = s.grants ∧ (logIssues p n cards s).ajar = s.ajar
    ∧ (logIssues p n cards s).sessions = s.sessions ∧ (logIssues p n cards s).busA = s.busA
    ∧ (logIssues p n cards s).busB = s.busB ∧ (logIssues p n cards s).decision = s.decision
    ∧ (logIssues p n cards s).gates = s.gates ∧ (logIssues p n cards s).wing = s.wing := by
  induction cards generalizing n s with
  | nil => simp [logIssues]
  | cons c cards ih => simp [logIssues, ih]


theorem issueCards_length (p : Port) (i : Slot) (cls : Fin 8) (w : Window) (n left : Nat) (s : State) :
    (issueCards p i cls w n left s).2.length = left := by
  induction left generalizing s with
  | zero => rfl
  | succ left ih => simp [issueCards, ih]

theorem mem_insertCard (c x : Credential) (cards : List Credential) : x ∈ insertCard c cards ↔ x = c ∨ x ∈ cards := by
  induction cards with
  | nil => simp [insertCard]
  | cons d rest ih =>
    simp only [insertCard]
    by_cases h : c.number < d.number
    · simp [h]
    · simp [h, ih]; tauto

theorem insertCard_perm (c : Credential) (cards : List Credential) : (insertCard c cards).Perm (c :: cards) := by
  induction cards with
  | nil => simp [insertCard]
  | cons d rest ih =>
    simp only [insertCard]
    split
    · exact .refl _
    · exact (ih.cons d).trans (.swap c d rest)

@[simp] theorem CardTable.create_cards (t : CardTable) (c : Credential) : (t.create c).cards = insertCard c t.cards := rfl
@[simp] theorem CardTable.create_revoked (t : CardTable) (c : Credential) : (t.create c).revoked = t.revoked := rfl
@[simp] theorem CardTable.create_nextNumber (t : CardTable) (c : Credential) :
    (t.create c).nextNumber = nextCardNumber c.number := rfl
@[simp] theorem CardTable.create_site (t : CardTable) (c : Credential) : (t.create c).site = t.site := rfl

@[simp] theorem CardTable.reclaim_nextNumber (t : CardTable) (n : Nat) : (t.reclaim n).nextNumber = t.nextNumber := rfl
@[simp] theorem CardTable.reclaim_site (t : CardTable) (n : Nat) : (t.reclaim n).site = t.site := rfl

/-- A record inserted into an ascending table leaves it ascending: the table keeps its one canonical form. -/
theorem insertCard_sorted (c : Credential) (cards : List Credential) (h : cards.Pairwise fun a b => a.number < b.number)
    (hc : ∀ d ∈ cards, d.number ≠ c.number) : (insertCard c cards).Pairwise fun a b => a.number < b.number := by
  induction cards with
  | nil => simp [insertCard]
  | cons d rest ih =>
    obtain ⟨hd, hr⟩ := List.pairwise_cons.mp h
    have hn := hc d (List.mem_cons_self ..)
    have ih := ih hr fun x hx => hc x (List.mem_cons_of_mem d hx)
    simp only [insertCard]
    by_cases hlt : c.number < d.number
    · simp only [hlt, if_true, List.pairwise_cons, List.mem_cons]
      exact ⟨by rintro x (rfl | hx) <;> [exact hlt; exact lt_trans hlt (hd x hx)], hd, hr⟩
    · simp only [hlt, if_false, List.pairwise_cons, mem_insertCard]
      exact ⟨by rintro x (rfl | hx) <;> [omega; exact hd x hx], ih⟩

/-! ## Elapsed timers (R10) -/

/-- The indices of the entries that satisfy a test, as a filter of all indices. -/
theorem indicesWhere_eq_filter {α : Type} {n : Nat} (v : Vector α n) (test : α → Bool) :
    indicesWhere v test = (List.finRange n).filter fun i => test v[i] := by
  have h : ((List.finRange n).zip v.toList) = (List.finRange n).map fun i => (i, v[i]) := by
    apply List.ext_getElem <;> simp
  simp only [indicesWhere, h, List.filterMap_map, ← List.filterMap_eq_filter]
  congr 1

theorem mem_indicesWhere {α : Type} {n : Nat} (v : Vector α n) (test : α → Bool) (i : Fin n) :
    i ∈ indicesWhere v test ↔ test v[i] = true := by
  simp [indicesWhere_eq_filter]

/-- A timer's expiry is what the command of that expiry does. -/
theorem exec_command (t : Timer) (s : State) : exec t.command s = .next (expireTimer t s) := by cases t <;> rfl

/-- What the freeing of a port's claims leaves as it was (R36). -/
@[simp] theorem State.freeClaims_frame (s : State) (p : Port) :
    (s.freeClaims p).pending = s.pending ∧ (s.freeClaims p).power = s.power ∧ (s.freeClaims p).clock = s.clock
    ∧ (s.freeClaims p).rooms = s.rooms ∧ (s.freeClaims p).accounts = s.accounts ∧ (s.freeClaims p).prices = s.prices
    ∧ (s.freeClaims p).reserve = s.reserve ∧ (s.freeClaims p).table = s.table ∧ (s.freeClaims p).units = s.units
    ∧ (s.freeClaims p).grants = s.grants ∧ (s.freeClaims p).ajar = s.ajar ∧ (s.freeClaims p).sessions = s.sessions
    ∧ (s.freeClaims p).busA = s.busA ∧ (s.freeClaims p).busB = s.busB ∧ (s.freeClaims p).decision = s.decision
    ∧ (s.freeClaims p).gates = s.gates ∧ (s.freeClaims p).wing = s.wing ∧ (s.freeClaims p).log = s.log := by
  simp only [State.freeClaims]
  generalize allSlots = slots
  induction slots generalizing s with
  | nil => simp
  | cons i rest ih => simp only [List.foldl_cons, ih, freeForLink]; split <;> simp

/-- What the expiry of a port's supervision leaves as it was (R193). -/
@[simp] theorem State.superviseExpire_frame (s : State) (p : Port) :
    (s.superviseExpire p).pending = s.pending ∧ (s.superviseExpire p).power = s.power ∧ (s.superviseExpire p).clock = s.clock
    ∧ (s.superviseExpire p).rooms = s.rooms ∧ (s.superviseExpire p).accounts = s.accounts
    ∧ (s.superviseExpire p).prices = s.prices ∧ (s.superviseExpire p).reserve = s.reserve
    ∧ (s.superviseExpire p).table = s.table ∧ (s.superviseExpire p).units = s.units
    ∧ (s.superviseExpire p).grants = s.grants ∧ (s.superviseExpire p).ajar = s.ajar
    ∧ (s.superviseExpire p).sessions = s.sessions ∧ (s.superviseExpire p).busA = s.busA
    ∧ (s.superviseExpire p).busB = s.busB ∧ (s.superviseExpire p).decision = s.decision
    ∧ (s.superviseExpire p).gates = s.gates ∧ (s.superviseExpire p).wing = s.wing := by
  simp [State.superviseExpire]

/-- The end of a grant leaves the phase, the retention supply's mark and the latch of the part as they were. -/
@[simp] theorem State.concludeGrant_power (s : State) (u : UnitId) (detail : Grant → Detail) :
    (s.concludeGrant u detail).power.phase = s.power.phase
    ∧ (s.concludeGrant u detail).power.retained = s.power.retained
    ∧ (s.concludeGrant u detail).power.latch = s.power.latch := by
  simp only [State.concludeGrant]; split <;> simp [State.appendUnit]

/-- The end of a session leaves the phase, the retention supply's mark and the latch of the part as they were. -/
@[simp] theorem State.endSession_power (s : State) (u : UnitId) (reason : EndReason) :
    (s.endSession u reason).power.phase = s.power.phase
    ∧ (s.endSession u reason).power.retained = s.power.retained
    ∧ (s.endSession u reason).power.latch = s.power.latch := by
  simp only [State.endSession]; split <;> simp

/-- What no expiry changes. -/
theorem expireTimer_frame (t : Timer) (s : State) :
    (expireTimer t s).pending = s.pending ∧ (expireTimer t s).power.phase = s.power.phase
    ∧ (expireTimer t s).power.retained = s.power.retained ∧ (expireTimer t s).power.latch = s.power.latch
    ∧ (expireTimer t s).clock = s.clock ∧ (expireTimer t s).rooms = s.rooms ∧ (expireTimer t s).accounts = s.accounts
    ∧ (expireTimer t s).prices = s.prices ∧ (expireTimer t s).reserve = s.reserve ∧ (expireTimer t s).table = s.table
    ∧ (expireTimer t s).decision = s.decision ∧ (expireTimer t s).wing = s.wing
    ∧ (expireTimer t s).busA = s.busA ∧ (expireTimer t s).busB = s.busB
    ∧ (expireTimer t s).gates.schedule = s.gates.schedule := by
  cases t with
  | lease i => simp only [expireTimer, expireLease]; (repeat' split) <;> simp
  | grant u =>
    simp only [expireTimer, expireGrant, State.concludeUnused, State.endUnopened]
    (repeat' split) <;> simp
  | ajar u => simp only [expireTimer, expireAjar]; (repeat' split) <;> simp [State.appendUnit]
  | session u => simp only [expireTimer, expireSession]; (repeat' split) <;> simp
  | pulse g => simp only [expireTimer, expirePulse]; split <;> simp
  | supervision p => simp only [expireTimer, expireSupervision]; split <;> simp

/-- What each expiry keeps, the expiries of a tick keep. -/
theorem State.expireTimers_keeps (P : State → Prop) (keeps : ∀ t s, P s → P (expireTimer t s)) (s : State) (due : List Timer)
    (h : P s) : P (s.expireTimers due) := by
  induction due generalizing s with
  | nil => exact h
  | cons t rest ih => exact ih _ (keeps t s h)

/-- What no tick's expiries change. -/
theorem State.expireTimers_frame (s : State) (due : List Timer) :
    (s.expireTimers due).pending = s.pending ∧ (s.expireTimers due).power.phase = s.power.phase
    ∧ (s.expireTimers due).power.retained = s.power.retained ∧ (s.expireTimers due).power.latch = s.power.latch
    ∧ (s.expireTimers due).clock = s.clock ∧ (s.expireTimers due).rooms = s.rooms
    ∧ (s.expireTimers due).accounts = s.accounts ∧ (s.expireTimers due).prices = s.prices
    ∧ (s.expireTimers due).reserve = s.reserve ∧ (s.expireTimers due).table = s.table
    ∧ (s.expireTimers due).decision = s.decision ∧ (s.expireTimers due).wing = s.wing
    ∧ (s.expireTimers due).busA = s.busA ∧ (s.expireTimers due).busB = s.busB
    ∧ (s.expireTimers due).gates.schedule = s.gates.schedule := by
  induction due generalizing s with
  | nil => simp [State.expireTimers]
  | cons t rest ih =>
    have h := ih (expireTimer t s)
    simp only [expireTimer_frame t s] at h
    exact h

/-! ## What a controller sends (R77, R86) -/

theorem State.verdictDue_configured {s : State} {line : Bus} (h : rotaEmpty s.units line = false) :
    s.verdictDue line = (s.bus line).due := by simp [State.verdictDue, h]

theorem State.verdictDue_empty {s : State} {line : Bus} (h : rotaEmpty s.units line = true) : s.verdictDue line = none := by
  simp [State.verdictDue, h]

/-- A bus is without a rota exactly where no unit of it is configured (R76). -/
theorem rotaEmpty_iff (units : Vector UnitRec 240) (line : Bus) :
    rotaEmpty units line = true ↔ ∀ u : UnitId, busOf u = line → units[u].kind = .absent := by
  simp [rotaEmpty, allUnits]

end Sys2Proof.Machine
end

