-- ==== Sys2Proof/WellFormed.lean ====
section
/-! DEFINITION. Which commands are well formed: what a row's operands say agrees with the row. A station request is well formed
with any values in its fields, since the part answers a value it refuses with a status code (R202). -/

namespace Sys2Proof

/-- A reply frame holds at least one character, and a receiver closes it at its 53rd (R67). -/
def wellFormedFrame (frame : List Byte) : Bool := decide (1 ≤ frame.length ∧ frame.length ≤ Config.maxFrame)

/-- The bytes of TRANSACTION_DISCARDED make a transaction that is neither a request nor a response (R182). -/
def wellFormedDiscarded (p : Port) (bytes : List Byte) : Bool :=
  match examine p bytes with
  | .discarded => true
  | _ => false

/-- The bytes of BAD_REQUEST make a request transaction that fails one of the checks 1 to 3 of R183. -/
def wellFormedBad (p : Port) (bytes : List Byte) : Bool :=
  match examine p bytes with
  | .bad _ => true
  | _ => false

/-- Whether a command's operands agree with its row. -/
def Instr.wellFormed (i : Instr) : Bool :=
  match i with
  | .transactionDiscarded p bytes => wellFormedDiscarded p bytes
  | .badRequest p bytes => wellFormedBad p bytes
  | .answer _ frame => wellFormedFrame frame
  | .ack _ frame => wellFormedFrame frame
  | .secondTick => true
  | .crystalCycle => true
  | .claimLeaseExpiry _ => true
  | .pendingGrantExpiry _ => true
  | .ajarTimerExpiry _ => true
  | .minibarSessionExpiry _ => true
  | .gatePulseExpiry _ => true
  | .supervisionTimerExpiry _ => true
  | .rspByteReceived _ => true
  | .responseTransaction _ _ => true
  | .checkIn _ _ _ _ _ _ _ => true
  | .addCards _ _ _ _ => true
  | .changeStay _ _ _ => true
  | .checkOut _ _ => true
  | .settle _ _ => true
  | .setPrices _ _ => true
  | .setReserve _ _ => true
  | .setGrace _ _ => true
  | .configureRoom _ _ _ => true
  | .removeRoom _ _ => true
  | .holdRoom _ _ => true
  | .freeRoom _ _ => true
  | .configureUnit _ _ _ _ _ _ _ => true
  | .removeUnit _ _ _ => true
  | .readmitUnit _ _ _ => true
  | .issueStaff _ _ _ _ _ => true
  | .suspend _ _ => true
  | .resume _ _ => true
  | .setSite _ _ => true
  | .setCondition _ _ _ _ => true
  | .setEntranceClass _ _ _ _ _ => true
  | .setShift _ _ _ _ => true
  | .setGate _ _ _ => true
  | .addScheduleEntry _ _ _ _ => true
  | .removeScheduleEntry _ _ => true
  | .clearSchedule _ => true
  | .setMode _ _ => true
  | .restore _ => true
  | .clearBusCounters _ _ => true
  | .claim _ _ _ => true
  | .releaseClaim _ _ => true
  | .revoke _ _ _ => true
  | .setClock _ _ => true
  | .readClock _ => true
  | .readRoom _ _ => true
  | .readCard _ _ => true
  | .readUnit _ _ _ => true
  | .readBus _ _ => true
  | .readGates _ => true
  | .readLog _ _ => true
  | .setLogPolicy _ _ => true
  | .setLogThreshold _ _ => true
  | .readEvents _ _ => true
  | .setSupervision _ _ => true
  | .keepalive _ _ => true
  | .identify _ => true
  | .mode _ => true
  | .poll _ => true
  | .pollTimeout _ => true
  | .verdict _ => true
  | .verdictTimeout _ => true
  | .evacRisingEdge => true
  | .evacFallingEdge => true
  | .rstAsserted => true
  | .mainPowerFall => true
  | .retentionLost => true
  | .warmStart => true
  | .coldStart => true
  | .startEnd => true

end Sys2Proof
end

