-- ==== Sys2Proof/Tests/Slice0.lean ====
section
/-! SUPPORT. Tests of the model on the manual's worked cases, the smoke test of well-formedness, and for each statement with
hypotheses a state and operands that meet them. Each test says where its expected values stand in the manual. -/

namespace Sys2Proof.Tests

-- One theorem at a time: each check by the kernel then needs one stack.
set_option Elab.async false

open Sys2Proof Sys2Proof.Machine

/-! ## Well-formedness: each check refuses an ill-formed command -/

theorem test_ill_formed_discarded : (Instr.transactionDiscarded .fo [0xA5, 0x40, 0x00]).wellFormed = false := by decide
theorem test_well_formed_discarded : (Instr.transactionDiscarded .fo [0x11]).wellFormed = true := by decide
theorem test_ill_formed_bad : (Instr.badRequest .fo [0xA5, 0x40, 0x00]).wellFormed = false := by decide
theorem test_well_formed_bad : (Instr.badRequest .fo [0xA5, 0x40, 0x01]).wellFormed = true := by decide
theorem test_ill_formed_answer : (Instr.answer .a []).wellFormed = false := by decide
theorem test_ill_formed_ack : (Instr.ack .a (List.replicate 54 0)).wellFormed = false := by decide
theorem test_well_formed_frames : (Instr.answer .a [1]).wellFormed && (Instr.ack .b (List.replicate 53 0)).wellFormed = true := by
  decide

/-! ## States the tests start from -/

/-- The state after a command. -/
def after (c : Instr) (s : State) : State :=
  match exec c s with
  | .next t => t
  | .fault f => nomatch f
  | .refused _ => s

/-- The status of the response waiting at a port. -/
def status (p : Port) (s : State) : Option Status := (s.port p).slot.map Response.status

/-- The body of the response waiting at a port. -/
def body (p : Port) (s : State) : List Byte := ((s.port p).slot.map Response.body).getD []

/-- The details of the records of a log, oldest first. -/
def details (s : State) : List Detail := s.log.records.map fun r => r.formed.detail

/-- Day 9500, minute 830, with site code 49575 and the next card number 12588 (chapters 1.5 and 2.3). -/
def day9500 : State :=
  { State.reset with
    clock := { State.reset.clock with day := 9500, minute := 830, clockSet := true }
    table := { cards := [], revoked := [], nextNumber := 12588, site := 49575 } }

/-- Slot 14 VACANT as the worked stay begins, its claim held by FO with 100 s left (chapter 2.3). -/
def vacant14 : State :=
  (day9500.setRoom 14 { occupancy := .vacant 514, generation := 6, issueCounter := 22, privacy := .off }).setClaim 14
    (some { holder := .fo, lease := 100 })

/-- The stay of slot 14 (chapter 2.3). -/
def stay14 : Stay :=
  { arrival := { day := 9500, minute := 840 }, departure := { day := 9503, minute := 660 }
    window := { start := { day := 9500, minute := 840 }, stop := { day := 9503, minute := 720 } } }

/-- A card of the stay of slot 14 (chapter 3.3). -/
def card14 (number issueNumber : Nat) (first final : Bool) : Credential :=
  { number := number, cls := 1, binding := some { slot := 14, generation := 7 }, issueNumber := issueNumber, first := first
    final := final, window := stay14.window, state := .active, issuedBy := .fo }

/-- Slot 14 LET with cards 12588 and 12589, its room lock A-14 and its minibar lock B-14, inside the window. -/
def let14 : State :=
  { ((vacant14.setRoom 14 { occupancy := .letTo 514 stay14, generation := 7, issueCounter := 24, privacy := .off }).setUnit 13
      { UnitRec.cold with kind := .roomLock 14, link := .online, expected := some true }).setUnit 133
      { UnitRec.cold with kind := .minibarLock 14, entranceClass := 2, link := .online, expected := some true } with
    clock := { day9500.clock with day := 9501 }
    table := { cards := [card14 12588 23 true false, card14 12589 24 false true], revoked := [], nextNumber := 12590
               site := 49575 }
    accounts := (day9500.accounts.set 14
      { Account.cold with granted := 3000, remaining := 3000, blocked := false })
    prices := #v[600, 0, 0, 450, 0, 1000, 0, 0, 0, 0, 0, 0]
    decision := { DecisionTables.cold with conditions := .replicate 8 (.replicate 8 .roomLet) } }

/-- A guest's session in use at B-14, opened by card 12588. -/
def inUse : State :=
  { let14 with
    sessions := let14.sessions.set 133 (some { kind := .guest, card := 12588, slot := 14, removed := .replicate 12 0
                                               phase := .inUse })
    power := { let14.power with sessionTally := 1 } }

/-- A grant pending at A-14 for card 12589, with 4 s of its expiry left. -/
def granted : State :=
  { let14 with
    grants := let14.grants.set 13 (some { card := some 12589, grantedAt := let14.now, unlock := 5, expiry := 4
                                          acknowledged := false, evac := false, pulsed := false })
    power := { let14.power with grantTally := 1 } }

/-- The image of card 12588. -/
def image12588 : CardImage := imageOfBytes ((card14 12588 23 true false).imageBytes 49575)

/-- A poll transaction in flight on bus A with A-14. -/
def polling : State :=
  let14.setBus .a { let14.busA with broadcast := false, position := 14, flight := .poll 13 false }

/-- A verdict transaction in flight on bus A with A-14, its VERDICT a GRANT. -/
def verdictSent : State :=
  granted.setBus .a { granted.busA with broadcast := false, position := 14, flight := .verdict 13 true }

/-! ## The clock (chapter 1) -/

/-- Chapter 1.3, the night rollover: the tick after 9502/1439/59 gives 9503/0/0, and the lease falls with it. -/
theorem test_second_tick_rolls_over :
    let s := { vacant14 with clock := { vacant14.clock with day := 9502, minute := 1439, second := 59 } }
    ((after .secondTick s).now, (after .secondTick s).leaseOf 14) = ({ day := 9503, minute := 0, second := 0 }, 99) := by
  decide +kernel

/-- R3: the tick to the clock's last second sets CLOCK_END. -/
theorem test_second_tick_sets_clock_end :
    let t := after .secondTick { day9500 with clock := { day9500.clock with day := 65535, minute := 1439, second := 58 } }
    (t.clock.clockEnd, t.now) = (true, { day := 65535, minute := 1439, second := 59 }) := by decide +kernel

/-- R3: a tick under CLOCK_END holds the reading. -/
theorem test_second_tick_holds_at_the_end :
    let c : Clock := { day9500.clock with day := 65535, minute := 1439, second := 59, clockEnd := true }
    (after .secondTick { day9500 with clock := c }).now = { day := 65535, minute := 1439, second := 59 } := by decide +kernel

/-- R10: the tick that brings a lease to 0 is its expiry, and the claim is free when the tick is over. -/
theorem test_second_tick_expires_the_lease :
    let t := after .secondTick (vacant14.setClaim 14 (some { holder := .fo, lease := 1 }))
    t.claims[14] = none ∧ t.fo.events = [.claimLost 14 .expired] := by decide +kernel

/-- R1: the cycle past 32767 returns the prescaler to 0 and makes a second tick. -/
theorem test_crystal_cycle_makes_a_tick :
    let t := after .crystalCycle { day9500 with clock := { day9500.clock with prescaler := 32767 } }
    (t.clock.prescaler, t.clock.second) = (0, 1) := by decide +kernel

/-- Chapter 1.3: SET CLOCK to 9503/700 notes the indices 13,684,320 and 13,685,020, and the lease does not move. -/
theorem test_set_clock :
    let s := { vacant14 with clock := { vacant14.clock with day := 9503, minute := 0, second := 5 } }
    let t := after (.setClock .fo { day := 9503, minute := 700 }) s
    (details t).getLast? = some (.clockSet 13684320 13685020) ∧ t.se.events = [.clockSet] ∧ t.leaseOf 14 = 100 := by
  decide +kernel

/-- R7: a minute of day of 1440 is refused. -/
theorem test_set_clock_refused : status .fo (after (.setClock .fo { day := 1, minute := 1440 }) day9500) = some .badValue := by
  decide +kernel

/-- Chapter 1.5, the worked window: 9500/840 to 9503/720. -/
theorem test_window_derived : deriveWindow { day := 9500, minute := 840 } { day := 9503, minute := 660 } 60 13680830
    = some stay14.window := by decide +kernel

/-- Chapter 1.5: an end index past the last is clamped to 65535/1439. -/
theorem test_window_clamped : (deriveWindow { day := 9500, minute := 840 } { day := 65535, minute := 1400 } 60 13680830).map
    Window.stop = some { day := 65535, minute := 1439 } := by decide +kernel

/-- Chapter 1.5: EARLY at 9500/800, inside at 9503/719, EXPIRED at 9503/720. -/
theorem test_window_tested : [13680800, 13685039, 13685040].map (windowTest stay14.window)
    = [some .early, none, some .expired] := by decide +kernel

/-- Chapter 1.6, the three shifts at minutes 0, 360, 420 and 1140. -/
theorem test_shifts : [0, 360, 420, 1140].map (fun m => (Shift.covers { opens := 420, closes := 1140 } m,
      Shift.covers { opens := 1320, closes := 360 } m, Shift.covers { opens := 600, closes := 600 } m))
    = [(false, true, true), (false, false, true), (true, false, true), (false, false, true)] := by decide +kernel

/-- R9: READ CLOCK reports day, minute, second, CLOCK_SET, CLOCK_END and the grace, 9500 being 0x251C and 830 0x033E. -/
theorem test_read_clock : body .fo (after (.readClock .fo) day9500) = [0x25, 0x1C, 0x03, 0x3E, 0, 1, 0, 60] := by decide +kernel

/-- R11: a grace above 240 is stored as 240. -/
theorem test_set_grace : (after (.setGrace .fo 250) day9500).clock.grace = 240 := by decide +kernel

/-! ## Rooms, stays and claims (chapter 2) -/

/-- Chapter 2.3, the worked CHECK IN: generation 7, issue counter 24, lease 120, cards 12588 and 12589 with issue numbers 23 and
24, and the records STAY, ISSUE, ISSUE. -/
theorem test_check_in :
    let t := after (.checkIn .fo 14 1 2 { day := 9500, minute := 840 } { day := 9503, minute := 660 } 3000) vacant14
    t.rooms[14] = { occupancy := .letTo 514 stay14, generation := 7, issueCounter := 24, privacy := .off } ∧ t.leaseOf 14 = 120
    ∧ t.table.cards = [card14 12588 23 true false, card14 12589 24 false true] := by decide +kernel

theorem test_check_in_records :
    let t := after (.checkIn .fo 14 1 2 { day := 9500, minute := 840 } { day := 9503, minute := 660 } 3000) vacant14
    (details t).drop 1 = [.stayCheckIn 7 stay14.window 2, .issue 1 23 true false (some 7) 0, .issue 1 24 false true (some 7) 0]
    := by decide +kernel

/-- R26: ADD CARDS issues one more card under the stay's window, with issue number 25. -/
theorem test_add_cards : ((after (.addCards .fo 14 1 1) let14).table.find 12590).map (fun c => (c.issueNumber, c.window, c.first,
    c.final)) = some (25, stay14.window, true, true) := by decide +kernel

/-- Chapter 1.5: CHANGE STAY to 9504/660 moves the window's end to 9504/720 in every card of the room. -/
theorem test_change_stay :
    let t := after (.changeStay .fo 14 { day := 9504, minute := 660 }) let14
    t.table.cards.map (fun c => c.window.stop) = [{ day := 9504, minute := 720 }, { day := 9504, minute := 720 }] := by
  decide +kernel

/-- Chapter 2.3, the worked CHECK OUT: VACANT, both cards REVOKED, the list's tail 12588, 12589. -/
theorem test_check_out :
    let t := after (.checkOut .fo 14) let14
    t.rooms[14].occupancy = .vacant 514 ∧ t.table.revoked = [12588, 12589] ∧ t.accounts[14].blocked = true
    ∧ (details t).drop 1 = [.stayCheckOut 2, .revoke .checkout, .revoke .checkout] := by decide +kernel

/-- R20: CONFIGURE ROOM of an UNUSED slot, and the IN_USE refusal of a number another slot holds. -/
theorem test_configure_room : (after (.configureRoom .se 15 515) vacant14).rooms[15].occupancy = .vacant 515 := by decide +kernel
theorem test_configure_room_in_use : status .se (after (.configureRoom .se 15 514) vacant14) = some .inUse := by decide +kernel

/-- R21: REMOVE ROOM keeps generation and issue counter. -/
theorem test_remove_room : (after (.removeRoom .se 14) vacant14).rooms[14]
    = { occupancy := .unused, generation := 6, issueCounter := 22, privacy := .off } := by decide +kernel

/-- R22, R23: HOLD ROOM and FREE ROOM under SE's claim. -/
theorem test_hold_room : (after (.holdRoom .se 14) (vacant14.loadLease 14 .se)).rooms[14].occupancy = .held 514 := by
  decide +kernel
theorem test_free_room : (after (.freeRoom .se 14) ((vacant14.loadLease 14 .se).setRoom 14
    { vacant14.rooms[14] with occupancy := .held 514 })).rooms[14].occupancy = .vacant 514 := by decide +kernel

/-- Chapter 2.4, the contested room: SE's CLAIM with PREEMPT takes FO's claim with 85 s left, and FO hears of it. -/
theorem test_claim_preempts :
    let t := after (.claim .se 14 1) (vacant14.setClaim 14 (some { holder := .fo, lease := 85 }))
    t.claims[14] = some { holder := .se, lease := 120 } ∧ t.fo.events = [.claimLost 14 .preempted]
    ∧ (details t).getLast? = some (.claimPreempt 85) := by decide +kernel

/-- Chapter 2.4: SE's CLAIM with PREEMPT clear is refused and reports FO, code 1, and 90 s. -/
theorem test_claim_elsewhere :
    let t := after (.claim .se 14 0) (vacant14.setClaim 14 (some { holder := .fo, lease := 90 }))
    (status .se t, body .se t) = (some .claimedElsewhere, [1, 90]) := by decide +kernel

theorem test_release_claim : (after (.releaseClaim .fo 14) vacant14).claims[14] = none := by decide +kernel

/-- Chapter 2.4: a lease's expiry frees the claim with CLAIM_LOST (EXPIRED). -/
theorem test_claim_lease_expiry :
    let t := after (.claimLeaseExpiry 14) (vacant14.setClaim 14 (some { holder := .fo, lease := 0 }))
    t.claims[14] = none ∧ t.fo.events = [.claimLost 14 .expired] := by decide +kernel

/-- R29 and chapter 11.4: READ ROOM of slot 14, LET (3), number 514, generation 7, issue counter 24, then the stay. -/
theorem test_read_room : (body .fo (after (.readRoom .fo 14) let14)).take 6 = [3, 0x02, 0x02, 7, 0, 24] := by decide +kernel

/-! ## Credentials (chapter 3) -/

/-- Chapter 11.2: the image of card 12588, byte by byte. -/
theorem test_image_bytes : (card14 12588 23 true false).imageBytes 49575
    = [0xC1, 0xA7, 0x00, 0x31, 0x2C, 0x11, 0x0E, 0x07, 0x00, 0x17, 0x25, 0x1C, 0x03, 0x48, 0x25, 0x1F, 0x02, 0xD0, 0xB3, 0xA4] := by
  decide +kernel

/-- Chapter 3.3: card 12589's check word is 45730, and W4 read as 19 leaves the image of 12588 not intact. -/
theorem test_check_word : checkWord ((card14 12589 24 false true).words 49575) = 45730 := by decide +kernel
theorem test_worn_stripe : (CardImage.intact image12588, CardImage.intact (image12588.set 4 19)) = (true, false) := by decide +kernel

/-- Chapter 3.4, the counter wrapping past held numbers: the batch takes 16,777,215 and 2, and the counter stands at 3. -/
theorem test_counter_wraps :
    let held (n : Nat) : Credential := { card14 n 1 true true with cls := 4, binding := none }
    let s := { vacant14 with table := { cards := [held 1, held 16777214], revoked := [], nextNumber := 16777214, site := 49575 } }
    let r := s.issueBatch .fo 14 1 stay14.window 2
    (r.2.map Credential.number, r.1.table.nextNumber) = ([16777215, 2], 3) := by decide +kernel

theorem test_issue_staff :
    let t := after (.issueStaff .se 5 { day := 9500, minute := 0 } { day := 9600, minute := 0 } 0) day9500
    (status .se t, t.table.cards.map fun c => (c.number, c.cls, c.issueNumber)) = (some .ok, [(12588, 5, 1)]) := by
  decide +kernel

theorem test_revoke :
    let t := after (.revoke .se 12588 3) let14
    (t.table.find 12588).map Credential.state = some (.revoked .lost) ∧ t.table.revoked = [12588] := by decide +kernel

/-- R61: FO may not revoke a card of a room whose claim it does not hold. -/
theorem test_revoke_not_claimed : status .fo (after (.revoke .fo 12588 3) (let14.setClaim 14 none)) = some .notClaimed := by
  decide +kernel

theorem test_suspend : ((after (.suspend .se 12588) let14).table.find 12588).map Credential.state = some .suspended := by
  decide +kernel
theorem test_resume : ((after (.resume .se 12588) { let14 with table := let14.table.update 12588 fun c =>
    { c with state := .suspended } }).table.find 12588).map Credential.state = some .active := by decide +kernel

/-- R44: the site code cannot be set while a record is held. -/
theorem test_set_site : (after (.setSite .se 0x1234) day9500).table.site = 0x1234 := by decide +kernel
theorem test_set_site_refused : status .se (after (.setSite .se 0x1234) let14) = some .wrongState := by decide +kernel

/-- R66: READ CARD of an unknown card is NOT_FOUND with the table summary: 2 records, none revoked, next 12590, site 49575. -/
theorem test_read_card : body .fo (after (.readCard .fo 5) let14) = [0, 2, 0, 0, 0, 0, 0, 0, 0x31, 0x2E, 0xC1, 0xA7] := by
  decide +kernel

/-! ## Units and buses (chapter 4) -/

theorem test_configure_unit : (after (.configureUnit .se 1 14 1 0 14 9) vacant14).units[(13 : UnitId)].kind = .roomLock 14 := by
  decide +kernel
theorem test_remove_unit : (after (.removeUnit .se 1 14) let14).units[(13 : UnitId)] = UnitRec.cold := by decide +kernel
theorem test_readmit_unit :
    let s := let14.setUnit 13 { let14.units[(13 : UnitId)] with quarantined := true }
    (details (after (.readmitUnit .se 1 14) s)).getLast? = some (.readmit 13) := by decide +kernel

/-- R75: READ UNIT of A-14: kind 1, class 0, slot 14, gate 0, quarantined 0, ONLINE 2, misses 0, expected bit 1. -/
theorem test_read_unit : (body .fo (after (.readUnit .fo 1 14) let14)).take 8 = [1, 0, 14, 0, 0, 2, 0, 1] := by decide +kernel

/-- R75 and Table 11-1: the strike is sent as 1 for RELEASED, after the mode. -/
theorem test_read_unit_strike :
    let s := let14.setUnit 13 { let14.units[(13 : UnitId)] with lastStatus := some { mode := .storm, released := true } }
    ((body .fo (after (.readUnit .fo 1 14) s)).drop 8).take 2 = [1, 1] := by decide +kernel

/-- R93, R94: the four counts as they stood, each in two bytes. -/
theorem test_read_bus : (body .se (after (.readBus .se 1) (let14.setBus .a { let14.busA with crcErrors := 258 }))).take 3
    = [1, 2, 0] := by decide +kernel
theorem test_clear_bus_counters : (after (.clearBusCounters .se 1) (let14.setBus .a { let14.busA with crcErrors := 258 })).busA
    = let14.busA := by decide +kernel

/-- The CRC-16 of R68 over the digits 1 to 9, the check value 0x29B1 usual for this polynomial and initial value. -/
theorem test_crc16 : crc16 [0x31, 0x32, 0x33, 0x34, 0x35, 0x36, 0x37, 0x38, 0x39] = 0x29B1 := by decide +kernel

/-- R78: a pending MODE broadcast goes to address 0 with kind 0x12 and the mode. -/
theorem test_mode : ((after (.mode .a) let14).busA.sent.take 4, (after (.mode .a) let14).busA.broadcast)
    = ([0x00, 0x12, 1, 0], false) := by decide +kernel

/-- R80: the POLL to A-14 carries the mode, no relock, and the accepted-answer bit 1. -/
theorem test_poll : ((after (.poll .a) (let14.setBus .a { let14.busA with broadcast := false })).busA.sent).take 6
    = [14, 0x10, 3, 0, 0, 1] := by decide +kernel

/-- Chapter 4.6, A-30: the third miss makes the unit SILENT with its record and event. -/
theorem test_poll_timeout :
    let s := polling.setUnit 13 { polling.units[(13 : UnitId)] with misses := 2 }
    let t := after (.pollTimeout .a) s
    t.units[(13 : UnitId)].link = .silent ∧ t.se.events = [.unitSilent 13] ∧ t.busA.timeouts = 1 := by decide +kernel

/-- Chapter 4.7, the tamper at A-14: TAMPER and DEADBOLT_ON with a presentation, in one answer with bit 0. -/
theorem test_answer_tamper :
    let a : AnswerContent := { bit := false, status := { mode := .normal, released := true }, reports := [.tamper, .deadboltOn]
                               card := some (.outer, image12588) }
    let s := granted.setBus .a { granted.busA with broadcast := false, position := 14, flight := .poll 13 false }
    let t := after (.answer .a (frameOf 14 0x20 a.payload)) s
    t.units[(13 : UnitId)].quarantined = true ∧ t.units[(13 : UnitId)].relock = true ∧ t.grants[(13 : UnitId)] = none
    ∧ t.rooms[14].privacy = .on ∧ t.busA.due = some { unit := 13, verdict := .deny .quarantine } := by decide +kernel

/-- Chapter 4.6, B-7: an answer whose bit equals the expected bit is a repeat and is discarded whole. -/
theorem test_answer_repeat :
    let a : AnswerContent := { bit := true, status := { mode := .normal, released := false }, reports := [.deadboltOn], card := none }
    (after (.answer .a (frameOf 14 0x20 a.payload)) polling).rooms[14].privacy = .off := by decide +kernel

theorem test_verdict :
    let s := let14.setBus .a { let14.busA with due := some { unit := 13, verdict := .grant 5 } }
    (after (.verdict .a) s).busA.sent.take 6 = [14, 0x11, 3, 1, 5, 0] := by decide +kernel

/-- R114: the ACK of a GRANT marks the grant acknowledged. -/
theorem test_ack : (after (.ack .a (frameOf 14 0x21 [])) verdictSent).grants[(13 : UnitId)].map Grant.acknowledged = some true := by
  decide +kernel
theorem test_verdict_timeout : (after (.verdictTimeout .a) verdictSent).busA.timeouts = 1 := by decide +kernel

/-! ## Decisions (chapter 5) -/

/-- Chapter 5.1: the guest's card is granted at its own room lock. -/
theorem test_present_granted : (let14.present 13 .outer image12588).2 = .grant 5 := by decide +kernel

/-- R98: the third misread in a row raises CARD_FAULT. -/
theorem test_third_misread :
    let s := let14.setUnit 13 { let14.units[(13 : UnitId)] with misreads := 2 }
    let r := s.present 13 .outer (image12588.set 4 19)
    r.2 = .reread ∧ r.1.se.events = [.cardFault 13] ∧ r.1.units[(13 : UnitId)].misreads = 0 := by decide +kernel

theorem test_set_condition : (after (.setCondition .se 1 2 15) let14).decision.conditions[1][2] = .onShiftVacantOrHeld := by
  decide +kernel
theorem test_set_entrance_class : (after (.setEntranceClass .se 2 0 1000 1) let14).decision.entrances[2]
    = { unlock := 1, ajarLimit := 600, exposed := true } := by decide +kernel
theorem test_set_shift : status .se (after (.setShift .se 4 1440 0) let14) = some .badValue := by decide +kernel

/-- R115: a grant's expiry concludes it GRANT_UNUSED. -/
theorem test_pending_grant_expiry :
    let s := { granted with grants := granted.grants.map fun g => g.map fun g => { g with expiry := 0 } }
    let t := after (.pendingGrantExpiry 13) s
    t.grants[(13 : UnitId)] = none ∧ t.power.grantTally = 0 := by decide +kernel

theorem test_ajar_timer_expiry :
    let t := after (.ajarTimerExpiry 13) (let14.setAjar 13 (some { remaining := 0, limit := 60 }))
    t.units[(13 : UnitId)].entrance = .ajar ∧ t.se.events = [.ajar 13] := by decide +kernel

/-! ## Minibar accounts (chapter 6) -/

/-- Chapter 6.5, the first report of the worked stay: 2 of slot 0 at 600. -/
theorem test_items_charged :
    let t := inUse.report 133 (.items 0 2 0)
    (t.accounts[14].charge, t.accounts[14].remaining, t.accounts[14].tally[0]) = (1200, 1800, 2) := by decide +kernel

/-- Chapter 6.5, the second session: 900 charged with 800 left brings the overdraft to 100. -/
theorem test_overdraft :
    let a := { Account.cold with granted := 3000, remaining := 800, charge := 2200 }.applyCharge 900
    (a.charge, a.remaining, a.overdraft) = (3100, 0, 100) := by decide +kernel

/-- Chapter 6.5: the credit of 450 clears the overdraft of 100 and leaves 350. -/
theorem test_credit :
    let a := { Account.cold with granted := 3000, charge := 3100, overdraft := 100 }.applyCredit 450
    (a.charge, a.remaining, a.overdraft) = (2650, 350, 0) := by decide +kernel

/-- Chapter 6.5, the interim settlement: the allowance of 3000 is whole again. -/
theorem test_settle :
    let s := let14.setAccount 14 { let14.accounts[14] with remaining := 350, charge := 2650 }
    let t := after (.settle .fo 14) s
    (t.accounts[14].charge, t.accounts[14].remaining, (body .fo t).getLast?) = (0, 3000, some 1) := by decide +kernel

theorem test_set_prices : (after (.setPrices .fo (.replicate 12 0x0102)) let14).prices = .replicate 12 258 := by decide +kernel
theorem test_set_reserve : (after (.setReserve .fo 0x0102) let14).reserve = 258 := by decide +kernel

/-- R134: a session's expiry ends it UNOPENED. -/
theorem test_minibar_session_expiry :
    let s := { inUse with sessions := inUse.sessions.map fun x => x.map fun x => { x with phase := .awaitingOpen 0 } }
    (details (after (.minibarSessionExpiry 133) s)).getLast? = some (.minibarSession .guest .unopened false 0) := by decide +kernel

/-! ## Gates and wing modes (chapter 7) -/

/-- The schedule of chapter 7.4 before the fifth entry. -/
def scheduled : State :=
  { day9500 with gates := { day9500.gates with
      enabled := 0x07
      schedule := [{ minute := 360, gates := 0x03, level := .opened }, { minute := 420, gates := 0x04, level := .opened },
                   { minute := 1200, gates := 0x07, level := .shut }, { minute := 1320, gates := 0x02, level := .shut }] } }

/-- Chapter 7.4: the entry of minute 1200 for gate 1 is inserted at position 3, and the list's length is 5. -/
theorem test_add_schedule_entry : body .se (after (.addScheduleEntry .se 1200 0x02 1) scheduled) = [3, 5] := by decide +kernel

/-- Chapter 7.4: the levels of gates 0 to 3 at minutes 0, 420, 1200 and 1320. -/
theorem test_scheduled_levels :
    let schedule := (after (.addScheduleEntry .se 1200 0x02 1) scheduled).gates.schedule
    [0, 420, 1200, 1320].map (fun m => ([0, 1, 2, 3] : List Gate).map (scheduledLevel schedule m))
      = [[.shut, .shut, .shut, .shut], [.opened, .opened, .opened, .shut], [.shut, .opened, .shut, .shut],
         [.shut, .shut, .shut, .shut]] := by decide +kernel

theorem test_remove_schedule_entry : body .se (after (.removeScheduleEntry .se 1) scheduled) = [0x01, 0xA4, 0x04, 1, 3] := by
  decide +kernel
theorem test_clear_schedule : body .se (after (.clearSchedule .se) scheduled) = [4] := by decide +kernel

/-- R148: a set that names gate 6 is refused. -/
theorem test_set_gate : status .se (after (.setGate .se 0x40 0) scheduled) = some .badValue := by decide +kernel

/-- R157: READ GATES begins with the mode, the EVAC line (deasserted 2), the enable mask and the exposed flags. -/
theorem test_read_gates : (body .fo (after (.readGates .fo) scheduled)).take 4 = [0, 2, 0x07, 0] := by decide +kernel

theorem test_gate_pulse_expiry :
    let s := { scheduled with gates := { scheduled.gates with pulses := scheduled.gates.pulses.set 1 (some 0) } }
    (after (.gatePulseExpiry 1) s).gates.outputs[1] = .shut := by decide +kernel

/-- Chapter 5.6: a change into LOCKDOWN cuts the grant at A-14 with relock set. -/
theorem test_set_mode :
    let t := after (.setMode .se 2) granted
    t.grants[(13 : UnitId)] = none ∧ t.units[(13 : UnitId)].relock = true ∧ t.fo.events = [.modeChanged .lockdown] := by
  decide +kernel

/-- Chapter 7.9: RESTORE is refused while the line is asserted. -/
theorem test_restore : status .se (after (.restore .se) { day9500 with wing := { mode := .evacuation, evacSampled := true
                                                                                 evacPin := true } }) = some .evacActive := by
  decide +kernel

/-- Chapter 7.9, step 1 of the worked evacuation: EVAC, MODE_CHANGE and the session's record, in that order. -/
theorem test_evac_rising_edge :
    let t := after .evacRisingEdge inUse
    (details t).drop 1 = [.evac .normal, .modeChange .normal .evacuation, .minibarSession .guest .evacuation true 0]
    ∧ t.units[(133 : UnitId)].relock = true ∧ t.fo.events = [.evacLine true, .modeChanged .evacuation] := by decide +kernel

/-- Chapter 7.9, step 4: the falling edge leaves the mode. -/
theorem test_evac_falling_edge :
    let t := after .evacFallingEdge { day9500 with wing := { mode := .evacuation, evacSampled := true, evacPin := true } }
    t.wing.mode = .evacuation ∧ (details t).getLast? = some .evacClear := by decide +kernel

/-! ## The entry log and the ports (chapters 8 and 9) -/

/-- R176: SE's first READ LOG returns the one record of the cold start, after its count. -/
theorem test_read_log : (body .se (after (.readLog .se 8) day9500)).take 1 = [1] := by decide +kernel
theorem test_set_log_policy : (after (.setLogPolicy .fo 1) day9500).log.fo.policy = .hold := by decide +kernel
theorem test_set_log_threshold : (after (.setLogThreshold .fo 0) day9500).log.fo.threshold = 1 := by decide +kernel

/-- R181: the store that brings the unread count to the threshold queues LOG_THRESHOLD with it. -/
theorem test_log_threshold :
    let s := { day9500 with log := { day9500.log with fo := { day9500.log.fo with threshold := 2 } } }
    (s.append .controller none none .evacClear).fo.events = [.logThreshold 2] := by decide +kernel

/-- R182: bytes that begin with neither REQ nor RSP change nothing. -/
theorem test_transaction_discarded : after (.transactionDiscarded .fo [0x11, 0x22]) day9500 = day9500 := rfl

/-- R183: the unknown code 0x09 with its length of 0 right is BAD_REQUEST; a body one byte short is BAD_LENGTH. -/
theorem test_bad_request : status .fo (after (.badRequest .fo [0xA5, 0x09, 0x00]) day9500) = some .badRequest := by decide +kernel
theorem test_bad_length : status .fo (after (.badRequest .fo [0xA5, 0x08, 0x01]) day9500) = some .badLength := by decide +kernel

/-- Chapter 11.4: REQ, code 0x30, length 2, slot 14 and PREEMPT are the CLAIM of slot 14. -/
theorem test_request_bytes : examine .fo [0xA5, 0x30, 0x02, 0x0E, 0x00] = .request (.claim .fo 14 0) := by decide

/-- R185: NONE, flags 0 and an empty body are sent while the slot is empty, and 0 after the end. -/
theorem test_response_transaction : (after (.responseTransaction .fo 6) day9500).fo.sent = [1, 0, 0, 0, 0, 0] := by decide +kernel
theorem test_rsp_byte_received : (after (.rspByteReceived .fo) day9500).fo.fixed.map Fixed.status = some .none := by
  decide +kernel

/-- R190: READ EVENTS returns the oldest events, each in 4 bytes, with EVENTS_LOST and the number still queued. -/
theorem test_read_events :
    let s := day9500.setPort .se { day9500.se with events := [.forced 13, .clockSet], attn := true }
    body .se (after (.readEvents .se 1) s) = [1, 1, 1, 14, 0, 0, 1] := by decide +kernel

theorem test_set_supervision : (after (.setSupervision .fo 0) day9500).fo.timer = some 1 := by decide +kernel

/-- R192: a wrong token expires the supervision, and the response reports LINK_LOST (2) and 0 s. -/
theorem test_keepalive :
    let s := vacant14.setPort .fo { vacant14.fo with supervised := true, interval := 30, timer := some 9 }
    let t := after (.keepalive .fo 0x1234) s
    (status .fo t, body .fo t, t.claims[14]) = (some .linkLost, [2, 0], none) := by decide +kernel

/-- R193: the expiry frees the claim of slot 14, sets the policy to YIELD and tells SE. -/
theorem test_supervision_timer_expiry :
    let s := vacant14.setPort .fo { vacant14.fo with supervised := true, interval := 30, timer := some 0 }
    let t := after (.supervisionTimerExpiry .fo) s
    t.fo.events = [.claimLost 14 .link] ∧ t.se.events = [.peerLinkLost]
    ∧ (details t).getLast? = some (.linkExpired 1 .yields) := by decide +kernel

/-- R195: IDENTIFY begins with the vendor code, part 128, revision 1 and the port. -/
theorem test_identify : (body .se (after (.identify .se) day9500)).take 5 = [0x53, 0x47, 128, 1, 2] := by decide +kernel

/-! ## Retention and starts (chapter 10) -/

/-- Chapter 10.4, the worked outage: a grant and a session in flight when main power falls. -/
theorem test_main_power_fall : (after .mainPowerFall granted).power
    = { phase := .off, retained := true, latch := false, grantTally := 1, sessionTally := 0 } := by decide +kernel
theorem test_warm_start :
    let t := after .warmStart (after .mainPowerFall granted)
    t.rooms[14].privacy = .unknown ∧ t.claims[14] = none ∧ t.units[(13 : UnitId)].link = .unknown := by decide +kernel
theorem test_start_end :
    let t := after .startEnd (after .warmStart (after .mainPowerFall granted))
    (details t).getLast? = some (.start true 1 0) ∧ t.power.grantTally = 0 ∧ t.running = true := by decide +kernel
theorem test_retention_lost : (after .retentionLost (after .mainPowerFall granted)).power.latch = true := by decide +kernel
theorem test_cold_start :
    let t := after .coldStart { let14 with power := { let14.power with phase := .off, retained := false, latch := true } }
    t.rooms[14] = Room.cold ∧ details t = [.start false 0 0] := by decide +kernel
theorem test_rst_asserted : (after .rstAsserted polling).busA.flight = .none := by decide +kernel

/-! ## Witnesses: for each statement with hypotheses, a state and operands that meet those of each of its clauses -/

/-- A port whose link is lost. -/
def linkLost (p : Port) (s : State) : State := s.setPort p { s.port p with supervised := true, interval := 30, linkLost := true }

/-- A port whose slot holds a response. -/
def slotFull (p : Port) (s : State) : State := s.withResponse p 0 .ok []

/-- The part with a start in progress. -/
def starting : State := after .warmStart (after .mainPowerFall granted)

/-- The room slot 14 HELD, its claim SE's. -/
def held14 : State := (vacant14.loadLease 14 .se).setRoom 14 { vacant14.rooms[14] with occupancy := .held 514 }

/-- The wing in EVACUATION with the line asserted or not. -/
def evacuated (asserted : Bool) : State :=
  { let14 with wing := { mode := .evacuation, evacSampled := asserted, evacPin := asserted } }

/-- A record of the log. -/
def someRecord (seq : Nat) : LogRecord := { LogRecord.startCold with seq := seq }

/-- A log of 4096 records numbered from 0, SE's HOLD cursor past the first of them by `n` and FO's YIELD cursor on the first. -/
def fullLog (n : Nat) : EntryLog :=
  { records := someRecord 0 :: (List.range 4095).map fun k => someRecord (k + 1)
    next := 4096, lost := 0
    fo := { cursor := 0, policy := .yields, skipped := 0, threshold := 3072 }
    se := { cursor := n, policy := .hold, skipped := 0, threshold := 3072 } }

/-- A REVOKED staff card. -/
def spent (number : Nat) : Credential :=
  { card14 number 1 true true with cls := 4, binding := none, state := .revoked .withdrawn }

/-- A table of 1024 REVOKED staff cards. -/
def fullTable : CardTable :=
  { cards := (List.range 1024).map fun k => spent (k + 1), revoked := (List.range 1024).map fun k => k + 1, nextNumber := 1
    site := 49575 }

/-! ### Commands, transactions and requests -/

theorem witness_StepRunsFrontCommand : State.reset.pending = [] := by decide

theorem witness_RequestBytesAndRequestsAgree :
    encode (.claim .fo 14 0) = some (.fo, [0xA5, 0x30, 0x02, 0x0E, 0x00])
    ∧ examine .se [0xA5, 0x40, 0x00] = .request (.identify .se) := by decide

theorem witness_BadRequestIsAnswered :
    day9500.running = true ∧ (day9500.port .fo).slot = none ∧ ([] : List Byte).length < 2 ∧ ([0x08] : List Byte).length < 2
    ∧ 250 < (251 : Byte).toNat ∧ (List.replicate 249 (0 : Byte)).length ≠ (250 : Byte).toNat
    ∧ (List.replicate 250 (0 : Byte)).length = (250 : Byte).toNat ∧ (∀ r : Request, r.code ≠ (0x09 : Byte).toNat)
    ∧ (250 : Byte).toNat ≠ Request.setGrace.bodyLength ∧ (0 : Byte).toNat ≠ Request.setGrace.bodyLength
    ∧ encode (.setGrace .fo 7) = some (.fo, [0xA5, 0x08, 0x01, 0x07])
    ∧ ((slotFull .fo day9500).running = true ∧ ((slotFull .fo day9500).port .fo).slot.isSome = true) ∧ starting.running = false
    ∧ ([0x5A] : List Byte).head? ≠ some 0xA5 := by
  refine ⟨by decide +kernel, by decide +kernel, by decide, by decide, by decide, by decide +kernel, by decide +kernel, ?_, by decide,
    by decide, by decide, by decide +kernel, by decide +kernel, by decide⟩
  intro r; cases r <;> decide

theorem witness_EveryRequestIsAnsweredOrDiscarded :
    (Instr.claim .fo 14 0).request? = some (.fo, .claim, [14, 0])
    ∧ day9500.running = true ∧ (day9500.port .fo).slot = none
    ∧ ((slotFull .fo day9500).running = true ∧ ((slotFull .fo day9500).port .fo).slot.isSome = true)
    ∧ starting.running = false
    ∧ status .fo (after (.claim .fo 128 0) day9500) ≠ some .ok := by decide +kernel

theorem witness_PortChecksRefuseRequests :
    (Instr.setMode .fo 1).request? = some (.fo, .setMode, [1]) ∧ Request.setMode.permitted .fo = false
    ∧ Request.setGrace.permitted .se = false ∧ (linkLost .fo day9500).running = true
    ∧ ((linkLost .fo day9500).port .fo).slot = none ∧ ((linkLost .fo day9500).port .fo).linkLost = true
    ∧ Request.claim.permitted .fo = true ∧ Request.claim ∉ [Request.keepalive, .readEvents, .identify] := by decide +kernel

theorem witness_ResponseTransactionReadsSlot :
    let full := after (.rspByteReceived .fo) ((day9500.withResponse .fo 0 .ok [7, 8]))
    let empty := after (.rspByteReceived .fo) day9500
    day9500.running = true ∧ starting.running = false ∧ (day9500.port .fo).fixed = none ∧ full.running = true
    ∧ (full.port .fo).fixed = some { status := .ok, overrun := false, eventsPending := false, eventsLost := false, body := [7, 8] }
    ∧ 4 + [7, 8].length ≤ 6 ∧ 5 < 4 + [7, 8].length ∧ Status.ok ≠ .none
    ∧ (empty.port .fo).fixed = some { status := .none, overrun := false, eventsPending := false, eventsLost := false, body := [] }
    ∧ 4 + ([] : List Byte).length ≤ 4 := by decide +kernel

/-! ### Events and supervision -/

theorem witness_EventsAreQueuedAndRead :
    let queued (n : Nat) := day9500.setPort .se { day9500.se with events := List.replicate n .clockSet, attn := true }
    ((queued 15).port .se).events.length < 16 ∧ 16 ≤ ((queued 16).port .se).events.length
    ∧ (queued 16).Ready .readEvents .se ∧ (1 ≤ (1 : Byte).toNat ∧ (1 : Byte).toNat ≤ 8) ∧ (1 ≤ (8 : Byte).toNat ∧ (8 : Byte).toNat ≤ 8)
    ∧ ((0 : Byte).toNat = 0 ∨ 8 < (0 : Byte).toNat) ∧ ((9 : Byte).toNat = 0 ∨ 8 < (9 : Byte).toNat) := by decide +kernel

theorem witness_SupervisionRequests :
    let up := after (.setSupervision .fo 30) day9500
    let up := up.setPort .fo { up.fo with slot := none }
    day9500.Ready .setSupervision .fo ∧ (day9500.port .fo).supervised = false ∧ up.Ready .setSupervision .fo
    ∧ (up.port .fo).supervised = true ∧ day9500.Ready .keepalive .fo ∧ up.Ready .keepalive .fo ∧ (up.port .fo).linkLost = false
    ∧ (linkLost .fo day9500).Ready .keepalive .fo ∧ ((linkLost .fo day9500).port .fo).supervised = true
    ∧ ((linkLost .fo day9500).port .fo).linkLost = true ∧ (0x5A3D : Half) ≠ 0x5A3C := by decide +kernel

theorem witness_SupervisionExpires :
    let due := vacant14.setPort .fo { vacant14.fo with supervised := true, interval := 30, timer := some 0 }
    let near := vacant14.setPort .fo { vacant14.fo with supervised := true, interval := 30, timer := some 1 }
    due.running = true ∧ (due.port .fo).timer = some 0 ∧ (due.port .fo).linkLost = false ∧ (near.port .fo).timer ≠ some 0
    ∧ (vacant14.port .fo).timer ≠ some 0 := by decide +kernel

/-! ### Requests that read, and the log -/

theorem witness_ReadRequestsChangeNothing :
    let14.Ready .readClock .fo ∧ let14.Ready .readRoom .fo ∧ 128 ≤ (128 : Byte).toNat ∧ let14.Ready .readCard .fo
    ∧ (12591 : Triple) ≠ 0 ∧ let14.table.find (12591 : Triple).toNat = none
    ∧ let14.table.find (12588 : Triple).toNat = some (card14 12588 23 true false) ∧ let14.Ready .readUnit .fo
    ∧ (((3 : Byte) ≠ 1 ∧ (3 : Byte) ≠ 2) ∨ (1 : Byte).toNat = 0 ∨ 120 < (1 : Byte).toNat)
    ∧ (((1 : Byte) ≠ 1 ∧ (1 : Byte) ≠ 2) ∨ (121 : Byte).toNat = 0 ∨ 120 < (121 : Byte).toNat)
    ∧ let14.Ready .readBus .fo ∧ ((0 : Byte) ≠ 1 ∧ (0 : Byte) ≠ 2) ∧ let14.Ready .readGates .fo ∧ let14.Ready .identify .fo := by
  decide +kernel

theorem witness_AppendStoresDiscardsOrLoses :
    EntryLog.cold.records.length < 4096
    ∧ (∃ rest, (fullLog 0).records = someRecord 0 :: rest) ∧ 4096 ≤ (fullLog 0).records.length
    ∧ (∃ p : Port, ((fullLog 0).reader p).policy = .hold ∧ ((fullLog 0).reader p).cursor = (someRecord 0).seq)
    ∧ (∃ rest, (fullLog 1).records = someRecord 0 :: rest) ∧ 4096 ≤ (fullLog 1).records.length
    ∧ (∀ p : Port, ((fullLog 1).reader p).policy = .hold → ((fullLog 1).reader p).cursor ≠ (someRecord 0).seq) := by
  refine ⟨by decide, ⟨_, rfl⟩, by simp [fullLog], ⟨.se, rfl, rfl⟩, ⟨_, rfl⟩, by simp [fullLog], ?_⟩
  intro p; cases p <;> simp [fullLog, EntryLog.reader, someRecord]

theorem fullLog_sound : (fullLog 1).Sound := by
  refine ⟨by simp [fullLog], by decide, by decide, ?_, ?_, ?_, ?_⟩
  · rintro ⟨k, hk⟩
    have hseq : (fullLog 1).records[k].seq = k := by
      cases k with
      | zero => rfl
      | succ k => simp [fullLog, someRecord]
    have hlen : (fullLog 1).records.length = 4096 := by simp [fullLog]
    have hn : k < 4096 := lt_of_lt_of_eq hk hlen
    have hnext : (fullLog 1).next = 4096 := rfl
    have hle : k ≤ 4096 := hn.le
    simp only [Fin.getElem_fin, hseq, hlen, hnext, seqDistance, Config.seqModulus, hle, if_true, and_true]
    omega
  · intro r hr n hn
    simp only [fullLog, List.mem_cons, List.mem_map] at hr
    obtain rfl | ⟨k, -, rfl⟩ := hr <;> simp [someRecord, LogRecord.startCold] at hn
  · refine ⟨by decide, ?_, by decide, by decide, by decide⟩
    simp [EntryLog.unread, EntryLog.reader, seqDistance, fullLog]
  · refine ⟨by decide, ?_, by decide, by decide, by decide⟩
    simp [EntryLog.unread, EntryLog.reader, seqDistance, fullLog]

theorem witness_LogRequestsActOnOwnReader :
    day9500.log.Sound ∧ day9500.Ready .readLog .se ∧ (1 ≤ (1 : Byte).toNat ∧ (8 : Byte).toNat ≤ 8)
    ∧ ((0 : Byte).toNat = 0 ∨ 8 < (0 : Byte).toNat) ∧ ((9 : Byte).toNat = 0 ∨ 8 < (9 : Byte).toNat)
    ∧ day9500.Ready .setLogPolicy .se ∧ ((0 : Byte) ≠ 1 ∧ (0 : Byte) ≠ 2) ∧ ((3 : Byte) ≠ 1 ∧ (3 : Byte) ≠ 2)
    ∧ day9500.Ready .setLogThreshold .se := by decide +kernel

/-- The falling edge of the line on a full log whose first record the HOLD cursor of SE has passed. -/
def fullLogState : State :=
  { evacuated true with log := fullLog 1, pending := [.evacFallingEdge] }

theorem witness_HoldCursorKeepsItsRecords :
    fullLogState.log.Sound ∧ step fullLogState = .next (after .evacFallingEdge { fullLogState with pending := [] })
    ∧ fullLogState.pending.head? ≠ some .coldStart ∧ someRecord 0 ∈ fullLogState.log.records
    ∧ someRecord 0 ∉ (after .evacFallingEdge { fullLogState with pending := [] }).log.records
    ∧ (fullLogState.log.reader .se).policy = .hold
    ∧ ((after .evacFallingEdge { fullLogState with pending := [] }).log.reader .se).policy = .hold := by
  refine ⟨fullLog_sound, rfl, by decide, List.mem_cons_self .., by decide +kernel, rfl, by decide +kernel⟩

/-! ### The clock and settings -/

theorem witness_TicksAdvanceClockAndTimers :
    let at58 := { day9500 with clock := { day9500.clock with second := 58 } }
    let at59 := { day9500 with clock := { day9500.clock with second := 59, prescaler := 32767 } }
    let ended := { day9500 with clock := { day9500.clock with day := 65535, minute := 1439, second := 59, clockEnd := true } }
    let empty := after .retentionLost (after .mainPowerFall day9500)
    (at58.power.retained = true ∧ at58.running = true ∧ (at58.clock.clockEnd = true ∨ at58.clock.second < 59))
    ∧ (ended.running = true ∧ (ended.clock.clockEnd = true ∨ ended.clock.second < 59))
    ∧ (at59.running = true ∧ at59.clock.clockEnd = false ∧ 59 ≤ at59.clock.second)
    ∧ (starting.power.retained = true ∧ starting.running = false)
    ∧ ({ day9500 with clock := { day9500.clock with prescaler := 32766 } } : State).clock.prescaler < 32767
    ∧ at59.clock.prescaler = 32767 ∧ empty.power.retained = false
    ∧ (inUse.sessions[(133 : UnitId)].map Session.phase = some .inUse)
    ∧ (inUse.setSession 133 (inUse.sessions[(133 : UnitId)].map fun x => { x with phase := .awaitingOpen 7 })).sessions[(133 : UnitId)]
      = some { kind := .guest, card := 12588, slot := 14, removed := .replicate 12 0, phase := .awaitingOpen 7 } := by
  decide +kernel

/-- A state in which a claim, a grant and a port's supervision each have one second left. -/
def lastSecond : State :=
  { granted with
    claims := granted.claims.set 14 (some { holder := .fo, lease := 1 })
    grants := granted.grants.map fun g => g.map fun g => { g with expiry := 1 }
    fo := { granted.fo with supervised := true, interval := 30, timer := some 1 } }

theorem witness_TicksAdvanceClockAndTimers_expiries :
    lastSecond.power.retained = true ∧ lastSecond.running = true
    ∧ (∀ p : Port, (lastSecond.port p).timer.isSome = true → (lastSecond.port p).linkLost = false)
    ∧ exec .secondTick lastSecond = .next (after .secondTick lastSecond)
    ∧ lastSecond.leaseOf 14 = 1 ∧ (lastSecond.port .fo).timer = some 1 := by
  refine ⟨by decide +kernel, by decide +kernel, ?_, rfl, by decide +kernel, by decide +kernel⟩
  intro p; cases p <;> decide +kernel

theorem witness_WindowsAreDerivedAndTested :
    (1439 < 1440 ∨ 1439 < 0 ∨ 5 * 1440 + 0 ≤ 4 * 1440 + 1440 ∨ 5 * 1440 + 0 ≤ 0)
    ∧ (840 ≤ 1439 ∧ 660 ≤ 1439 ∧ 9500 * 1440 + 840 < 9503 * 1440 + 660 ∧ 13680830 < 9503 * 1440 + 660)
    ∧ 13680839 < stay14.window.start.day * 1440 + stay14.window.start.minute
    ∧ stay14.window.start.day * 1440 + stay14.window.start.minute ≤ 13680840
    ∧ 13685039 < stay14.window.stop.day * 1440 + stay14.window.stop.minute
    ∧ stay14.window.stop.day * 1440 + stay14.window.stop.minute ≤ 13685040 := by decide +kernel

theorem witness_ShiftTestCoversItsMinutes :
    ({ opens := 420, closes := 421 } : Shift).opens < ({ opens := 420, closes := 421 } : Shift).closes
    ∧ ({ opens := 421, closes := 420 } : Shift).closes < ({ opens := 421, closes := 420 } : Shift).opens
    ∧ ({ opens := 600, closes := 600 } : Shift).opens = ({ opens := 600, closes := 600 } : Shift).closes
    ∧ (let s := { let14 with decision := { let14.decision with conditions := .replicate 8 (.replicate 8 .onShift) } }
       s.decision.conditions[(1 : Fin 8)][s.units[(13 : UnitId)].entranceClass] = .onShift) := by decide +kernel

theorem witness_ClockAndFrontOfficeSettingsAreStored :
    day9500.Ready .setClock .se ∧ (1439 : Half).toNat ≤ 1439 ∧ 1439 < (1440 : Half).toNat ∧ day9500.Ready .setGrace .fo
    ∧ day9500.Ready .setPrices .fo ∧ day9500.Ready .setReserve .fo := by decide +kernel

theorem witness_DecisionTablesAreSet :
    day9500.Ready .setCondition .se ∧ (7 < (8 : Byte).toNat ∨ 7 < (0 : Byte).toNat ∨ 15 < (0 : Byte).toNat)
    ∧ (7 < (7 : Byte).toNat ∨ 7 < (7 : Byte).toNat ∨ 15 < (16 : Byte).toNat) ∧ day9500.Ready .setEntranceClass .se
    ∧ day9500.Ready .setShift .se ∧ ((1439 : Half).toNat ≤ 1439 ∧ (0 : Half).toNat ≤ 1439)
    ∧ (7 < (0 : Byte).toNat ∨ 1439 < (1440 : Half).toNat ∨ 1439 < (0 : Half).toNat) := by decide +kernel

/-! ### Rooms, claims, stays and cards -/

theorem witness_RoomsAreConfiguredAndRemoved :
    let free := let14.setUnit 13 UnitRec.cold
    (let14.running = true ∧ let14.fo.slot = none) ∧ let14.Ready .configureRoom .se
    ∧ (128 ≤ (128 : Byte).toNat) ∧ ((0 : Half).toNat = 0 ∨ 9999 < (0 : Half).toNat) ∧ 9999 < (10000 : Half).toNat
    ∧ (127 : Byte) = slotByte 127 ∧ (1 ≤ (9999 : Half).toNat ∧ (9999 : Half).toNat ≤ 9999)
    ∧ let14.rooms[14].occupancy = .letTo 514 stay14 ∧ held14.rooms[14].occupancy = .held 514
    ∧ vacant14.rooms[14].occupancy = .vacant 514 ∧ let14.rooms[127].occupancy = .unused
    ∧ ((14 : Slot) ≠ 127 ∧ let14.rooms[14].occupancy.number? = some (514 : Half).toNat)
    ∧ (∀ j : Slot, j ≠ 127 → let14.rooms[j].occupancy.number? ≠ some (515 : Half).toNat)
    ∧ let14.Ready .removeRoom .se ∧ let14.units[(13 : UnitId)].kind = .roomLock 14
    ∧ (∀ u : UnitId, vacant14.units[u].kind ≠ .roomLock 14 ∧ vacant14.units[u].kind ≠ .minibarLock 14)
    ∧ (vacant14.setAccount 14 { Account.cold with charge := 1 }).accounts[14].charge ≠ 0
    ∧ vacant14.accounts[14].charge = 0 ∧ (∀ k : Fin 12, vacant14.accounts[14].tally[k] = 0)
    ∧ free.units[(13 : UnitId)].kind = .absent := by decide +kernel

theorem witness_HoldAndFreeMoveARoom :
    (held14.running = true ∧ held14.fo.slot = none) ∧ held14.Ready .holdRoom .se ∧ 128 ≤ (128 : Byte).toNat
    ∧ (14 : Byte) = slotByte 14 ∧ vacant14.Ready .holdRoom .se ∧ vacant14.holder 14 ≠ some .se ∧ held14.holder 14 = some .se
    ∧ held14.rooms[14].occupancy = .held 514 ∧ (vacant14.loadLease 14 .se).holder 14 = some .se
    ∧ (vacant14.loadLease 14 .se).rooms[14].occupancy = .vacant 514 := by decide +kernel

theorem witness_ClaimedRequestsNeedTheClaim :
    128 ≤ (128 : Byte).toNat ∧ let14.Ready .checkIn .fo
    ∧ (4 ≤ (4 : Byte).toNat ∨ (1 : Byte).toNat = 0 ∨ 8 < (1 : Byte).toNat)
    ∧ (4 ≤ (3 : Byte).toNat ∨ (0 : Byte).toNat = 0 ∨ 8 < (0 : Byte).toNat)
    ∧ (4 ≤ (3 : Byte).toNat ∨ (9 : Byte).toNat = 0 ∨ 8 < (9 : Byte).toNat)
    ∧ (127 : Byte) = slotByte 127 ∧ let14.holder 127 ≠ some .fo
    ∧ ((3 : Byte).toNat < 4 ∧ 1 ≤ (8 : Byte).toNat ∧ (8 : Byte).toNat ≤ 8) := by decide +kernel

theorem witness_ClaimsAreTakenAndReleased :
    let elsewhere := vacant14.setClaim 14 (some { holder := .fo, lease := 90 })
    vacant14.Ready .claim .fo ∧ vacant14.Ready .claim .se ∧ 128 ≤ (128 : Byte).toNat ∧ (14 : Byte) = slotByte 14
    ∧ (1 : Byte) ≠ 0 ∧ vacant14.holder 15 = none ∧ vacant14.holder 14 = some .fo
    ∧ elsewhere.claims[14] = some { holder := otherPort .se, lease := 90 } ∧ vacant14.holder 14 ≠ some .se := by
  decide +kernel

theorem fullTable_sound : fullTable.Sound := by
  have held (c : Credential) (hc : c ∈ fullTable.cards) : ∃ k, k < 1024 ∧ spent (k + 1) = c := by
    simpa [fullTable] using hc
  refine ⟨by simp [fullTable], ?_, ?_, by decide, by decide, by decide, ?_, ?_, ?_⟩
  · simp only [fullTable, List.pairwise_map]
    exact List.pairwise_lt_range.imp (by simp [spent, card14])
  · intro c hc
    obtain ⟨k, hk, rfl⟩ := held c hc
    simp [Credential.Sound, spent, card14, Config.lastCardNumber]
    omega
  · simp only [fullTable]
    exact (List.nodup_range).map fun a b h => by simpa using h
  · intro n hn
    simp only [fullTable, List.mem_map, List.mem_range] at hn ⊢
    obtain ⟨k, hk, rfl⟩ := hn
    exact ⟨_, ⟨k, hk, rfl⟩, rfl, rfl⟩
  · intro c hc _
    obtain ⟨k, hk, rfl⟩ := held c hc
    simp only [fullTable, List.mem_map, List.mem_range]
    exact ⟨k, hk, rfl⟩

theorem witness_BatchIssueCreatesItsCards :
    let14.table.Sound ∧ let14.table.cards.length < 1024 ∧ let14.rooms[14].issueCounter ≤ 65535 ∧ let14.table.hasSpace 8 = true
    ∧ let14.table.hasSpace 1 = true ∧ ({ let14 with table := fullTable } : State).table.Sound
    ∧ ({ let14 with table := fullTable } : State).table.hasSpace 8 = true := by
  refine ⟨by decide +kernel, by decide, by decide +kernel, by decide, by decide, fullTable_sound, ?_⟩
  simp [CardTable.hasSpace, CardTable.shortfall, fullTable, Config.maxCards]

theorem witness_CheckInAndAddCardsIssueABatch :
    let noClock (s : State) := { s with clock := { s.clock with clockSet := false } }
    let noSite (s : State) := { s with table := { s.table with site := 0, cards := [] } }
    let late := { let14 with clock := { let14.clock with day := 9503, minute := 720 } }
    let owing := vacant14.setAccount 14 { Account.cold with charge := 1 }
    let counted := vacant14.setAccount 14 { Account.cold with tally := .replicate 12 1 }
    let day : DayMinute := { day := 9500, minute := 840 }
    let later : DayMinute := { day := 9503, minute := 660 }
    let held (s : State) : Nat := s.table.cards.countP fun c => c.slot? == some 14 && !c.isRevoked
    let reclaimed (n : Nat) (s : State) : Nat := n - (1024 - s.table.cards.length)
    (vacant14.Ready .checkIn .fo ∧ vacant14.holder 14 = some .fo ∧ (3 : Fin 8).val < 4)
    ∧ (let14.Ready .checkIn .fo ∧ let14.holder 14 = some .fo)
    ∧ let14.rooms[14].occupancy = .letTo 514 stay14 ∧ vacant14.rooms[14].occupancy = .vacant 514
    ∧ owing.accounts[14].charge ≠ 0 ∧ counted.accounts[14].tally[0] ≠ 0
    ∧ (vacant14.accounts[14].charge = 0 ∧ ∀ k : Fin 12, vacant14.accounts[14].tally[k] = 0)
    ∧ (noClock vacant14).clock.clockSet = false ∧ vacant14.clock.clockSet = true
    ∧ deriveWindow (momentOf later) (momentOf day) vacant14.clock.grace vacant14.nowIndex = none
    ∧ deriveWindow (momentOf day) (momentOf later) vacant14.clock.grace vacant14.nowIndex = some stay14.window
    ∧ (noSite vacant14).table.site = 0 ∧ (vacant14.table.site ≠ 0 ∧ held vacant14 + 8 ≤ 8)
    ∧ reclaimed 8 vacant14 ≤ vacant14.table.revoked.length
    ∧ (noClock let14).clock.clockSet = false ∧ stay14.window.stop.index ≤ late.nowIndex
    ∧ let14.nowIndex < stay14.window.stop.index ∧ 8 < held let14 + 7 ∧ held let14 + 6 ≤ 8
    ∧ reclaimed 6 let14 ≤ let14.table.revoked.length := by
  decide +kernel

/-- With 1024 records held a batch of one needs one record reclaimed, and there is one or there is none. -/
theorem witness_CheckInAndAddCardsIssueABatch_full :
    let held (t : CardTable) : Nat := t.cards.countP fun c => c.slot? == some 14 && !c.isRevoked
    let stuck : CardTable := { fullTable with revoked := [] }
    fullTable.site ≠ 0 ∧ held fullTable + 8 ≤ 8 ∧ held stuck + 8 ≤ 8
    ∧ stuck.revoked.length < 8 - (1024 - stuck.cards.length) ∧ 8 - (1024 - fullTable.cards.length) ≤ fullTable.revoked.length := by
  have none : (List.range 1024).countP (fun k => (spent (k + 1)).slot? == some 14 && !(spent (k + 1)).isRevoked) = 0 := by
    simp [spent, card14, Credential.slot?]
  simp only [fullTable, List.countP_map, Function.comp_def, none, List.length_map, List.length_range]
  decide

theorem witness_ChangeStayMovesTheWindow :
    let noClock := { let14 with clock := { let14.clock with clockSet := false } }
    (let14.Ready .changeStay .fo ∧ let14.holder 14 = some .fo) ∧ vacant14.rooms[14].occupancy = .vacant 514
    ∧ let14.rooms[14].occupancy = .letTo 514 stay14 ∧ noClock.clock.clockSet = false ∧ let14.clock.clockSet = true
    ∧ deriveWindow stay14.arrival (momentOf { day := 9500, minute := 840 }) let14.clock.grace let14.nowIndex = none
    ∧ deriveWindow stay14.arrival (momentOf { day := 9504, minute := 660 }) let14.clock.grace let14.nowIndex
      = some { start := stay14.arrival, stop := { day := 9504, minute := 720 } } := by decide +kernel

theorem witness_CheckOutRevokesTheCards :
    inUse.Ready .checkOut .fo ∧ inUse.holder 14 = some .fo ∧ inUse.table.Sound ∧ inUse.rooms[14].occupancy = .letTo 514 stay14
    ∧ inUse.minibarLockOf 14 = some 133 ∧ inUse.sessions[(133 : UnitId)].isSome = true
    ∧ vacant14.Ready .checkOut .fo ∧ vacant14.holder 14 = some .fo ∧ vacant14.table.Sound
    ∧ vacant14.rooms[14].occupancy = .vacant 514 := by
  and_intros <;> decide +kernel

theorem witness_FormedImageIsIntactAndDecodes :
    (card14 12588 23 true false).Sound ∧ 65535 ≤ 65535 ∧ (∀ b ∈ (card14 12588 23 true false).binding, b.generation ≤ 255)
    ∧ stay14.window.start.day ≤ 65535 ∧ stay14.window.start.minute ≤ 1439 ∧ stay14.window.stop.day ≤ 65535
    ∧ stay14.window.stop.minute ≤ 1439 ∧ (spent 16777215).Sound ∧ (∀ b ∈ (spent 16777215).binding, b.generation ≤ 255) := by
  decide +kernel

theorem witness_IssueStaffIssuesAndReplaces :
    let staff := { let14 with table := let14.table.create { spent 12590 with state := .active } }
    let noSite := { day9500 with table := CardTable.cold }
    let full := { day9500 with table := fullTable }
    let stuck := { day9500 with table := { fullTable with revoked := [] } }
    let start : DayMinute := { day := 9500, minute := 0 }
    let stop : DayMinute := { day := 9600, minute := 0 }
    day9500.Ready .issueStaff .se ∧ ((3 : Byte).toNat < 4 ∨ 7 < (3 : Byte).toNat) ∧ ((8 : Byte).toNat < 4 ∨ 7 < (8 : Byte).toNat)
    ∧ ((4 : Byte) = BitVec.ofNat 8 (4 : Fin 8).val ∧ 4 ≤ (4 : Fin 8).val) ∧ ((7 : Byte) = BitVec.ofNat 8 (7 : Fin 8).val)
    ∧ ({ day9500 with clock := Clock.cold } : State).clock.clockSet = false ∧ day9500.clock.clockSet = true
    ∧ windowChecks (momentOf stop) (momentOf start) day9500.nowIndex = false
    ∧ windowChecks (momentOf start) (momentOf stop) day9500.nowIndex = true
    ∧ ((12588 : Triple) ≠ 0 ∧ day9500.table.find (12588 : Triple).toNat = none)
    ∧ let14.table.find (12588 : Triple).toNat = some (card14 12588 23 true false)
    ∧ staff.table.find (12590 : Triple).toNat = some { spent 12590 with state := .active }
    ∧ noSite.table.site = 0 ∧ full.table.site ≠ 0 ∧ stuck.table.cards.length = 1024 ∧ stuck.table.revoked = []
    ∧ full.table.cards.length = 1024 ∧ full.table.revoked ≠ [] ∧ day9500.table.cards.length < 1024 := by
  refine ⟨?_, ?_, ?_, ?_, ?_, ?_, ?_, ?_, ?_, ?_, ?_, ?_, ?_, ?_, by simp [fullTable], ?_, by simp [fullTable], ?_, ?_⟩
    <;> decide +kernel

theorem witness_RevokeRevokesOnce :
    let staff := { let14 with table := let14.table.create { spent 12590 with state := .active } }
    let gone := { let14 with table := let14.table.revoke 12588 .checkout }
    let14.Ready .revoke .fo ∧ let14.Ready .revoke .se ∧ ((2 : Byte) ≠ 3 ∧ (2 : Byte) ≠ 4 ∧ (2 : Byte) ≠ 5)
    ∧ ((6 : Byte) ≠ 3 ∧ (6 : Byte) ≠ 4 ∧ (6 : Byte) ≠ 5) ∧ (3 : Byte) = BitVec.ofNat 8 (RevokeReason.lost).code
    ∧ (5 : Byte) = BitVec.ofNat 8 (RevokeReason.withdrawn).code ∧ let14.table.find (12591 : Triple).toNat = none
    ∧ staff.table.find (12590 : Triple).toNat = some { spent 12590 with state := .active }
    ∧ let14.table.find (12588 : Triple).toNat = some (card14 12588 23 true false) ∧ let14.holder 14 = some .fo
    ∧ (let14.setClaim 14 none).holder 14 ≠ some .fo
    ∧ (gone.table.find 12588).map Credential.state = some (.revoked .checkout) := by decide +kernel

theorem witness_SuspendResumeAndSetSite :
    let moved (st : CardState) := { let14 with table := let14.table.update 12588 fun c => { c with state := st } }
    let14.Ready .suspend .se ∧ (12591 : Triple) ≠ 0 ∧ let14.table.find (12591 : Triple).toNat = none
    ∧ ((moved (.revoked .lost)).table.find 12588).map Credential.isRevoked = some true
    ∧ (let14.table.find 12588).map Credential.state = some .active
    ∧ ((moved .suspended).table.find 12588).map Credential.state = some .suspended
    ∧ let14.Ready .setSite .se ∧ (65535 : Half) ≠ 0 ∧ let14.table.cards ≠ [] ∧ day9500.table.cards = [] := by decide +kernel

/-! ### Units, buses and decisions -/

theorem witness_ConfigureUnitStoresTheRecord :
    let outside (bus address kind cls slot gate : Byte) : Prop :=
      (bus ≠ 1 ∧ bus ≠ 2) ∨ address.toNat = 0 ∨ 120 < address.toNat ∨ kind.toNat = 0 ∨ 4 < kind.toNat ∨ 7 < cls.toNat
        ∨ ((kind = 1 ∨ kind = 3) ∧ 127 < slot.toNat) ∨ (kind = 4 ∧ 5 < gate.toNat)
    let14.Ready .configureUnit .se
    ∧ (outside 3 1 2 0 0 0 ∧ outside 1 0 2 0 0 0 ∧ outside 1 121 2 0 0 0 ∧ outside 1 1 0 0 0 0 ∧ outside 1 1 5 0 0 0)
    ∧ (outside 1 1 2 8 0 0 ∧ outside 1 1 1 0 128 0 ∧ outside 1 1 3 0 128 0 ∧ outside 1 1 4 0 0 6)
    ∧ UnitKind.roomLock 14 ≠ .absent ∧ (∀ i ∈ (UnitKind.roomLock 14).slot?, (14 : Byte) = slotByte i)
    ∧ (∀ g ∈ (UnitKind.gateReader 5).gate?, (5 : Byte) = BitVec.ofNat 8 g.val)
    ∧ granted.grants[(13 : UnitId)].isSome = true ∧ inUse.sessions[(133 : UnitId)].isSome = true
    ∧ (let14.grants[(5 : UnitId)] = none ∧ let14.sessions[(5 : UnitId)] = none) ∧ let14.rooms[127].occupancy = .unused
    ∧ let14.rooms[14].occupancy ≠ .unused ∧ ((13 : UnitId) ≠ 5 ∧ let14.units[(13 : UnitId)].kind = .roomLock 14)
    ∧ (∀ v : UnitId, v ≠ 13 → let14.units[v].kind ≠ .roomLock 14) ∧ UnitKind.passageLock.slot? = none := by
  and_intros <;> decide +kernel

theorem witness_UnitsAreRemovedAndReadmitted :
    let cut := let14.setUnit 13 { let14.units[(13 : UnitId)] with quarantined := true }
    let14.Ready .removeUnit .se ∧ (((0 : Byte) ≠ 1 ∧ (0 : Byte) ≠ 2) ∨ (1 : Byte).toNat = 0 ∨ 120 < (1 : Byte).toNat)
    ∧ (((1 : Byte) ≠ 1 ∧ (1 : Byte) ≠ 2) ∨ (121 : Byte).toNat = 0 ∨ 120 < (121 : Byte).toNat)
    ∧ let14.units[(239 : UnitId)].kind = .absent ∧ granted.grants[(13 : UnitId)].isSome = true
    ∧ let14.units[(13 : UnitId)].kind ≠ .absent ∧ (let14.grants[(13 : UnitId)] = none ∧ let14.sessions[(13 : UnitId)] = none)
    ∧ cut.units[(13 : UnitId)].quarantined = true ∧ let14.units[(13 : UnitId)].quarantined = false
    ∧ let14.Ready .clearBusCounters .se ∧ (0 : Byte) ≠ 1 ∧ (0 : Byte) ≠ 2 ∧ (3 : Byte) ≠ 1 ∧ (3 : Byte) ≠ 2 := by decide +kernel

theorem witness_ControllersSendInOrder :
    let due := let14.setBus .a { let14.busA with due := some { unit := 13, verdict := .reread } }
    let quiet (position round : Nat) := let14.setBus .a { let14.busA with broadcast := false, position := position, round := round }
    let left (s : State) (round above : Nat) (u : UnitId) : Prop := busOf u = .a ∧ s.units[u].kind ≠ .absent
      ∧ (s.units[u].link = .silent → round = 0) ∧ above < addressOf u
    due.running = true ∧ (due.bus .a).flight = .none ∧ (due.bus .a).due = some { unit := 13, verdict := .reread }
    ∧ (let14.bus .a).due = none ∧ (let14.bus .a).broadcast = true ∧ ((quiet 0 0).bus .a).broadcast = false
    ∧ left (quiet 13 0) 0 13 13 ∧ (∀ v, left (quiet 13 0) 0 13 v → addressOf 13 ≤ addressOf v)
    ∧ (∀ v, ¬left (quiet 14 15) 15 14 v) ∧ left (quiet 14 15) 0 0 13 ∧ (∀ v, left (quiet 14 15) 0 0 v → addressOf 13 ≤ addressOf v)
    ∧ ¬(∃ u : UnitId, busOf u = .a ∧ day9500.units[u].kind ≠ .absent) ∧ (day9500.bus .a).broadcast = true
    ∧ (∃ u : UnitId, busOf u = .a ∧ due.units[u].kind ≠ .absent) ∧ (polling.bus .a).flight ≠ .none ∧ starting.running = false := by
  and_intros <;> decide +kernel

/-- A bus whose one unit is SILENT, in a round whose counter is not 0. -/
def allSilent : State :=
  (let14.setUnit 13 { let14.units[(13 : UnitId)] with link := .silent }).setBus .a
    { let14.busA with broadcast := false, position := 0, round := 5 }

theorem witness_ControllersSendInOrder_silent :
    let left (round above : Nat) (u : UnitId) : Prop := busOf u = .a ∧ allSilent.units[u].kind ≠ .absent
      ∧ (allSilent.units[u].link = .silent → round = 0) ∧ above < addressOf u
    allSilent.running = true ∧ (allSilent.bus .a).flight = .none ∧ (allSilent.bus .a).due = none
    ∧ (allSilent.bus .a).broadcast = false ∧ (∀ v, ¬left (allSilent.bus .a).round (allSilent.bus .a).position v)
    ∧ (∀ v : UnitId, busOf v = .a → allSilent.units[v].kind ≠ .absent → allSilent.units[v].link = .silent)
    ∧ left 0 0 13 ∧ (∀ v, left 0 0 v → addressOf 13 ≤ addressOf v)
    ∧ (∃ u : UnitId, busOf u = .a ∧ allSilent.units[u].kind ≠ .absent) := by
  and_intros <;> decide +kernel

theorem witness_MissesAnswersAndTimeouts :
    let at_ (misses : Nat) (link : LinkState) :=
      polling.setUnit 13 { polling.units[(13 : UnitId)] with misses := misses, link := link }
    polling.units[(0 : UnitId)].kind = .absent ∧ polling.units[(13 : UnitId)].kind ≠ .absent
    ∧ ((at_ 2 .online).units[(13 : UnitId)].link ≠ .silent ∧ 2 ≤ (at_ 2 .online).units[(13 : UnitId)].misses)
    ∧ ((at_ 1 .unknown).units[(13 : UnitId)].link = .silent ∨ (at_ 1 .unknown).units[(13 : UnitId)].misses < 2)
    ∧ (at_ 3 .silent).units[(13 : UnitId)].link = .silent ∧ polling.running = true ∧ (polling.bus .a).flight = .poll 13 false
    ∧ (verdictSent.bus .a).flight = .verdict 13 true ∧ (let14.bus .a).flight = .none
    ∧ (busOf 13 = .a ∧ let14.units[(13 : UnitId)].kind ≠ .absent ∧ (let14.bus .a).position < addressOf 13)
    ∧ (∀ u : UnitId, busOf u = .a → day9500.units[u].kind = .absent)
    ∧ (∀ u : UnitId, ¬(busOf u = .a ∧ polling.units[u].kind ≠ .absent ∧ (polling.units[u].link = .silent → (polling.bus .a).round = 0)
        ∧ (polling.bus .a).position < addressOf u))
    ∧ (∃ u : UnitId, busOf u = .a ∧ polling.units[u].kind ≠ .absent
        ∧ (polling.units[u].link = .silent → ((polling.bus .a).round + 1) % 16 = 0) ∧ 0 < addressOf u)
    ∧ (∀ u : UnitId, ¬(busOf u = .a ∧ allSilent.units[u].kind ≠ .absent
        ∧ (allSilent.units[u].link = .silent → (allSilent.bus .a).round = 0) ∧ (allSilent.bus .a).position < addressOf u))
    ∧ (∀ u : UnitId, busOf u = .a → allSilent.units[u].kind ≠ .absent → allSilent.units[u].link = .silent) := by
  and_intros <;> decide +kernel

/-- An answer of A-14 with bit 0, an OPENED report and a presentation. -/
def opening : AnswerContent :=
  { bit := false, status := { mode := .normal, released := true }, reports := [.opened true], card := some (.outer, image12588) }

theorem witness_FramesAreChecked :
    let body : List Byte := [14, 0x21, 0]
    ([14, 0x21, 0, 0] : List Byte).length < 5 ∧ 3 ≤ body.length ∧ body.length ≤ 51
    ∧ (crc16 body).toNat ≠ (0 : Byte).toNat * 256 + (0 : Byte).toNat
    ∧ (14 : Byte).toNat ≠ 15 ∧ ((0x20 : Byte).toNat ≠ 0x21 ∨ (0 : Byte).toNat ≠ ([] : List Byte).length)
    ∧ ((0x21 : Byte).toNat = 0x21 ∧ (0 : Byte).toNat = ([] : List Byte).length) ∧ 1 < (2 : Byte).toNat
    ∧ (([] : List Byte).length = 4 * 0 ∧ 0 < (0x10 : Byte).toNat / 16 % 8
      ∧ ((0 : Byte).toNat = 0 ∨ 6 < (0 : Byte).toNat ∨ ((0 : Byte).toNat = 6 ∧ 11 < (0 : Byte).toNat))
      ∧ ((7 : Byte).toNat = 0 ∨ 6 < (7 : Byte).toNat ∨ ((7 : Byte).toNat = 6 ∧ 11 < (0 : Byte).toNat))
      ∧ ((6 : Byte).toNat = 0 ∨ 6 < (6 : Byte).toNat ∨ ((6 : Byte).toNat = 6 ∧ 11 < (12 : Byte).toNat)))
    ∧ ((0x80 : Byte).msb = true ∧ ([] : List Byte).length = 4 * ((0x80 : Byte).toNat / 16 % 8)
      ∧ ((0 : Byte) ≠ 1 ∧ (0 : Byte) ≠ 2) ∧ ((3 : Byte) ≠ 1 ∧ (3 : Byte) ≠ 2))
    ∧ 4 < (0x50 : Byte).toNat / 16 % 8 ∧ ([] : List Byte).length ≠ 4 * ((0x10 : Byte).toNat / 16 % 8) + (if (0x10 : Byte).msb then 21 else 0)
    ∧ opening.reports.length ≤ 4
    ∧ (∀ r ∈ opening.reports, ∀ (item : Fin 12) (n m : Nat), r = .items item n m → n ≤ 255 ∧ m ≤ 255)
    ∧ (∀ x ∈ opening.card, ∀ k : Fin 10, x.2[k] ≤ 65535) := by
  refine ⟨?_, ?_, ?_, ?_, ?_, ?_, ?_, ?_, ?_, ?_, ?_, ?_, ?_, ?_, ?_⟩
  case refine_14 => intro r hr item n m h; simp [opening] at hr; simp [hr] at h
  all_goals decide +kernel

theorem witness_ReplyFramesEndTransactions :
    let sent (u : UnitId) : List Byte := frameOf (addressOf u) 0x20 opening.payload
    let gone := polling.setUnit 13 UnitRec.cold
    let repeated := { opening with bit := true }
    polling.running = true ∧ (polling.bus .a).flight = .poll 13 false ∧ checkFrame [] (addressOf 13) 0x20 = .crcError
    ∧ checkFrame (sent 14) (addressOf 13) 0x20 = .stray
    ∧ checkFrame (frameOf 14 0x21 []) (addressOf 13) 0x20 = .malformed
    ∧ checkFrame (frameOf 14 0x20 [2, 0]) (addressOf 13) 0x20 = .wellFormed [2, 0] ∧ answerOf? [2, 0] = none
    ∧ checkFrame (sent 13) (addressOf 13) 0x20 = .wellFormed opening.payload ∧ answerOf? opening.payload = some opening
    ∧ gone.units[(13 : UnitId)].kind = .absent ∧ polling.units[(13 : UnitId)].kind ≠ .absent
    ∧ polling.units[(13 : UnitId)].expected = some repeated.bit ∧ answerOf? repeated.payload = some repeated
    ∧ polling.units[(13 : UnitId)].expected ≠ some opening.bit
    ∧ answerOf? ({ opening with card := none } : AnswerContent).payload = some { opening with card := none }
    ∧ (verdictSent.bus .a).flight = .verdict 13 true ∧ checkFrame (frameOf 14 0x21 []) (addressOf 13) 0x21 = .wellFormed []
    ∧ checkFrame (frameOf 14 0x21 [0]) (addressOf 13) 0x21 = .wellFormed [0] ∧ checkFrame [] (addressOf 13) 0x21 = .crcError
    ∧ checkFrame (sent 14) (addressOf 13) 0x21 = .stray ∧ checkFrame (sent 13) (addressOf 13) 0x21 = .malformed
    ∧ verdictSent.grants[(13 : UnitId)].isSome = true ∧ polling.grants[(13 : UnitId)] = none
    ∧ starting.running = false ∧ (let14.bus .a).flight = .none := by
  and_intros <;> decide +kernel

theorem witness_ConditionsTestRoomModeAndShift :
    ∀ c : Condition, ∃ t : DecisionTables, t.conditions[(1 : Fin 8)][(0 : Fin 8)] = c := by
  intro c
  exact ⟨{ DecisionTables.cold with conditions := .replicate 8 (.replicate 8 c) }, by simp⟩

theorem witness_VerdictFollowsTheTwelveSteps :
    let unit := let14.units[(13 : UnitId)]
    let noClock := { let14 with clock := { let14.clock with clockSet := false } }
    let noSite := { let14 with table := { let14.table with site := 0 } }
    let at_ (day minute : Nat) := { let14 with clock := { let14.clock with day := day, minute := minute } }
    let other : CardImage := image12588.set 3 0x0F07
    (let14.setUnit 13 { unit with quarantined := true }).units[(13 : UnitId)].quarantined = true ∧ unit.quarantined = false
    ∧ endAround (image12588.set 4 19).toList ≠ 65535 ∧ unit.misreads < 2
    ∧ 2 ≤ (let14.setUnit 13 { unit with misreads := 2 }).units[(13 : UnitId)].misreads ∧ endAround image12588.toList = 65535
    ∧ (evacuated true).wing.mode = .evacuation ∧ let14.units[(133 : UnitId)].kind = .minibarLock 14 ∧ unit.kind = .roomLock 14
    ∧ let14.wing.mode ≠ .evacuation ∧ noClock.clock.clockSet = false ∧ let14.clock.clockSet = true ∧ noSite.table.site = 0
    ∧ (let14.table.site ≠ 0 ∧ image12588.site = let14.table.site) ∧ let14.table.find 0 = none
    ∧ let14.table.find image12588.cardNumber = some (card14 12588 23 true false) ∧ other.slot = 15
    ∧ (card14 12588 23 true false).agrees image12588 = true ∧ (card14 12588 23 true false).agrees other = false
    ∧ (at_ 9500 839).nowIndex < stay14.window.start.index ∧ stay14.window.stop.index ≤ (at_ 9503 720).nowIndex
    ∧ stay14.window.start.index ≤ let14.nowIndex ∧ let14.nowIndex < stay14.window.stop.index
    ∧ (let14.accounts[14].blocked = false ∧ let14.reserve ≤ let14.accounts[14].remaining)
    ∧ (let14.setAccount 14 Account.cold).accounts[14].blocked = true
    ∧ ({ let14 with reserve := 3001 } : State).accounts[14].remaining < 3001
    ∧ let14.conditionHolds 13 1 = true ∧ (let14.setRoom 14 held14.rooms[14]).conditionHolds 13 1 = false := by
  and_intros <;> decide +kernel

theorem witness_GrantsAreHeldAndConcluded :
    let reader := let14.setUnit 5 { UnitRec.cold with kind := .gateReader 5 }
    let enabled := { reader with gates := { reader.gates with enabled := 0x20 } }
    let waiting := inUse.setSession 133 (inUse.sessions[(133 : UnitId)].map fun x => { x with phase := .awaitingOpen 0 })
    let14.units[(13 : UnitId)].kind = .roomLock 14 ∧ reader.units[(5 : UnitId)].kind = .gateReader 5
    ∧ hasGate enabled.gates.enabled 5 = true ∧ hasGate reader.gates.enabled 5 = false
    ∧ let14.units[(133 : UnitId)].kind = .minibarLock 14 ∧ let14.sessions[(133 : UnitId)] = none
    ∧ (waiting.sessions[(133 : UnitId)].map Session.phase = some (.awaitingOpen 0))
    ∧ (inUse.sessions[(133 : UnitId)].map Session.phase = some .inUse) ∧ let14.grants[(13 : UnitId)] = none
    ∧ granted.grants[(13 : UnitId)].isSome = true := by decide +kernel

theorem witness_ReportsActOnTheirOwners :
    let reader := let14.setUnit 5 { UnitRec.cold with kind := .gateReader 5 }
    let14.units[(13 : UnitId)].kind = .roomLock 14 ∧ let14.units[(133 : UnitId)].kind = .minibarLock 14
    ∧ (inUse.sessions[(133 : UnitId)].map Session.phase = some .inUse) ∧ let14.sessions[(133 : UnitId)] = none
    ∧ reader.units[(5 : UnitId)].kind = .gateReader 5 ∧ let14.units[(0 : UnitId)].kind = .absent := by decide +kernel

/-! ### Minibar accounts and expiries -/

theorem witness_ChargesAndCreditsKeepTheBalance :
    (0 : Nat) < 255000 ∧ 3000 ≤ let14.accounts[14].remaining ∧ let14.accounts[14].remaining < 3001
    ∧ min 0 Account.cold.charge ≤ Account.cold.overdraft ∧ ({ Account.cold with charge := 5 } : Account).overdraft < min 5 5
    ∧ let14.accounts[14].Balanced
    ∧ ({ Account.cold with charge := 16777215, overdraft := 16777215, ceilingMet := true } : Account).Balanced := by decide +kernel

theorem witness_ItemReportsChargeTheRoom :
    let restock := inUse.setSession 133 (inUse.sessions[(133 : UnitId)].map fun x => { x with kind := .restock })
    let14.units[(133 : UnitId)].kind = .minibarLock 14 ∧ let14.sessions[(133 : UnitId)] = none ∧ (0 < 0 ∨ 0 < 1) ∧ (0 < 255 ∨ 0 < 255)
    ∧ (inUse.sessions[(133 : UnitId)].map Session.kind = some .guest)
    ∧ (restock.sessions[(133 : UnitId)].map Session.kind = some .restock) := by decide +kernel

theorem witness_SettleClearsTheAccount :
    let unused := let14.setRoom 14 Room.cold
    let14.Ready .settle .fo ∧ let14.holder 14 = some .fo ∧ unused.rooms[14].occupancy = .unused
    ∧ let14.rooms[14].occupancy ≠ .unused ∧ (∃ u ∈ inUse.minibarLockOf 14, inUse.sessions[u].isSome = true)
    ∧ ¬(∃ u ∈ let14.minibarLockOf 14, let14.sessions[u].isSome = true) ∧ vacant14.rooms[14].occupancy ≠ .unused := by
  and_intros <;> decide +kernel

theorem witness_ExpiriesActWhenDue :
    let due := vacant14.setClaim 14 (some { holder := .fo, lease := 0 })
    let grants : State := { granted with grants := granted.grants.map fun g => g.map fun g => { g with expiry := 0 } }
    let bar := grants.setUnit 13 { UnitRec.cold with kind := .minibarLock 14 }
    let waiting (n : Nat) := inUse.setSession 133 (inUse.sessions[(133 : UnitId)].map fun x => { x with phase := .awaitingOpen n })
    let pulsed (n : Nat) := { let14 with gates := { let14.gates with pulses := let14.gates.pulses.set 5 (some n) } }
    due.running = true ∧ due.claims[14] = some { holder := .fo, lease := 0 } ∧ vacant14.leaseOf 14 ≠ 0 ∧ vacant14.claims[127] = none
    ∧ (grants.grants[(13 : UnitId)].map Grant.expiry = some 0) ∧ (∀ i, grants.units[(13 : UnitId)].kind ≠ .minibarLock i)
    ∧ bar.units[(13 : UnitId)].kind = .minibarLock 14 ∧ (granted.grants[(13 : UnitId)].map Grant.expiry = some 4)
    ∧ (let14.setAjar 13 (some { remaining := 0, limit := 60 })).ajar[(13 : UnitId)] = some { remaining := 0, limit := 60 }
    ∧ (let14.setAjar 13 (some { remaining := 1, limit := 60 })).ajar[(13 : UnitId)] = some { remaining := 1, limit := 60 }
    ∧ ((waiting 0).sessions[(133 : UnitId)].map Session.phase = some (.awaitingOpen 0))
    ∧ ((waiting 1).sessions[(133 : UnitId)].map Session.phase = some (.awaitingOpen 1))
    ∧ (pulsed 0).gates.pulses[5] = some 0 ∧ (pulsed 1).gates.pulses[5] ≠ some 0
    ∧ starting.running = false ∧ let14.grants[(13 : UnitId)] = none ∧ let14.ajar[(13 : UnitId)] = none
    ∧ let14.sessions[(13 : UnitId)] = none ∧ let14.gates.pulses[5] = none ∧ (let14.port .fo).timer = none := by
  and_intros <;> decide +kernel

/-! ### Gates, wing modes and starts -/

theorem witness_GatesAndScheduleAreSet :
    let full := { scheduled with gates := { scheduled.gates with
      schedule := List.replicate 32 { minute := 1439, gates := 0x3F, level := .opened } } }
    scheduled.Ready .setGate .se ∧ (64 ≤ (64 : Byte).toNat ∨ 64 ≤ (0 : Byte).toNat) ∧ 1439 < (1440 : Half).toNat
    ∧ (1439 : Half).toNat ≤ 1439 ∧ (63 : GateSet) ≠ 0 ∧ ((3 : Byte) ≠ 1 ∧ (3 : Byte) ≠ 2) ∧ 32 ≤ full.gates.schedule.length
    ∧ scheduled.gates.schedule.length < 32 ∧ scheduled.gates.schedule.Pairwise (fun a b => a.minute ≤ b.minute)
    ∧ 31 < (32 : Byte).toNat ∧ (31 : Byte).toNat ≤ 31 ∧ scheduled.gates.schedule.length ≤ (4 : Byte).toNat
    ∧ (scheduled.gates.schedule = scheduled.gates.schedule.take 3 ++ { minute := 1320, gates := 0x02, level := .shut } :: [])
    ∧ (scheduled.gates.schedule.take 3).length = (3 : Byte).toNat := by decide +kernel

theorem witness_ScheduledLevelsAndOutputs :
    let entry (minute : Nat) : ScheduleEntry := { minute := minute, gates := 0x20, level := .opened }
    hasGate (entry 600).gates 5 = true ∧ (entry 600).minute ≤ 600
    ∧ (∀ x ∈ [entry 601], hasGate x.gates 5 = true → 600 < x.minute)
    ∧ (∀ x ∈ [] ++ entry 601 :: [], hasGate x.gates 5 = true → 600 < x.minute)
    ∧ (∀ x ∈ ([] : List ScheduleEntry), hasGate x.gates 5 = false) ∧ (∀ x ∈ [entry 601], hasGate x.gates 0 = false)
    ∧ hasGate Gates.cold.enabled 5 = false ∧ hasGate scheduled.gates.enabled 0 = true ∧ WingMode.storm ≠ .evacuation
    ∧ ({ scheduled.gates with pulses := .replicate 6 (some 0) } : Gates).pulses[0].isSome = true
    ∧ scheduled.gates.pulses[0] = none ∧ hasGate ({ scheduled.gates with exposed := 1 } : Gates).exposed 0 = true
    ∧ hasGate scheduled.gates.exposed 0 = false := by decide +kernel

theorem witness_SetModeAndRestoreChangeTheMode :
    let14.Ready .setMode .se ∧ 2 < (3 : Byte).toNat ∧ WingMode.lockdown ≠ .evacuation ∧ (evacuated true).wing.mode = .evacuation
    ∧ let14.wing.mode = .normal ∧ granted.wing.mode ≠ .evacuation ∧ granted.wing.mode ≠ .lockdown
    ∧ (evacuated true).Ready .setMode .se ∧ (evacuated true).wing.evacSampled = true
    ∧ (evacuated false).wing.mode = .evacuation ∧ (evacuated false).wing.evacSampled = false := by decide +kernel

theorem witness_EvacEdgesAreTaken :
    (evacuated true).wing.evacPin = true ∧ let14.wing.evacPin = false ∧ (starting.running = false ∧ starting.wing.evacPin = false)
    ∧ ((after .evacRisingEdge starting).running = false ∧ (after .evacRisingEdge starting).wing.evacPin = true)
    ∧ (evacuated true).running = true ∧ let14.running = true := by decide +kernel

theorem witness_StartsRebuildVolatileState :
    let off := after .mainPowerFall granted
    let lost := after .retentionLost off
    let cold := after .coldStart lost
    granted.power.phase ≠ .off ∧ off.power.phase = .off ∧ off.power.latch = false ∧ lost.power.latch = true
    ∧ starting.power.phase = .starting (.warm .normal { time := granted.now, source := .controller, card := none, room := none
                                                        detail := .start true 1 0 })
    ∧ cold.power.phase = .starting .cold ∧ granted.power.phase = .running := by decide +kernel

/-! ### Invariants -/

/-- Room 14 LET and a grant pending, with a second tick waiting. -/
def waiting14 : State := { granted with pending := [.secondTick] }

theorem waiting14_step : step waiting14 = .next (after .secondTick { waiting14 with pending := [] }) := rfl

theorem witness_LogInvariantIsKept : LogInv waiting14 := by decide +kernel

theorem witness_CardInvariantIsKept : CardInv waiting14 := by
  refine ⟨?_, ?_, ?_, ?_⟩ <;> decide +kernel

theorem witness_AccountInvariantIsKept : AccountInv waiting14 := by decide +kernel

theorem witness_GateInvariantIsKept : ScheduleInv waiting14 ∧ OutputInv waiting14 := by
  refine ⟨by decide +kernel, ?_⟩
  have every : ∀ g : Gate, waiting14.gates.outputs[g] = outputLevel waiting14.gates .normal g := by decide +kernel
  rintro m hm g
  cases hm
  exact every g

theorem witness_UnitInvariantIsKept : UnitInv waiting14 ∧ TallyInv waiting14 := by
  refine ⟨by decide +kernel, by decide +kernel⟩

theorem witness_RoomInvariantIsKept : RoomInv waiting14 := by
  have room (i : Slot) : waiting14.rooms[i].occupancy ≠ .unused → i = 14 := by revert i; decide +kernel
  have unit (u : UnitId) : waiting14.units[u].kind.slot?.isSome = true → u = 13 ∨ u = 133 := by revert u; decide +kernel
  have apart : waiting14.units[(13 : UnitId)].kind ≠ waiting14.units[(133 : UnitId)].kind := by decide +kernel
  refine ⟨by decide +kernel, ?_, by decide +kernel, ?_⟩
  · intro i j same used
    have hi := room i used
    subst hi
    by_contra other
    have hj : waiting14.rooms[j].occupancy = .unused := by
      by_contra used'
      exact other (room j used').symm
    rw [hj] at same
    exact absurd same (by decide +kernel)
  · intro u v same bound
    obtain rfl | rfl := unit u bound <;> obtain rfl | rfl := unit v (same ▸ bound)
    · rfl
    · exact absurd same apart
    · exact absurd same.symm apart
    · rfl

theorem witness_PortInvariantIsKept : ClaimInv waiting14 ∧ PortInv waiting14 := by
  refine ⟨by decide +kernel, by decide +kernel⟩

theorem witness_RangeInvariantIsKept : ClockInv waiting14 ∧ TimerInv waiting14 ∧ BusInv waiting14 ∧ PowerInv waiting14 := by
  refine ⟨by decide +kernel, ?_, by decide +kernel, by decide +kernel⟩
  refine ⟨?_, ?_, ?_, ?_⟩ <;> decide +kernel

theorem witness_OnlyTheirRequestsChangeThem :
    let restored := after (.restore .se) (evacuated false)
    step { evacuated false with pending := [.restore .se] } = .next restored
    ∧ (evacuated false).running = true ∧ restored.running = true ∧ restored.wing.mode ≠ .evacuation
    ∧ Instr.restore .se ≠ .coldStart
    ∧ (after (.checkIn .fo 14 1 2 { day := 9500, minute := 840 } { day := 9503, minute := 660 } 3000) vacant14).rooms[14].generation ≠ 6
    ∧ (after (.setClock .fo { day := 1, minute := 1 }) State.reset).clock.clockSet ≠ false
    ∧ (after (.setSite .se 7) State.reset).table.site ≠ 0
    ∧ (after (.setPrices .fo (.replicate 12 1)) State.reset).prices ≠ .replicate 12 0
    ∧ (after (.setReserve .fo 1) State.reset).reserve ≠ State.reset.reserve
    ∧ (after (.setCondition .se 0 0 0) State.reset).decision.conditions ≠ State.reset.decision.conditions
    ∧ (after (.setEntranceClass .se 0 30 600 0) State.reset).decision.entrances ≠ State.reset.decision.entrances
    ∧ (after (.setShift .se 0 1 2) State.reset).decision.shifts ≠ State.reset.decision.shifts
    ∧ (after (.clearSchedule .se) scheduled).gates.schedule ≠ scheduled.gates.schedule := by
  refine ⟨rfl, ?_⟩
  and_intros <;> decide +kernel

end Sys2Proof.Tests
end

section
/-! The shift test (R15), and the condition ON_SHIFT that reads it (R109). -/

namespace Sys2Proof.Machine

/-- The window of a day shift lies between its minutes, the close minute excluded. -/
theorem Shift.covers_iff_of_opens_lt_closes {h : Shift} (day : h.opens < h.closes) (m : Nat) :
    h.covers m = true ↔ h.opens ≤ m ∧ m < h.closes := by
  rw [Shift.covers, if_pos day, decide_eq_true_iff]

/-- The window of a night shift runs over midnight. -/
theorem Shift.covers_iff_of_closes_lt_opens {h : Shift} (night : h.closes < h.opens) (m : Nat) :
    h.covers m = true ↔ h.opens ≤ m ∨ m < h.closes := by
  rw [Shift.covers, if_neg night.not_gt, if_pos night, decide_eq_true_iff]

/-- Equal minutes are on shift all day. -/
theorem Shift.covers_of_opens_eq_closes {h : Shift} (always : h.opens = h.closes) (m : Nat) : h.covers m = true := by
  rw [Shift.covers, if_neg always.not_lt, if_neg always.not_gt]

/-- A decision evaluates the condition that stands in the cell of the credential's class and the unit's entrance class. -/
theorem State.conditionHolds_of_cell {s : State} {u : UnitId} {k : Fin 8} {c : Condition}
    (cell : s.decision.conditions[k][s.units[u].entranceClass] = c) :
    s.conditionHolds u k = c.holds (s.roomView u) s.wing.mode (s.decision.shifts[k].covers s.clock.minute)
      s.decision.entrances[s.units[u].entranceClass].exposed := by
  rw [State.conditionHolds, cell]

/-- ON_SHIFT tests neither the room nor the wing mode nor the exposure. -/
@[simp] theorem Condition.onShift_holds (v : RoomView) (mode : WingMode) (onShift exposed : Bool) :
    Condition.onShift.holds v mode onShift exposed = onShift := rfl

end Sys2Proof.Machine

open Sys2Proof Sys2Proof.Machine

/-- Settles O17: R15's three cases by the order of the two minutes, and ON_SHIFT by the condition in the cell. -/
theorem shiftTestCoversItsMinutes : Obligations.ShiftTestCoversItsMinutes := by
  refine ⟨fun h m => ⟨fun day => ?_, fun night => ?_, fun always => ?_⟩, fun s u k cell => ?_⟩
  · exact h.covers_iff_of_opens_lt_closes day m
  · exact h.covers_iff_of_closes_lt_opens night m
  · exact h.covers_of_opens_eq_closes always m
  · rw [s.conditionHolds_of_cell cell, Condition.onShift_holds]

end

section
/-! A request carried out by its own rule: the bytes the port clocks meanwhile (R182) touch nothing that a rule reads, so a rule's
effects stand in the answered state as they are. -/

namespace Sys2Proof.Machine

open Sys2Proof

/-! ## The bytes sent during a transaction, and the updates a rule makes -/

section
variable (s : State) (p : Port) (n : Nat)

@[simp] theorem State.sendZeros_clock : (s.sendZeros p n).clock = s.clock := by simp [State.sendZeros]
@[simp] theorem State.sendZeros_rooms : (s.sendZeros p n).rooms = s.rooms := by simp [State.sendZeros]
@[simp] theorem State.sendZeros_accounts : (s.sendZeros p n).accounts = s.accounts := by simp [State.sendZeros]
@[simp] theorem State.sendZeros_units : (s.sendZeros p n).units = s.units := by simp [State.sendZeros]
@[simp] theorem State.sendZeros_log : (s.sendZeros p n).log = s.log := by simp [State.sendZeros]
@[simp] theorem State.sendZeros_nowIndex : (s.sendZeros p n).nowIndex = s.nowIndex := by simp [State.nowIndex]
@[simp] theorem State.sendZeros_now : (s.sendZeros p n).now = s.now := by simp [State.now]

@[simp] theorem State.setRoom_sendZeros (i : Slot) (r : Room) :
    (s.sendZeros p n).setRoom i r = (s.setRoom i r).sendZeros p n := by cases p <;> rfl
@[simp] theorem State.setClaim_sendZeros (i : Slot) (c : Option Claim) :
    (s.sendZeros p n).setClaim i c = (s.setClaim i c).sendZeros p n := by cases p <;> rfl
@[simp] theorem State.setAccount_sendZeros (i : Slot) (a : Account) :
    (s.sendZeros p n).setAccount i a = (s.setAccount i a).sendZeros p n := by cases p <;> rfl

/-- Queueing an event reads and writes nothing of the bytes sent. -/
theorem PortState.queue_sent_comm (q : PortState) (e : Event) (zeros : List Byte) :
    ({ q with sent := zeros }).queue e = { q.queue e with sent := zeros } := by
  simp only [PortState.queue]; split <;> rfl

theorem State.raise_sendZeros (q : Port) (e : Event) : (s.sendZeros p n).raise q e = (s.raise q e).sendZeros p n := by
  obtain rfl | rfl : q = p ∨ q = otherPort p := by cases p <;> cases q <;> decide
  · simp only [State.raise_eq, State.sendZeros, State.setPort_port, State.setPort_setPort, PortState.queue_sent_comm]
  · simp only [State.raise_eq, State.sendZeros, State.setPort_port_other, State.setPort_other_port]
    exact s.setPort_comm p _ _

theorem State.notify_sendZeros (before : EntryLog) (q : Port) :
    (s.sendZeros p n).notify before q = (s.notify before q).sendZeros p n := by
  simp only [State.notify, State.sendZeros_log]
  split
  · exact s.raise_sendZeros p n q _
  · rfl

/-- A record is formed and offered, and both thresholds tested, alike before and after the bytes are sent. -/
@[simp] theorem State.append_sendZeros (source : Source) (card : Option Nat) (room : Option Slot) (detail : Detail) :
    (s.sendZeros p n).append source card room detail = (s.append source card room detail).sendZeros p n := by
  have offered : ({ s.sendZeros p n with log := s.log.offer (s.form source card room detail) } : State)
      = ({ s with log := s.log.offer (s.form source card room detail) } : State).sendZeros p n := by cases p <;> rfl
  simp only [State.append, State.form, State.sendZeros_now, State.sendZeros_log] at offered ⊢
  rw [offered, State.notify_sendZeros, State.notify_sendZeros]

end

/-! ## Requests answered by their own rule, and refused by the permission table -/

section
variable {s t : State} {rq : Request} {p : Port}

/-- A request taken with the port ready whose rule has the effects `t` on the state is answered in that state. -/
theorem State.takeRequest_carriedOut {rule : State → Reply} {st : Status} {body : List Byte} (ready : s.Ready rq p)
    (carried : rule (s.sendZeros p (2 + rq.bodyLength))
      = (t.sendZeros p (2 + rq.bodyLength), { status := st, body := body })) :
    s.takeRequest rq p rule = t.withAnswer rq p st body := by
  rw [State.takeRequest_ready rule ready, carried]
  exact t.respond_sendZeros p _ st body

/-- R187: a request the table does not allow its port is refused before anything else is looked at. -/
theorem State.takeRequest_notPermitted (rule : State → Reply) (running : s.running = true) (empty : (s.port p).slot = none)
    (forbidden : rq.permitted p = false) : s.takeRequest rq p rule = s.withAnswer rq p .notPermitted [] :=
  State.takeRequest_checked rule running empty (by simp [State.portCheck, forbidden])

/-! R24's order for a claimed request: the slot, the claim, and then the request's own rule, renewed where it is answered OK. -/

variable {i : Slot} {rule : Slot → State → Reply}

theorem State.takeRequest_claimed_badSlot {slot : Byte} {ok : Bool} (ready : s.Ready rq p) (h : 128 ≤ slot.toNat) :
    s.takeRequest rq p (claimed p slot ok rule) = s.withAnswer rq p .badValue [] :=
  State.takeRequest_refused ready (claimed_badSlot ok rule h)

theorem State.takeRequest_claimed_notHeld (ready : s.Ready rq p) (other : s.holder i ≠ some p) :
    s.takeRequest rq p (claimed p (slotByte i) true rule) = s.withAnswer rq p .notClaimed [] :=
  State.takeRequest_refused ready (claimed_notHeld rule (by simpa using other))

theorem State.takeRequest_claimed_refused {st : Status} (ready : s.Ready rq p) (mine : s.holder i = some p) (failed : st ≠ .ok)
    (refused : rule i (s.sendZeros p (2 + rq.bodyLength)) = refuse st (s.sendZeros p (2 + rq.bodyLength))) :
    s.takeRequest rq p (claimed p (slotByte i) true rule) = s.withAnswer rq p st [] := by
  refine State.takeRequest_refused ready ?_
  rw [claimed_held rule (by simpa using mine), refused, renewing_refuse p i _ failed]
  rfl

theorem State.takeRequest_claimed_accepted {body : List Byte} (ready : s.Ready rq p) (mine : s.holder i = some p)
    (accepted : rule i (s.sendZeros p (2 + rq.bodyLength)) = accept (t.sendZeros p (2 + rq.bodyLength)) body) :
    s.takeRequest rq p (claimed p (slotByte i) true rule)
      = (t.setClaim i (some { holder := p, lease := 120 })).withAnswer rq p .ok body := by
  refine State.takeRequest_carriedOut ready ?_
  rw [claimed_held rule (by simpa using mine), accepted, renewing_accept, State.setClaim_sendZeros]

end

end Sys2Proof.Machine
end

section
/-! CONFIGURE ROOM and REMOVE ROOM (R20, R21): what their checks test, and their cases in order. -/

namespace Sys2Proof.Machine

open Sys2Proof

/-! ## What the checks test -/

/-- R20: another slot that is not UNUSED holds the number. -/
theorem State.numberTaken_iff (s : State) (i : Slot) (number : Nat) :
    s.numberTaken i number = true ↔ ∃ j : Slot, j ≠ i ∧ s.rooms[j].occupancy.number? = some number := by
  simp [State.numberTaken, allSlots]

/-- R21: a room lock or a minibar lock is bound to the slot. -/
theorem State.lockBound_iff (s : State) (i : Slot) :
    s.lockBound i = true ↔ ∃ u : UnitId, s.units[u].kind = .roomLock i ∨ s.units[u].kind = .minibarLock i := by
  simp [State.lockBound, State.roomLockOf, State.minibarLockOf, allUnits, exists_or]

/-- R19: a charge total or a tally count is not 0. -/
theorem State.unsettled_iff (s : State) (i : Slot) :
    s.unsettled i = true ↔ s.accounts[i].charge ≠ 0 ∨ ∃ k : Fin 12, s.accounts[i].tally[k] ≠ 0 := by
  simp [State.unsettled, Account.unsettled, Vector.any_eq_true, Fin.exists_iff]

/-! ## CONFIGURE ROOM -/

theorem exec_configureRoom (p : Port) (slot : Byte) (number : Half) (s : State) :
    exec (.configureRoom p slot number) s = .next (s.takeRequest .configureRoom p (configureRoom slot number)) := rfl

theorem configureRoom_badFields {slot : Byte} {number : Half} (s : State)
    (bad : 128 ≤ slot.toNat ∨ number.toNat = 0 ∨ 9999 < number.toNat) : configureRoom slot number s = refuse .badValue s := by
  unfold configureRoom
  split
  · rfl
  · next i inRange =>
    have noSlot : ¬ 128 ≤ slot.toNat := fun h => by simp [slotOf?_eq_none h] at inRange
    exact if_pos (bad.resolve_left noSlot)

section
variable {s : State} {i : Slot} {number : Half} (positive : 1 ≤ number.toNat) (small : number.toNat ≤ 9999)
include positive small

theorem configureRoom_occupied
    (occupied : (∃ n st, s.rooms[i].occupancy = .letTo n st) ∨ ∃ n, s.rooms[i].occupancy = .held n) :
    configureRoom (slotByte i) number s = refuse .wrongState s := by
  have inRange : ¬ (number.toNat = 0 ∨ 9999 < number.toNat) := by omega
  rcases occupied with ⟨n, st, h⟩ | ⟨n, h⟩ <;> simp only [configureRoom, slotOf?_slotByte, if_neg inRange, h]

section
variable (opened : s.rooms[i].occupancy = .unused ∨ ∃ n, s.rooms[i].occupancy = .vacant n)
include opened

/-- An UNUSED or VACANT slot takes the number unless another slot holds it. -/
theorem configureRoom_open :
    configureRoom (slotByte i) number s = if s.numberTaken i number.toNat then refuse .inUse s
      else accept (s.setRoom i { s.rooms[i] with occupancy := .vacant number.toNat }) (byte i.val ++ be 2 number.toNat) := by
  have inRange : ¬ (number.toNat = 0 ∨ 9999 < number.toNat) := by omega
  rcases opened with h | ⟨n, h⟩ <;> simp only [configureRoom, slotOf?_slotByte, if_neg inRange, h]

theorem configureRoom_taken (taken : ∃ j : Slot, j ≠ i ∧ s.rooms[j].occupancy.number? = some number.toNat) :
    configureRoom (slotByte i) number s = refuse .inUse s := by
  rw [configureRoom_open positive small opened, if_pos ((s.numberTaken_iff i _).mpr taken)]

theorem configureRoom_free (free : ∀ j : Slot, j ≠ i → s.rooms[j].occupancy.number? ≠ some number.toNat) :
    configureRoom (slotByte i) number s
      = accept (s.setRoom i { s.rooms[i] with occupancy := .vacant number.toNat }) (byte i.val ++ be 2 number.toNat) := by
  have notTaken : ¬ s.numberTaken i number.toNat = true := by simpa [s.numberTaken_iff] using free
  rw [configureRoom_open positive small opened, if_neg notTaken]

end

end

/-! ## REMOVE ROOM -/

theorem exec_removeRoom (p : Port) (slot : Byte) (s : State) :
    exec (.removeRoom p slot) s = .next (s.takeRequest .removeRoom p (removeRoom slot)) := rfl

theorem removeRoom_badSlot {slot : Byte} (s : State) (bad : 128 ≤ slot.toNat) : removeRoom slot s = refuse .badValue s := by
  simp only [removeRoom, slotOf?_eq_none bad]

section
variable {s : State} {i : Slot}

theorem removeRoom_notVacant (h : ∀ n, s.rooms[i].occupancy ≠ .vacant n) :
    removeRoom (slotByte i) s = refuse .wrongState s := by
  cases state : s.rooms[i].occupancy with
  | vacant n => exact absurd state (h n)
  | _ => simp only [removeRoom, slotOf?_slotByte, state]

variable {n : Nat} (vacant : s.rooms[i].occupancy = .vacant n)
include vacant

/-- A VACANT slot becomes UNUSED unless a lock is bound to it or its account is unsettled. -/
theorem removeRoom_vacant :
    removeRoom (slotByte i) s = if s.lockBound i then refuse .inUse s else if s.unsettled i then refuse .unsettled s
      else accept ((s.setRoom i { s.rooms[i] with occupancy := .unused }).setAccount i Account.cold) [] := by
  simp only [removeRoom, slotOf?_slotByte, vacant]

theorem removeRoom_bound (bound : ∃ u : UnitId, s.units[u].kind = .roomLock i ∨ s.units[u].kind = .minibarLock i) :
    removeRoom (slotByte i) s = refuse .inUse s := by
  rw [removeRoom_vacant vacant, if_pos ((s.lockBound_iff i).mpr bound)]

variable (unbound : ∀ u : UnitId, s.units[u].kind ≠ .roomLock i ∧ s.units[u].kind ≠ .minibarLock i)
include unbound

theorem removeRoom_unsettled (owing : s.accounts[i].charge ≠ 0 ∨ ∃ k : Fin 12, s.accounts[i].tally[k] ≠ 0) :
    removeRoom (slotByte i) s = refuse .unsettled s := by
  have noLock : ¬ s.lockBound i = true := by simpa [s.lockBound_iff] using unbound
  rw [removeRoom_vacant vacant, if_neg noLock, if_pos ((s.unsettled_iff i).mpr owing)]

theorem removeRoom_settled (noCharge : s.accounts[i].charge = 0) (noTally : ∀ k : Fin 12, s.accounts[i].tally[k] = 0) :
    removeRoom (slotByte i) s
      = accept ((s.setRoom i { s.rooms[i] with occupancy := .unused }).setAccount i Account.cold) [] := by
  have noLock : ¬ s.lockBound i = true := by simpa [s.lockBound_iff] using unbound
  have settled : ¬ s.unsettled i = true := fun h =>
    ((s.unsettled_iff i).mp h).elim (fun charge => charge noCharge) fun ⟨k, tally⟩ => tally (noTally k)
  rw [removeRoom_vacant vacant, if_neg noLock, if_neg settled]

end

end Sys2Proof.Machine

open Sys2Proof Sys2Proof.Machine

/-- Settles O20: the permission table first (R187), then each request's checks in the order of R20 and R21. -/
theorem roomsAreConfiguredAndRemoved : Obligations.RoomsAreConfiguredAndRemoved := by
  unfold Obligations.RoomsAreConfiguredAndRemoved
  simp only [exec_configureRoom, exec_removeRoom, Host.Outcome.next.injEq]
  refine ⟨fun s slot number => ⟨fun running empty => ?_, fun ready => ⟨fun bad => ?_, ?_⟩⟩,
    fun s slot => ⟨fun running empty => ?_, fun ready => ⟨fun bad => ?_, ?_⟩⟩⟩
  · exact State.takeRequest_notPermitted (p := .fo) _ running empty rfl
  · exact State.takeRequest_refused ready (configureRoom_badFields _ bad)
  · rintro i rfl positive small
    refine ⟨fun occupied => ?_, fun opened => ⟨fun taken => ?_, fun free => ?_⟩⟩
    · exact State.takeRequest_refused ready (configureRoom_occupied positive small (by simpa using occupied))
    · exact State.takeRequest_refused ready
        (configureRoom_taken positive small (by simpa using opened) (by simpa using taken))
    · refine State.takeRequest_carriedOut ready ?_
      rw [configureRoom_free positive small (by simpa using opened) (by simpa using free), State.setRoom_sendZeros,
        State.sendZeros_rooms]
      rfl
  · exact State.takeRequest_notPermitted (p := .fo) _ running empty rfl
  · exact State.takeRequest_refused ready (removeRoom_badSlot _ bad)
  · rintro i rfl
    refine ⟨fun notVacant => ?_, fun n vacant => ⟨fun bound => ?_, fun unbound => ⟨fun owing => ?_, fun noCharge noTally => ?_⟩⟩⟩
    · exact State.takeRequest_refused ready (removeRoom_notVacant (by simpa using notVacant))
    · exact State.takeRequest_refused ready (removeRoom_bound (n := n) (by simpa using vacant) (by simpa using bound))
    · exact State.takeRequest_refused ready
        (removeRoom_unsettled (n := n) (by simpa using vacant) (by simpa using unbound) (by simpa using owing))
    · refine State.takeRequest_carriedOut ready ?_
      rw [removeRoom_settled (n := n) (by simpa using vacant) (by simpa using unbound) (by simpa using noCharge)
        (by simpa using noTally), State.setRoom_sendZeros, State.setAccount_sendZeros, State.sendZeros_rooms]
      rfl

end

section
/-! HOLD ROOM and FREE ROOM (R22, R23), both under the claim (R24). -/

namespace Sys2Proof.Machine

open Sys2Proof

theorem exec_holdRoom (p : Port) (slot : Byte) (s : State) :
    exec (.holdRoom p slot) s = .next (s.takeRequest .holdRoom p (holdRoom p slot)) := rfl

theorem exec_freeRoom (p : Port) (slot : Byte) (s : State) :
    exec (.freeRoom p slot) s = .next (s.takeRequest .freeRoom p (freeRoom p slot)) := rfl

/-- The permission table and the link treat the two requests alike (R187, R194). -/
theorem State.ready_freeRoom_iff (s : State) (p : Port) : s.Ready .freeRoom p ↔ s.Ready .holdRoom p := Iff.rfl

section
variable {s : State} {p : Port} {i : Slot} (mine : s.holder i = some p)
include mine

theorem takeRequest_holdRoom_notVacant (ready : s.Ready .holdRoom p) (h : ∀ n, s.rooms[i].occupancy ≠ .vacant n) :
    s.takeRequest .holdRoom p (holdRoom p (slotByte i)) = s.withAnswer .holdRoom p .wrongState [] := by
  refine State.takeRequest_claimed_refused ready mine (by decide) ?_
  rw [State.sendZeros_rooms]
  cases state : s.rooms[i].occupancy with
  | vacant n => exact absurd state (h n)
  | _ => rfl

theorem takeRequest_holdRoom_vacant {n : Nat} (ready : s.Ready .holdRoom p) (vacant : s.rooms[i].occupancy = .vacant n) :
    s.takeRequest .holdRoom p (holdRoom p (slotByte i))
      = ((s.setRoom i { s.rooms[i] with occupancy := .held n }).setClaim i (some { holder := p, lease := 120 })).withAnswer
        .holdRoom p .ok [] := by
  refine State.takeRequest_claimed_accepted ready mine ?_
  simp only [State.sendZeros_rooms, vacant, State.setRoom_sendZeros]

theorem takeRequest_freeRoom_notHeld (ready : s.Ready .freeRoom p) (h : ∀ n, s.rooms[i].occupancy ≠ .held n) :
    s.takeRequest .freeRoom p (freeRoom p (slotByte i)) = s.withAnswer .freeRoom p .wrongState [] := by
  refine State.takeRequest_claimed_refused ready mine (by decide) ?_
  rw [State.sendZeros_rooms]
  cases state : s.rooms[i].occupancy with
  | held n => exact absurd state (h n)
  | _ => rfl

theorem takeRequest_freeRoom_held {n : Nat} (ready : s.Ready .freeRoom p) (held : s.rooms[i].occupancy = .held n) :
    s.takeRequest .freeRoom p (freeRoom p (slotByte i))
      = ((s.setRoom i { s.rooms[i] with occupancy := .vacant n }).setClaim i (some { holder := p, lease := 120 })).withAnswer
        .freeRoom p .ok [] := by
  refine State.takeRequest_claimed_accepted ready mine ?_
  simp only [State.sendZeros_rooms, held, State.setRoom_sendZeros]

end

end Sys2Proof.Machine

open Sys2Proof Sys2Proof.Machine

/-- Settles O21: the permission table (R187), the slot and the claim (R24), and the room's state, for the two requests alike. -/
theorem holdAndFreeMoveARoom : Obligations.HoldAndFreeMoveARoom := by
  unfold Obligations.HoldAndFreeMoveARoom
  simp only [exec_holdRoom, exec_freeRoom, Host.Outcome.next.injEq]
  refine fun s slot => ⟨fun running empty => ⟨?_, ?_⟩, fun ready => ?_⟩
  · exact State.takeRequest_notPermitted (p := .fo) _ running empty rfl
  · exact State.takeRequest_notPermitted (p := .fo) _ running empty rfl
  have readyFree := (s.ready_freeRoom_iff .se).mpr ready
  refine ⟨fun bad => ?_, ?_⟩
  · exact ⟨State.takeRequest_claimed_badSlot ready bad, State.takeRequest_claimed_badSlot readyFree bad⟩
  · rintro i rfl
    refine ⟨fun other => ?_, fun mine => ⟨fun notVacant => ?_, fun notHeld => ?_, fun n vacant => ?_, fun n held => ?_⟩⟩
    · exact ⟨State.takeRequest_claimed_notHeld ready other, State.takeRequest_claimed_notHeld readyFree other⟩
    · exact takeRequest_holdRoom_notVacant mine ready notVacant
    · exact takeRequest_freeRoom_notHeld mine readyFree notHeld
    · exact takeRequest_holdRoom_vacant mine ready vacant
    · exact takeRequest_freeRoom_held mine readyFree held

end

section
/-! CHANGE STAY (R27, R57): the room's stay and the windows of its live cards move together. -/

namespace Sys2Proof.Machine

open Sys2Proof

theorem exec_changeStay (p : Port) (slot : Byte) (departure : DayMinute) (s : State) :
    exec (.changeStay p slot departure) s = .next (s.takeRequest .changeStay p (changeStay p slot departure)) := rfl

/-- R57: the records of the slot that are not REVOKED take the window, and no other record changes. -/
theorem CardTable.moveWindows_eq (t : CardTable) (i : Slot) (w : Window) :
    t.moveWindows i w = { t with
      cards := t.cards.map fun c => if c.slot? = some i ∧ c.isRevoked = false then { c with window := w } else c } := by
  simp [CardTable.moveWindows]

/-- A LET room's departure and card window moved, with the windows of its live cards (R27). -/
def State.moveStay (s : State) (i : Slot) (number : Nat) (arrival departure : Moment) (w : Window) : State :=
  { s.setRoom i { s.rooms[i] with occupancy := .letTo number { arrival := arrival, departure := departure, window := w } } with
    table := s.table.moveWindows i w }

theorem State.moveStay_sendZeros (s : State) (p : Port) (n : Nat) (i : Slot) (number : Nat) (arrival departure : Moment)
    (w : Window) : (s.sendZeros p n).moveStay i number arrival departure w
      = (s.moveStay i number arrival departure w).sendZeros p n := by cases p <;> rfl

/-- CHANGE STAY carried out moves the stay and appends its record with the old and the new end of the window. -/
theorem changeStayOf_eq (p : Port) (i : Slot) (number : Nat) (stay : Stay) (departure stop : Moment) (s : State) :
    changeStayOf p i number stay departure stop s
      = accept ((s.moveStay i number stay.arrival departure { start := stay.window.start, stop := stop }).append (.port p) none
        (some i) (.stayChange stay.window.stop stop)) (Window.bytes { start := stay.window.start, stop := stop }) := rfl

section
variable {s : State} {p : Port} {i : Slot} {departure : DayMinute} (ready : s.Ready .changeStay p)
  (mine : s.holder i = some p)
include ready mine

theorem takeRequest_changeStay_notLet (h : ∀ number stay, s.rooms[i].occupancy ≠ .letTo number stay) :
    s.takeRequest .changeStay p (changeStay p (slotByte i) departure) = s.withAnswer .changeStay p .wrongState [] := by
  refine State.takeRequest_claimed_refused ready mine (by decide) ?_
  rw [State.sendZeros_rooms]
  cases state : s.rooms[i].occupancy with
  | letTo number stay => exact absurd state (h number stay)
  | _ => rfl

variable {number : Nat} {stay : Stay} (isLet : s.rooms[i].occupancy = .letTo number stay)
include isLet

theorem takeRequest_changeStay_noClock (notSet : s.clock.clockSet = false) :
    s.takeRequest .changeStay p (changeStay p (slotByte i) departure) = s.withAnswer .changeStay p .noClock [] := by
  refine State.takeRequest_claimed_refused ready mine (by decide) ?_
  simp only [State.sendZeros_rooms, isLet, State.sendZeros_clock, notSet, Bool.not_false, if_true]

variable (clockSet : s.clock.clockSet = true)
include clockSet

theorem takeRequest_changeStay_badWindow
    (refused : deriveWindow stay.arrival (momentOf departure) s.clock.grace s.nowIndex = none) :
    s.takeRequest .changeStay p (changeStay p (slotByte i) departure) = s.withAnswer .changeStay p .badWindow [] := by
  refine State.takeRequest_claimed_refused ready mine (by decide) ?_
  simp only [State.sendZeros_rooms, isLet, State.sendZeros_clock, State.sendZeros_nowIndex, clockSet, Bool.not_true,
    Bool.false_eq_true, if_false, refused]

/-- The derived window gives its end alone: its start stays that of the stay (R27). -/
theorem takeRequest_changeStay_moves {derived : Window}
    (derives : deriveWindow stay.arrival (momentOf departure) s.clock.grace s.nowIndex = some derived) :
    let w : Window := { start := stay.window.start, stop := derived.stop }
    s.takeRequest .changeStay p (changeStay p (slotByte i) departure)
      = (((s.moveStay i number stay.arrival (momentOf departure) w).append (.port p) none (some i)
          (.stayChange stay.window.stop derived.stop)).setClaim i (some { holder := p, lease := 120 })).withAnswer
        .changeStay p .ok w.bytes := by
  refine State.takeRequest_claimed_accepted ready mine ?_
  simp only [State.sendZeros_rooms, isLet, State.sendZeros_clock, State.sendZeros_nowIndex, clockSet, Bool.not_true,
    Bool.false_eq_true, if_false, derives, changeStayOf_eq, State.moveStay_sendZeros, State.append_sendZeros]

end

end Sys2Proof.Machine

open Sys2Proof Sys2Proof.Machine

/-- Settles O26: the checks after the claim in the order of R27, and the stay moved in the room and its live cards (R57). -/
theorem changeStayMovesTheWindow : Obligations.ChangeStayMovesTheWindow := by
  unfold Obligations.ChangeStayMovesTheWindow
  simp only [exec_changeStay, Host.Outcome.next.injEq, ← CardTable.moveWindows_eq]
  intro s i d ready mine
  refine ⟨fun notLet => ?_, fun number stay isLet => ⟨fun notSet => ?_, fun clockSet refused => ?_, fun clockSet derived derives => ?_⟩⟩
  · exact takeRequest_changeStay_notLet ready mine notLet
  · exact takeRequest_changeStay_noClock ready mine isLet notSet
  · exact takeRequest_changeStay_badWindow ready mine isLet clockSet refused
  · exact takeRequest_changeStay_moves ready mine isLet clockSet derives

end

section
/-! The Credential Table under a request's rule: the record found by its number (R40), the table replaced, and what the bytes sent
meanwhile (R182) leave of both. -/

namespace Sys2Proof.Machine

open Sys2Proof

/-- R40: the record found carries the number asked for. -/
theorem CardTable.number_of_find {t : CardTable} {number : Nat} {c : Credential} (found : t.find number = some c) :
    c.number = number := by simpa using List.find?_some found

/-- The state with another Credential Table; a request on cards changes nothing else but what it logs. -/
def State.setTable (s : State) (t : CardTable) : State := { s with table := t }

section
variable (s : State) (p : Port) (n : Nat)

@[simp] theorem State.setTable_rooms (t : CardTable) : (s.setTable t).rooms = s.rooms := rfl
@[simp] theorem State.setTable_accounts (t : CardTable) : (s.setTable t).accounts = s.accounts := rfl
@[simp] theorem State.setTable_units (t : CardTable) : (s.setTable t).units = s.units := rfl
@[simp] theorem State.setTable_sessions (t : CardTable) : (s.setTable t).sessions = s.sessions := rfl

@[simp] theorem State.sendZeros_table : (s.sendZeros p n).table = s.table := by simp [State.sendZeros]

@[simp] theorem State.setTable_sendZeros (t : CardTable) :
    (s.sendZeros p n).setTable t = (s.setTable t).sendZeros p n := by cases p <;> rfl

end

end Sys2Proof.Machine
end

section
/-! SUSPEND and RESUME (R64, R65), which are one rule for two states, and SET SITE (R44). -/

namespace Sys2Proof.Machine

open Sys2Proof

/-- A record's state set, with the record of it that the request appends (R64, R65). -/
def State.moveCard (s : State) (p : Port) (c : Credential) (target : CardState) (entry : Detail) : State :=
  (s.setTable (s.table.update c.number fun d => { d with state := target })).append (.port p) (some c.number) c.slot? entry

@[simp] theorem State.moveCard_sendZeros (s : State) (p : Port) (n : Nat) (c : Credential) (target : CardState) (entry : Detail) :
    (s.sendZeros p n).moveCard p c target entry = (s.moveCard p c target entry).sendZeros p n := by
  simp only [State.moveCard, State.sendZeros_table, State.setTable_sendZeros, State.append_sendZeros]

/-- SUSPEND and RESUME as one rule: a record that is not REVOKED is brought to the target state, and one already there is left. -/
def bringTo (target : CardState) (entry : Detail) (p : Port) (card : Triple) (s : State) : Reply :=
  if card = 0 then refuse .badValue s
  else
    match s.table.find card.toNat with
    | none => refuse .notFound s
    | some c =>
      if c.isRevoked then refuse .wrongState s
      else if c.state = target then accept s (cardStateBody c.number target)
      else accept (s.moveCard p c target entry) (cardStateBody c.number target)

theorem suspend_eq_bringTo (p : Port) (card : Triple) : suspend p card = bringTo .suspended .suspend p card := by
  funext s
  cases found : s.table.find card.toNat with
  | none => simp only [suspend, bringTo, found]
  | some c => cases state : c.state <;> simp [suspend, bringTo, found, state, Credential.isRevoked, State.moveCard, State.setTable]

theorem resume_eq_bringTo (p : Port) (card : Triple) : resume p card = bringTo .active .resume p card := by
  funext s
  cases found : s.table.find card.toNat with
  | none => simp only [resume, bringTo, found]
  | some c => cases state : c.state <;> simp [resume, bringTo, found, state, Credential.isRevoked, State.moveCard, State.setTable]

theorem exec_suspend (p : Port) (card : Triple) (s : State) :
    exec (.suspend p card) s = .next (s.takeRequest .suspend p (bringTo .suspended .suspend p card)) := by
  rw [← suspend_eq_bringTo]; rfl

theorem exec_resume (p : Port) (card : Triple) (s : State) :
    exec (.resume p card) s = .next (s.takeRequest .resume p (bringTo .active .resume p card)) := by
  rw [← resume_eq_bringTo]; rfl

theorem exec_setSite (p : Port) (site : Half) (s : State) :
    exec (.setSite p site) s = .next (s.takeRequest .setSite p (setSite site)) := rfl

/-- The permission table and the link treat the two requests alike (R187, R194). -/
theorem State.ready_resume_iff (s : State) (p : Port) : s.Ready .resume p ↔ s.Ready .suspend p := Iff.rfl

section
variable {s : State} {rq : Request} {p : Port} {target : CardState} {entry : Detail} (ready : s.Ready rq p)
include ready

theorem takeRequest_bringTo_zero : s.takeRequest rq p (bringTo target entry p 0) = s.withAnswer rq p .badValue [] :=
  State.takeRequest_refused ready rfl

variable {card : Triple} (positive : card ≠ 0)
include positive

theorem takeRequest_bringTo_notFound (unknown : s.table.find card.toNat = none) :
    s.takeRequest rq p (bringTo target entry p card) = s.withAnswer rq p .notFound [] :=
  State.takeRequest_refused ready (by simp only [bringTo, if_neg positive, State.sendZeros_table, unknown, refuse])

variable {c : Credential} (found : s.table.find card.toNat = some c)
include found

theorem takeRequest_bringTo_revoked (revoked : c.isRevoked = true) :
    s.takeRequest rq p (bringTo target entry p card) = s.withAnswer rq p .wrongState [] :=
  State.takeRequest_refused ready
    (by simp only [bringTo, if_neg positive, State.sendZeros_table, found, if_pos revoked, refuse])

/-- A record already in the target state is left as it is, and nothing is logged. -/
theorem takeRequest_bringTo_there (live : c.isRevoked = false) (there : c.state = target) :
    s.takeRequest rq p (bringTo target entry p card) = s.withAnswer rq p .ok (be 3 card.toNat ++ byte target.code) := by
  refine State.takeRequest_carriedOut ready ?_
  simp only [bringTo, if_neg positive, State.sendZeros_table, found, live, Bool.false_eq_true, if_false, if_pos there, accept,
    cardStateBody, CardTable.number_of_find found]

theorem takeRequest_bringTo_moves (live : c.isRevoked = false) (elsewhere : c.state ≠ target) :
    s.takeRequest rq p (bringTo target entry p card)
      = (s.moveCard p c target entry).withAnswer rq p .ok (be 3 card.toNat ++ byte target.code) := by
  refine State.takeRequest_carriedOut ready ?_
  simp only [bringTo, if_neg positive, State.sendZeros_table, found, live, Bool.false_eq_true, if_false, if_neg elsewhere, accept,
    cardStateBody, CardTable.number_of_find found, State.moveCard_sendZeros]

end

section
variable {s : State} {site : Half} (ready : s.Ready .setSite .se)
include ready

theorem takeRequest_setSite_zero : s.takeRequest .setSite .se (setSite 0) = s.withAnswer .setSite .se .badValue [] :=
  State.takeRequest_refused ready rfl

variable (positive : site ≠ 0)
include positive

theorem takeRequest_setSite_occupied (cards : s.table.cards ≠ []) :
    s.takeRequest .setSite .se (setSite site) = s.withAnswer .setSite .se .wrongState [] :=
  State.takeRequest_refused ready (by simp only [setSite, if_neg positive, State.sendZeros_table,
    List.isEmpty_eq_false_iff.mpr cards, Bool.not_false, if_true, refuse])

theorem takeRequest_setSite_stores (empty : s.table.cards = []) :
    s.takeRequest .setSite .se (setSite site)
      = (s.setTable { s.table with site := site.toNat }).withAnswer .setSite .se .ok (be 2 site.toNat) := by
  refine State.takeRequest_carriedOut ready ?_
  rw [← State.setTable_sendZeros]
  simp only [setSite, if_neg positive, State.sendZeros_table, empty, List.isEmpty_nil, Bool.not_true, Bool.false_eq_true, if_false]
  rfl

end

end Sys2Proof.Machine

open Sys2Proof Sys2Proof.Machine

/-- Settles O31: SUSPEND and RESUME by the state of the record, each case once for the two, and SET SITE by the table. -/
theorem suspendResumeAndSetSite : Obligations.SuspendResumeAndSetSite := by
  unfold Obligations.SuspendResumeAndSetSite
  simp only [exec_suspend, exec_resume, exec_setSite, Host.Outcome.next.injEq]
  refine ⟨fun s card ready => ?_, fun s site ready => ⟨?_, fun positive cards => ?_, fun positive empty => ?_⟩⟩
  · have readyResume := (s.ready_resume_iff .se).mpr ready
    refine ⟨?_, fun positive unknown => ?_, fun positive c found =>
      ⟨fun revoked => ?_, fun active => ?_, fun suspended => ?_⟩⟩
    · rintro rfl
      exact ⟨takeRequest_bringTo_zero ready, takeRequest_bringTo_zero readyResume⟩
    · exact ⟨takeRequest_bringTo_notFound ready positive unknown, takeRequest_bringTo_notFound readyResume positive unknown⟩
    · exact ⟨takeRequest_bringTo_revoked ready positive found revoked,
        takeRequest_bringTo_revoked readyResume positive found revoked⟩
    · have live : c.isRevoked = false := by simp only [Credential.isRevoked, active]
      exact ⟨takeRequest_bringTo_moves ready positive found live (by simp [active]),
        takeRequest_bringTo_there readyResume positive found live active⟩
    · have live : c.isRevoked = false := by simp only [Credential.isRevoked, suspended]
      exact ⟨takeRequest_bringTo_there ready positive found live suspended,
        takeRequest_bringTo_moves readyResume positive found live (by simp [suspended])⟩
  · rintro rfl
    exact takeRequest_setSite_zero ready
  · exact takeRequest_setSite_occupied ready positive cards
  · exact takeRequest_setSite_stores ready positive empty

end

section
/-! REVOKE (R60 to R62): the checks of both ports, those of FO, and the record by its state. -/

namespace Sys2Proof.Machine

open Sys2Proof

/-! ## The reason asked for -/

theorem reasonOf?_eq_none {reason : Byte} (h : reason ≠ 3 ∧ reason ≠ 4 ∧ reason ≠ 5) : reasonOf? reason = none := by
  obtain ⟨notLost, notReturned, notWithdrawn⟩ := h
  rw [reasonOf?, if_neg notLost, if_neg notReturned, if_neg notWithdrawn]

/-- R60: CHECKOUT and SUPERSEDED are not for a request to give. -/
theorem reasonOf?_code {r : RevokeReason} (notCheckout : r ≠ .checkout) (notSuperseded : r ≠ .superseded) :
    reasonOf? (BitVec.ofNat 8 r.code) = some r := by
  cases r with
  | checkout => exact absurd rfl notCheckout
  | superseded => exact absurd rfl notSuperseded
  | lost | returned | withdrawn => rfl

/-! ## The record (R62) -/

/-- A record revoked, with the record of it in the entry log (R62). -/
def State.revokeCard (s : State) (p : Port) (c : Credential) (r : RevokeReason) : State :=
  (s.setTable (s.table.revoke c.number r)).append (.port p) (some c.number) c.slot? (.revoke r)

@[simp] theorem State.revokeCard_sendZeros (s : State) (p : Port) (n : Nat) (c : Credential) (r : RevokeReason) :
    (s.sendZeros p n).revokeCard p c r = (s.revokeCard p c r).sendZeros p n := by
  simp only [State.revokeCard, State.sendZeros_table, State.setTable_sendZeros, State.append_sendZeros]

/-- A card already REVOKED is left as it is and answered with its own reason. -/
theorem revokeRecord_revoked {c : Credential} {was : RevokeReason} (revoked : c.state = .revoked was) (p : Port)
    (r : RevokeReason) (s : State) : revokeRecord p c r s = accept s (revokeBody c.number was) := by
  simp only [revokeRecord, revoked]

theorem revokeRecord_live {c : Credential} (live : c.isRevoked = false) (p : Port) (r : RevokeReason) (s : State) :
    revokeRecord p c r s = accept (s.revokeCard p c r) (revokeBody c.number r) := by
  cases state : c.state with
  | revoked was => simp [Credential.isRevoked, state] at live
  | _ => simp only [revokeRecord, state]; rfl

/-! ## The request by port (R60, R61) -/

theorem exec_revoke (p : Port) (card : Triple) (reason : Byte) (s : State) :
    exec (.revoke p card reason) s = .next (s.takeRequest .revoke p (revoke p card reason)) := rfl

theorem revoke_badFields {card : Triple} {reason : Byte} (p : Port) (s : State)
    (bad : card = 0 ∨ (reason ≠ 3 ∧ reason ≠ 4 ∧ reason ≠ 5)) : revoke p card reason s = refuse .badValue s := by
  rcases bad with zero | unknown
  · cases asked : reasonOf? reason with
    | none => simp only [revoke, asked]
    | some r => simp only [revoke, asked, if_pos zero]
  · simp only [revoke, reasonOf?_eq_none unknown]

section
variable {s : State} {p : Port} {card : Triple} {reason : Byte} {r : RevokeReason} (asked : reasonOf? reason = some r)
  (positive : card ≠ 0)
include asked positive

theorem revoke_notFound (unknown : s.table.find card.toNat = none) : revoke p card reason s = refuse .notFound s := by
  simp only [revoke, asked, if_neg positive, unknown]

variable {c : Credential} (found : s.table.find card.toNat = some c)
include found

theorem revoke_se : revoke .se card reason s = revokeRecord .se c r s := by
  simp only [revoke, asked, if_neg positive, found]

theorem revoke_fo_staff (staff : c.binding = none) : revoke .fo card reason s = refuse .notPermitted s := by
  simp only [revoke, asked, if_neg positive, found, revokeFromFo, Credential.slot?, staff, Option.map_none]

variable {b : RoomBinding} (bound : c.binding = some b)
include bound

theorem revoke_fo_notHeld (other : s.holder b.slot ≠ some .fo) : revoke .fo card reason s = refuse .notClaimed s := by
  simp only [revoke, asked, if_neg positive, found, revokeFromFo, Credential.slot?, bound, Option.map_some, if_pos other]

theorem revoke_fo_held (mine : s.holder b.slot = some .fo) :
    revoke .fo card reason s = renewing .fo b.slot (revokeRecord .fo c r s) := by
  simp only [revoke, asked, if_neg positive, found, revokeFromFo, Credential.slot?, bound, Option.map_some, mine, ne_eq,
    not_true_eq_false, if_false]

end

/-- R34: an accepted request of FO restarts the lease of the card's room; SE's renews none. -/
def State.renewFor (p : Port) (c : Credential) (s : State) : State :=
  match p, c.binding with
  | .fo, some b => s.setClaim b.slot (some { holder := .fo, lease := 120 })
  | _, _ => s

section
variable {s t : State} {p : Port} {card : Triple} {reason : Byte} {r : RevokeReason} (ready : s.Ready .revoke p)
  (asked : reasonOf? reason = some r) (positive : card ≠ 0) {c : Credential} (found : s.table.find card.toNat = some c)
include ready asked positive found

/-- A request that passes the checks of its port acts on the record (R62). -/
theorem takeRequest_revoke_passed {body : List Byte} (passed : p = .se ∨ ∃ b ∈ c.binding, s.holder b.slot = some .fo)
    (acts : ∀ n, revokeRecord p c r (s.sendZeros p n) = accept (t.sendZeros p n) body) :
    s.takeRequest .revoke p (revoke p card reason) = (t.renewFor p c).withAnswer .revoke p .ok body := by
  refine State.takeRequest_carriedOut ready ?_
  cases p with
  | se => rw [revoke_se asked positive (by rwa [State.sendZeros_table]), acts]; rfl
  | fo =>
    obtain ⟨b, bound, mine⟩ := passed.resolve_left (by decide)
    rw [revoke_fo_held asked positive (by rwa [State.sendZeros_table]) bound (by simpa using mine), acts, renewing_accept,
      State.setClaim_sendZeros]
    simp only [State.renewFor, show c.binding = some b from bound]

variable (passed : p = .se ∨ ∃ b ∈ c.binding, s.holder b.slot = some .fo)
include passed

theorem takeRequest_revoke_revoked {was : RevokeReason} (revoked : c.state = .revoked was) :
    s.takeRequest .revoke p (revoke p card reason)
      = (s.renewFor p c).withAnswer .revoke p .ok (be 3 card.toNat ++ byte 3 ++ byte was.code) := by
  rw [← CardTable.number_of_find found]
  exact takeRequest_revoke_passed ready asked positive found passed fun n => revokeRecord_revoked revoked p r _

theorem takeRequest_revoke_live (live : c.isRevoked = false) :
    s.takeRequest .revoke p (revoke p card reason)
      = ((s.revokeCard p c r).renewFor p c).withAnswer .revoke p .ok (be 3 card.toNat ++ byte 3 ++ byte r.code) := by
  rw [← CardTable.number_of_find found]
  refine takeRequest_revoke_passed ready asked positive found passed fun n => ?_
  rw [revokeRecord_live live, State.revokeCard_sendZeros]
  rfl

end

end Sys2Proof.Machine

open Sys2Proof Sys2Proof.Machine

/-- Settles O30: the checks of both ports, those of FO, and then the record by its state, with the lease renewed for FO alone. -/
theorem revokeRevokesOnce : Obligations.RevokeRevokesOnce := by
  unfold Obligations.RevokeRevokesOnce
  simp only [exec_revoke, Host.Outcome.next.injEq]
  refine fun s p card reason ready => ⟨fun bad => ?_, ?_⟩
  · exact State.takeRequest_refused ready (revoke_badFields p _ bad)
  · rintro r notCheckout notSuperseded rfl positive
    have asked := reasonOf?_code notCheckout notSuperseded
    refine ⟨fun unknown => ?_, fun c found => ⟨?_, ?_, fun passed => ⟨fun was revoked => ?_, fun live => ?_⟩⟩⟩
    · exact State.takeRequest_refused ready (revoke_notFound asked positive (by rwa [State.sendZeros_table]))
    · rintro rfl staff
      exact State.takeRequest_refused ready (revoke_fo_staff asked positive (by rwa [State.sendZeros_table]) staff)
    · rintro rfl b bound other
      exact State.takeRequest_refused ready
        (revoke_fo_notHeld asked positive (by rwa [State.sendZeros_table]) bound (by simpa using other))
    · exact takeRequest_revoke_revoked ready asked positive found passed revoked
    · exact takeRequest_revoke_live ready asked positive found passed live

end

section
/-! CHECK OUT (R28, R63, R136): the room's live cards revoked in one pass, the room vacated, and a session at its minibar ended. -/

namespace Sys2Proof.Machine

open Sys2Proof

theorem exec_checkOut (p : Port) (slot : Byte) (s : State) :
    exec (.checkOut p slot) s = .next (s.takeRequest .checkOut p (checkOut p slot)) := rfl

/-! ## The revocations (R63) -/

/-- Revoking cards one by one revokes every record whose number is among theirs. -/
theorem CardTable.revokeAll_eq_map (t : CardTable) (cards : List Credential) :
    t.revokeAll cards = { t with
      cards := t.cards.map fun c => if c.number ∈ cards.map Credential.number then { c with state := .revoked .checkout } else c
      revoked := t.revoked ++ cards.map Credential.number } := by
  induction cards generalizing t with
  | nil => simp [CardTable.revokeAll]
  | cons d rest ih =>
    have unfolded : t.revokeAll (d :: rest) = (t.revoke d.number .checkout).revokeAll rest := rfl
    rw [unfolded, ih]
    simp only [CardTable.revoke, CardTable.update, List.map_map, List.map_cons, List.append_assoc, List.singleton_append]
    congr 2
    funext c
    by_cases same : c.number = d.number <;> simp [same]

/-- No two records of an ascending table carry the same number (R40). -/
theorem CardTable.eq_of_number_eq {t : CardTable} (ascending : t.cards.Pairwise fun a b => a.number < b.number)
    {c d : Credential} (hc : c ∈ t.cards) (hd : d ∈ t.cards) (same : c.number = d.number) : c = d := by
  have distinct : (t.cards.map Credential.number).Nodup := List.pairwise_map.mpr (ascending.imp fun h => h.ne)
  exact List.inj_on_of_nodup_map distinct hc hd same

theorem CardTable.mem_liveOf {t : CardTable} {i : Slot} {c : Credential} :
    c ∈ t.liveOf i ↔ c ∈ t.cards ∧ c.slot? = some i ∧ c.isRevoked = false := by
  simp [CardTable.liveOf]

theorem CardTable.slot_of_mem_liveOf {t : CardTable} {i : Slot} {c : Credential} (h : c ∈ t.liveOf i) : c.slot? = some i := by
  obtain ⟨_, bound, _⟩ := CardTable.mem_liveOf.mp h
  exact bound

theorem CardTable.liveOf_eq (t : CardTable) (i : Slot) :
    t.liveOf i = t.cards.filter fun c => c.slot? = some i ∧ c.isRevoked = false := by
  simp only [CardTable.liveOf]
  exact List.filter_congr fun c _ => by rw [Bool.eq_iff_iff]; simp

/-- R63: the live records of the slot become REVOKED with reason CHECKOUT, and no other record changes. -/
theorem CardTable.revokeAll_liveOf {t : CardTable} (ascending : t.cards.Pairwise fun a b => a.number < b.number) (i : Slot) :
    t.revokeAll (t.liveOf i) = { t with
      cards := t.cards.map fun c =>
        if c.slot? = some i ∧ c.isRevoked = false then { c with state := .revoked .checkout } else c
      revoked := t.revoked ++ (t.liveOf i).map Credential.number } := by
  have among (c : Credential) (hc : c ∈ t.cards) :
      c.number ∈ (t.liveOf i).map Credential.number ↔ c.slot? = some i ∧ c.isRevoked = false := by
    refine ⟨fun h => ?_, fun live => List.mem_map_of_mem (CardTable.mem_liveOf.mpr ⟨hc, live⟩)⟩
    obtain ⟨d, hd, same⟩ := List.mem_map.mp h
    obtain ⟨held, live⟩ := CardTable.mem_liveOf.mp hd
    rwa [← CardTable.eq_of_number_eq ascending held hc same]
  rw [CardTable.revokeAll_eq_map]
  congr 1
  exact List.map_congr_left fun c hc => by simp only [among c hc]

section
variable (s : State) (p : Port) (n : Nat)

/-! ## The records of the revocations -/

@[simp] theorem logRevokes_frame (cards : List Credential) :
    (logRevokes p cards s).accounts = s.accounts ∧ (logRevokes p cards s).units = s.units
    ∧ (logRevokes p cards s).sessions = s.sessions := by
  induction cards generalizing s with
  | nil => exact ⟨rfl, rfl, rfl⟩
  | cons c rest ih =>
    have unfolded : logRevokes p (c :: rest) s = logRevokes p rest (s.logRevoke p c .checkout) := rfl
    simp [unfolded, ih, State.logRevoke]

theorem logRevokes_sendZeros (q : Port) (cards : List Credential) :
    logRevokes q cards (s.sendZeros p n) = (logRevokes q cards s).sendZeros p n := by
  induction cards generalizing s with
  | nil => rfl
  | cons c rest ih =>
    have unfolded (x : State) : logRevokes q (c :: rest) x = logRevokes q rest (x.logRevoke q c .checkout) := rfl
    rw [unfolded, unfolded, State.logRevoke, State.append_sendZeros, ih]
    rfl

/-- The records of cards that all belong to one room name that room. -/
theorem logRevokes_ofSlot {cards : List Credential} {i : Slot} (bound : ∀ c ∈ cards, c.slot? = some i) :
    logRevokes p cards s
      = cards.foldl (fun x c => x.append (.port p) (some c.number) (some i) (.revoke .checkout)) s :=
  List.foldl_ext _ _ _ fun x c hc => by rw [State.logRevoke, bound c hc]

/-! ## The session at the room's minibar lock (R136) -/

@[simp] theorem State.sendZeros_sessions : (s.sendZeros p n).sessions = s.sessions := by simp [State.sendZeros]

@[simp] theorem State.setRelock_sendZeros (u : UnitId) :
    (s.sendZeros p n).setRelock u = (s.setRelock u).sendZeros p n := by cases p <;> rfl

theorem State.endSession_sendZeros (u : UnitId) (reason : EndReason) :
    (s.sendZeros p n).endSession u reason = (s.endSession u reason).sendZeros p n := by
  cases session : s.sessions[u] with
  | none => simp only [State.endSession, State.sendZeros_sessions, session]
  | some x =>
    simp only [State.endSession, State.sendZeros_sessions, session]
    rw [← State.append_sendZeros]
    cases p <;> rfl

theorem State.endSessionRelock_sendZeros (u : UnitId) (reason : EndReason) :
    (s.sendZeros p n).endSessionRelock u reason = (s.endSessionRelock u reason).sendZeros p n := by
  simp only [State.endSessionRelock, State.sendZeros_sessions]
  split
  · rw [State.setRelock_sendZeros, State.endSession_sendZeros]
  · rfl

theorem State.minibarLockOf_congr {s t : State} (units : t.units = s.units) (i : Slot) :
    t.minibarLockOf i = s.minibarLockOf i := by simp only [State.minibarLockOf, units]

theorem State.endRoomSession_noLock {i : Slot} (noLock : s.minibarLockOf i = none) : s.endRoomSession i = s := by
  simp only [State.endRoomSession, noLock]

theorem State.endRoomSession_lock {i : Slot} {u : UnitId} (lock : s.minibarLockOf i = some u) :
    s.endRoomSession i = s.endSessionRelock u .checkout := by simp only [State.endRoomSession, lock]

@[simp] theorem State.endRoomSession_accounts (i : Slot) : (s.endRoomSession i).accounts = s.accounts := by
  cases lock : s.minibarLockOf i with
  | none => rw [s.endRoomSession_noLock lock]
  | some u => rw [s.endRoomSession_lock lock]; simp

theorem State.endRoomSession_sendZeros (i : Slot) :
    (s.sendZeros p n).endRoomSession i = (s.endRoomSession i).sendZeros p n := by
  have same : (s.sendZeros p n).minibarLockOf i = s.minibarLockOf i := State.minibarLockOf_congr (s.sendZeros_units p n) i
  cases lock : s.minibarLockOf i with
  | none => rw [State.endRoomSession_noLock _ (same.trans lock), s.endRoomSession_noLock lock]
  | some u =>
    rw [State.endRoomSession_lock _ (same.trans lock), s.endRoomSession_lock lock, State.endSessionRelock_sendZeros]

/-! ## The check-out (R28) -/

/-- R28: the room's live cards revoked, the room VACANT and its account blocked. -/
def State.vacate (i : Slot) (number : Nat) : State :=
  ((s.setTable (s.table.revokeAll (s.table.liveOf i))).setRoom i { s.rooms[i] with occupancy := .vacant number }).setAccount i
    { s.accounts[i] with blocked := true }

theorem State.vacate_eq {s : State} (ascending : s.table.cards.Pairwise fun a b => a.number < b.number) (i : Slot) (number : Nat) :
    s.vacate i number = { s with
      table := { s.table with
        cards := s.table.cards.map fun c =>
          if c.slot? = some i ∧ c.isRevoked = false then { c with state := .revoked .checkout } else c
        revoked := s.table.revoked ++ (s.table.liveOf i).map Credential.number }
      rooms := s.rooms.set i { s.rooms[i] with occupancy := .vacant number }
      accounts := s.accounts.set i { s.accounts[i] with blocked := true } } := by
  rw [State.vacate, CardTable.revokeAll_liveOf ascending]
  rfl

theorem State.vacate_sendZeros (i : Slot) (number : Nat) :
    (s.sendZeros p n).vacate i number = (s.vacate i number).sendZeros p n := by
  simp only [State.vacate, State.sendZeros_table, State.sendZeros_rooms, State.sendZeros_accounts, State.setTable_sendZeros,
    State.setRoom_sendZeros, State.setAccount_sendZeros]

/-- The records of a check-out: the stay's, and one for each card revoked (R28, R63). -/
def State.logCheckOut (i : Slot) (cards : List Credential) : State :=
  logRevokes p cards (s.append (.port p) none (some i) (.stayCheckOut cards.length))

theorem State.logCheckOut_sendZeros (q : Port) (i : Slot) (cards : List Credential) :
    (s.sendZeros p n).logCheckOut q i cards = (s.logCheckOut q i cards).sendZeros p n := by
  simp only [State.logCheckOut, State.append_sendZeros, logRevokes_sendZeros]

theorem State.logCheckOut_frame (i : Slot) (cards : List Credential) :
    (s.logCheckOut p i cards).accounts = s.accounts ∧ (s.logCheckOut p i cards).units = s.units
    ∧ (s.logCheckOut p i cards).sessions = s.sessions := by simp [State.logCheckOut]

/-- A check-out blocks the account and leaves the room as settled as it was. -/
theorem State.vacate_unsettled (i : Slot) (number : Nat) {t : State} (accounts : t.accounts = (s.vacate i number).accounts) :
    t.unsettled i = s.unsettled i := by
  simp [State.unsettled, accounts, State.vacate, Account.unsettled]

theorem checkOutRoom_eq (i : Slot) (number : Nat) :
    checkOutRoom p i number s = accept (((s.vacate i number).logCheckOut p i (s.table.liveOf i)).endRoomSession i)
      (byte (s.table.liveOf i).length ++ flag (s.unsettled i)) := by
  obtain ⟨accounts, _, _⟩ := (s.vacate i number).logCheckOut_frame p i (s.table.liveOf i)
  rw [← s.vacate_unsettled i number ((State.endRoomSession_accounts _ i).trans accounts)]
  rfl

end

section
variable {s : State} {p : Port} {i : Slot} (ready : s.Ready .checkOut p) (mine : s.holder i = some p)
include ready mine

theorem takeRequest_checkOut_notLet (h : ∀ number stay, s.rooms[i].occupancy ≠ .letTo number stay) :
    s.takeRequest .checkOut p (checkOut p (slotByte i)) = s.withAnswer .checkOut p .wrongState [] := by
  refine State.takeRequest_claimed_refused ready mine (by decide) ?_
  rw [State.sendZeros_rooms]
  cases state : s.rooms[i].occupancy with
  | letTo number stay => exact absurd state (h number stay)
  | _ => rfl

theorem takeRequest_checkOut_vacates {number : Nat} {stay : Stay} (isLet : s.rooms[i].occupancy = .letTo number stay) :
    s.takeRequest .checkOut p (checkOut p (slotByte i))
      = ((((s.vacate i number).logCheckOut p i (s.table.liveOf i)).endRoomSession i).setClaim i
          (some { holder := p, lease := 120 })).withAnswer .checkOut p .ok
        (byte (s.table.liveOf i).length ++ flag (s.unsettled i)) := by
  refine State.takeRequest_claimed_accepted ready mine ?_
  simp only [State.sendZeros_rooms, isLet, checkOutRoom_eq, State.vacate_sendZeros, State.sendZeros_table,
    State.logCheckOut_sendZeros, State.endRoomSession_sendZeros, State.unsettled, State.sendZeros_accounts]

end

end Sys2Proof.Machine

open Sys2Proof Sys2Proof.Machine

/-- Settles O27: the room's state after the claim, and a check-out's effects in the order of R28. -/
theorem checkOutRevokesTheCards : Obligations.CheckOutRevokesTheCards := by
  unfold Obligations.CheckOutRevokesTheCards
  intro s i ready mine sound
  obtain ⟨_, ascending, _⟩ := sound
  rw [exec_checkOut]
  refine ⟨fun notLet => congrArg _ (takeRequest_checkOut_notLet ready mine notLet), fun number stay isLet => ?_⟩
  intro live out logged ended
  have isLive : live = s.table.liveOf i := (s.table.liveOf_eq i).symm
  have isOut : out = s.vacate i number := by rw [State.vacate_eq ascending, ← isLive]
  have isLogged : logged = out.logCheckOut .fo i live :=
    (logRevokes_ofSlot _ .fo fun c hc => CardTable.slot_of_mem_liveOf (isLive ▸ hc)).symm
  have isEnded : ended = logged.endRoomSession i := by
    obtain ⟨_, units, sessions⟩ := out.logCheckOut_frame .fo i live
    rw [← isLogged] at units sessions
    have sameLock : logged.minibarLockOf i = s.minibarLockOf i := State.minibarLockOf_congr units i
    have sameSessions : logged.sessions = s.sessions := sessions
    cases lock : s.minibarLockOf i with
    | none => simp only [ended, lock, logged.endRoomSession_noLock (sameLock.trans lock)]
    | some u =>
      simp only [ended, lock, logged.endRoomSession_lock (sameLock.trans lock), State.endSessionRelock, sameSessions]
  rw [isEnded, isLogged, isOut, isLive]
  exact congrArg _ (takeRequest_checkOut_vacates ready mine isLet)

end

section
/-! A unit record replaced: the ajar timer stopped, and privacy UNKNOWN on the room a room lock leaves and on the one it joins
(R39, R73, R74), with what the bytes sent meanwhile (R182) leave of the unit. -/

namespace Sys2Proof.Machine

open Sys2Proof

/-! ## Privacy forgotten (R39) -/

/-- The state with other room records. -/
def State.setRooms (s : State) (rooms : Vector Room 128) : State := { s with rooms := rooms }

theorem State.setRooms_setRooms (s : State) (rooms rooms' : Vector Room 128) :
    (s.setRooms rooms).setRooms rooms' = s.setRooms rooms' := rfl

/-- The state with privacy UNKNOWN on the rooms of a property, and every other room as it was. -/
def State.forgetWhere (s : State) (lost : Slot → Prop) [DecidablePred lost] : State :=
  s.setRooms (Vector.ofFn fun i : Slot => if lost i then { s.rooms[i] with privacy := .unknown } else s.rooms[i])

@[simp] theorem State.forgetWhere_rooms (s : State) (lost : Slot → Prop) [DecidablePred lost] :
    (s.forgetWhere lost).rooms
      = Vector.ofFn fun i : Slot => if lost i then { s.rooms[i] with privacy := .unknown } else s.rooms[i] := rfl

theorem State.setRooms_eq_forgetWhere {s : State} {rooms : Vector Room 128} {lost : Slot → Prop} [DecidablePred lost]
    (each : ∀ i : Slot, rooms[i] = if lost i then { s.rooms[i] with privacy := .unknown } else s.rooms[i]) :
    s.setRooms rooms = s.forgetWhere lost :=
  congrArg s.setRooms (Vector.ext fun i hi => by simpa using each ⟨i, hi⟩)

/-- Only the room of a room lock loses its privacy. -/
theorem State.forgetPrivacy_eq (s : State) (kind : UnitKind) :
    s.forgetPrivacy kind = s.forgetWhere fun i => kind = .roomLock i := by
  cases kind with
  | roomLock j =>
    refine State.setRooms_eq_forgetWhere (rooms := s.rooms.set j { s.rooms[j] with privacy := .unknown }) fun i => ?_
    by_cases same : j = i
    · subst same
      simp
    · have apart : j.val ≠ i.val := fun h => same (Fin.ext h)
      simp [same, Vector.getElem_set_ne _ _ apart]
  | _ => exact State.setRooms_eq_forgetWhere (rooms := s.rooms) fun i => by simp

theorem State.forgetWhere_forgetWhere (s : State) (lost gone : Slot → Prop) [DecidablePred lost] [DecidablePred gone] :
    (s.forgetWhere lost).forgetWhere gone = s.forgetWhere fun i => lost i ∨ gone i := by
  refine (State.setRooms_setRooms s _ _).trans (State.setRooms_eq_forgetWhere fun i => ?_)
  by_cases first : lost i <;> simp [first]

/-! ## The record replaced (R73, R74) -/

/-- The state with another record for a unit, whose ajar timer stops; the rooms that it was and becomes the room lock of lose their
privacy. -/
def State.replaceUnit (s : State) (u : UnitId) (r : UnitRec) : State :=
  ((s.setUnit u r).setAjar u none).forgetWhere fun i => s.units[u].kind = .roomLock i ∨ r.kind = .roomLock i

@[simp] theorem State.replaceUnit_units_getElem (s : State) (u : UnitId) (r : UnitRec) : (s.replaceUnit u r).units[u] = r := by
  simp [State.replaceUnit, State.forgetWhere, State.setRooms]

/-- CONFIGURE UNIT carried out replaces the record and answers with the new one. -/
theorem configureUnitAs_eq (u : UnitId) (kind : UnitKind) (ec : Fin 8) (s : State) :
    configureUnitAs u kind ec s
      = accept (s.replaceUnit u (s.units[u].configured kind ec)) (s.units[u].configured kind ec).bytes := by
  have replaced : (((s.setUnit u (s.units[u].configured kind ec)).setAjar u none).forgetPrivacy s.units[u].kind).forgetPrivacy
      kind = s.replaceUnit u (s.units[u].configured kind ec) := by
    rw [State.forgetPrivacy_eq, State.forgetPrivacy_eq, State.forgetWhere_forgetWhere]
    rfl
  simp only [configureUnitAs, replaced, State.replaceUnit_units_getElem]

/-- A cold-start record is bound to no room, so a removal forgets the privacy of the old record's room alone. -/
theorem State.replaceUnit_cold (s : State) (u : UnitId) :
    s.replaceUnit u UnitRec.cold
      = ((s.setUnit u UnitRec.cold).setAjar u none).forgetWhere fun i => s.units[u].kind = .roomLock i := by
  have unbound (i : Slot) : UnitRec.cold.kind ≠ .roomLock i := UnitKind.noConfusion
  simp only [State.replaceUnit, unbound, or_false]

/-- REMOVE UNIT carried out: its updates touch different fields, so their order does not matter. -/
theorem State.removedUnit_eq (s : State) (u : UnitId) :
    ((s.setAjar u none).forgetPrivacy s.units[u].kind).setUnit u UnitRec.cold = s.replaceUnit u UnitRec.cold := by
  rw [State.replaceUnit_cold, State.forgetPrivacy_eq]
  rfl

/-! ## The bytes sent during a transaction -/

section
variable (s : State) (p : Port) (n : Nat)

@[simp] theorem State.sendZeros_grants : (s.sendZeros p n).grants = s.grants := by simp [State.sendZeros]
@[simp] theorem State.sendZeros_bus (line : Bus) : (s.sendZeros p n).bus line = s.bus line := by simp [State.sendZeros]

@[simp] theorem State.setUnit_sendZeros (u : UnitId) (r : UnitRec) :
    (s.sendZeros p n).setUnit u r = (s.setUnit u r).sendZeros p n := by cases p <;> rfl
@[simp] theorem State.setBus_sendZeros (line : Bus) (c : BusState) :
    (s.sendZeros p n).setBus line c = (s.setBus line c).sendZeros p n := by cases p <;> cases line <;> rfl
@[simp] theorem State.setAjar_sendZeros (u : UnitId) (timer : Option AjarTimer) :
    (s.sendZeros p n).setAjar u timer = (s.setAjar u timer).sendZeros p n := by cases p <;> rfl
@[simp] theorem State.setRooms_sendZeros (rooms : Vector Room 128) :
    (s.sendZeros p n).setRooms rooms = (s.setRooms rooms).sendZeros p n := by cases p <;> rfl
@[simp] theorem State.forgetWhere_sendZeros (lost : Slot → Prop) [DecidablePred lost] :
    (s.sendZeros p n).forgetWhere lost = (s.forgetWhere lost).sendZeros p n := by
  simp only [State.forgetWhere, State.sendZeros_rooms, State.setRooms_sendZeros]
@[simp] theorem State.replaceUnit_sendZeros (u : UnitId) (r : UnitRec) :
    (s.sendZeros p n).replaceUnit u r = (s.replaceUnit u r).sendZeros p n := by
  simp only [State.replaceUnit, State.sendZeros_units, State.setUnit_sendZeros, State.setAjar_sendZeros,
    State.forgetWhere_sendZeros]

@[simp] theorem State.sendZeros_unitBusy (u : UnitId) : (s.sendZeros p n).unitBusy u = s.unitBusy u := by simp [State.unitBusy]
@[simp] theorem State.sendZeros_slotUnused (kind : UnitKind) : (s.sendZeros p n).slotUnused kind = s.slotUnused kind := by
  simp [State.slotUnused]
@[simp] theorem State.sendZeros_boundElsewhere (u : UnitId) (kind : UnitKind) :
    (s.sendZeros p n).boundElsewhere u kind = s.boundElsewhere u kind := by simp [State.boundElsewhere]

end

/-! ## What the checks test (R72, R74) -/

/-- R72 and R74: the unit holds a pending grant or an open session. -/
theorem State.unitBusy_iff (s : State) (u : UnitId) :
    s.unitBusy u = true ↔ s.grants[u].isSome = true ∨ s.sessions[u].isSome = true := by simp [State.unitBusy]

/-- A unit with neither a pending grant nor an open session is not busy. -/
theorem State.not_unitBusy {s : State} {u : UnitId} (noGrant : s.grants[u] = none) (noSession : s.sessions[u] = none) :
    ¬ s.unitBusy u = true := by simp [State.unitBusy, noGrant, noSession]

/-- R72, step 3: the kind is bound to a slot that is UNUSED. -/
theorem State.slotUnused_iff (s : State) (kind : UnitKind) :
    s.slotUnused kind = true ↔ ∃ i ∈ kind.slot?, s.rooms[i].occupancy = .unused := by
  cases bound : kind.slot? <;> simp [State.slotUnused, bound]

/-- R72, step 4: the kind is bound to a slot, and another unit is of that kind with that slot. -/
theorem State.boundElsewhere_iff (s : State) (u : UnitId) (kind : UnitKind) :
    s.boundElsewhere u kind = true ↔ kind.slot?.isSome = true ∧ ∃ v : UnitId, v ≠ u ∧ s.units[v].kind = kind := by
  simp [State.boundElsewhere, allUnits]

end Sys2Proof.Machine
end

section
/-! CONFIGURE UNIT (R72, R73): the kind it names, its checks in order, and the record it stores. -/

namespace Sys2Proof.Machine

open Sys2Proof

theorem exec_configureUnit (p : Port) (bus address kind cls slot gate : Byte) (s : State) :
    exec (.configureUnit p bus address kind cls slot gate) s
      = .next (s.takeRequest .configureUnit p (configureUnit bus address kind cls slot gate)) := rfl

/-! ## The kind named -/

theorem gateOf?_ofNat (g : Gate) : gateOf? (BitVec.ofNat 8 g.val) = some g := by
  have value : (BitVec.ofNat 8 g.val).toNat = g.val := by simp only [BitVec.toNat_ofNat]; omega
  simp [gateOf?, value, g.isLt]

theorem gateOf?_eq_none {b : Byte} (h : 5 < b.toNat) : gateOf? b = none := by
  simp [gateOf?]; omega

/-- The code of a kind with its binding names that kind; a field the kind does not read may hold any value. -/
theorem kindOf?_code {kind : UnitKind} {slot gate : Byte} (present : kind ≠ .absent) (room : ∀ i ∈ kind.slot?, slot = slotByte i)
    (door : ∀ g ∈ kind.gate?, gate = BitVec.ofNat 8 g.val) : kindOf? (BitVec.ofNat 8 kind.code) slot gate = some kind := by
  cases kind with
  | absent => exact absurd rfl present
  | roomLock i =>
    rw [room i rfl]
    simp [kindOf?, UnitKind.code]
  | passageLock => rfl
  | minibarLock i =>
    rw [room i rfl]
    simp [kindOf?, UnitKind.code]
  | gateReader g =>
    rw [door g rfl]
    simp [kindOf?, UnitKind.code, gateOf?_ofNat]

/-- R72, step 1: a code that names no kind, and a binding out of range where the kind reads it. -/
theorem kindOf?_eq_none {kind slot gate : Byte}
    (bad : kind.toNat = 0 ∨ 4 < kind.toNat ∨ ((kind = 1 ∨ kind = 3) ∧ 127 < slot.toNat) ∨ (kind = 4 ∧ 5 < gate.toNat)) :
    kindOf? kind slot gate = none := by
  rcases bad with noKind | tooHigh | ⟨rfl | rfl, outside⟩ | ⟨rfl, outside⟩
  · simp only [kindOf?, noKind]
  · obtain ⟨n, high⟩ := Nat.exists_eq_add_of_le' tooHigh
    simp only [kindOf?, high]
  · simp [kindOf?, slotOf?_eq_none outside]
  · simp [kindOf?, slotOf?_eq_none outside]
  · simp [kindOf?, gateOf?_eq_none outside]

/-! ## The request -/

theorem configureUnit_badFields {bus address kind cls slot gate : Byte} (s : State)
    (bad : (bus ≠ 1 ∧ bus ≠ 2) ∨ address.toNat = 0 ∨ 120 < address.toNat ∨ kind.toNat = 0 ∨ 4 < kind.toNat ∨ 7 < cls.toNat
      ∨ ((kind = 1 ∨ kind = 3) ∧ 127 < slot.toNat) ∨ (kind = 4 ∧ 5 < gate.toNat)) :
    configureUnit bus address kind cls slot gate s = refuse .badValue s := by
  have oneBad : unitOf? bus address = none ∨ kindOf? kind slot gate = none ∨ indexOf? cls = none := by
    rcases bad with h | h | h | h | h | h | h | h
    · exact .inl (unitOf?_eq_none (.inl h))
    · exact .inl (unitOf?_eq_none (.inr (.inl h)))
    · exact .inl (unitOf?_eq_none (.inr (.inr h)))
    · exact .inr (.inl (kindOf?_eq_none (.inl h)))
    · exact .inr (.inl (kindOf?_eq_none (.inr (.inl h))))
    · exact .inr (.inr (indexOf?_eq_none h))
    · exact .inr (.inl (kindOf?_eq_none (.inr (.inr (.inl h)))))
    · exact .inr (.inl (kindOf?_eq_none (.inr (.inr (.inr h)))))
  unfold configureUnit
  split
  · next unit kind index => simp [unit, kind, index] at oneBad
  · rfl

section
variable {s : State} {u : UnitId} {kind : UnitKind} {ec : Fin 8} {slot gate : Byte} (ready : s.Ready .configureUnit .se)
  (present : kind ≠ .absent) (room : ∀ i ∈ kind.slot?, slot = slotByte i) (door : ∀ g ∈ kind.gate?, gate = BitVec.ofNat 8 g.val)
include ready present room door

/-- A request whose fields name a unit, a kind and a class, by R72 from step 2. -/
theorem takeRequest_configureUnit_named :
    s.takeRequest .configureUnit .se (configureUnit (BitVec.ofNat 8 (busCode (busOf u))) (BitVec.ofNat 8 (addressOf u))
        (BitVec.ofNat 8 kind.code) (BitVec.ofNat 8 ec.val) slot gate)
      = if s.unitBusy u then s.withAnswer .configureUnit .se .wrongState []
        else if s.slotUnused kind then s.withAnswer .configureUnit .se .wrongState []
        else if s.boundElsewhere u kind then s.withAnswer .configureUnit .se .inUse []
        else (s.replaceUnit u (s.units[u].configured kind ec)).withAnswer .configureUnit .se .ok
          (s.units[u].configured kind ec).bytes := by
  have rule (t : State) : configureUnit (BitVec.ofNat 8 (busCode (busOf u))) (BitVec.ofNat 8 (addressOf u))
      (BitVec.ofNat 8 kind.code) (BitVec.ofNat 8 ec.val) slot gate t
      = if t.unitBusy u then refuse .wrongState t else if t.slotUnused kind then refuse .wrongState t
        else if t.boundElsewhere u kind then refuse .inUse t else configureUnitAs u kind ec t := by
    simp only [configureUnit, unitOf?_bytes, kindOf?_code present room door, indexOf?_ofNat]
  split
  · next busy => exact State.takeRequest_refused ready (by rw [rule, State.sendZeros_unitBusy, if_pos busy]; rfl)
  next idle =>
  split
  · next unused => exact State.takeRequest_refused ready (by
      rw [rule, State.sendZeros_unitBusy, if_neg idle, State.sendZeros_slotUnused, if_pos unused]; rfl)
  next used =>
  split
  · next bound => exact State.takeRequest_refused ready (by
      rw [rule, State.sendZeros_unitBusy, if_neg idle, State.sendZeros_slotUnused, if_neg used, State.sendZeros_boundElsewhere,
        if_pos bound]; rfl)
  next free =>
  refine State.takeRequest_carriedOut ready ?_
  rw [rule, State.sendZeros_unitBusy, if_neg idle, State.sendZeros_slotUnused, if_neg used, State.sendZeros_boundElsewhere,
    if_neg free, configureUnitAs_eq, State.replaceUnit_sendZeros, State.sendZeros_units]
  rfl

end

end Sys2Proof.Machine

open Sys2Proof Sys2Proof.Machine

/-- Settles O32: the fields (R72, step 1), then the checks of steps 2 to 4 in their order, and the record replaced (R73). -/
theorem configureUnitStoresTheRecord : Obligations.ConfigureUnitStoresTheRecord := by
  unfold Obligations.ConfigureUnitStoresTheRecord
  simp only [exec_configureUnit, Host.Outcome.next.injEq]
  refine fun s ready => ⟨fun bus address kind cls slot gate bad => ?_, fun u kind ec slot gate present room door => ?_⟩
  · exact State.takeRequest_refused ready (configureUnit_badFields _ bad)
  rw [takeRequest_configureUnit_named ready present room door]
  refine ⟨fun busy => if_pos ((s.unitBusy_iff u).mpr busy), fun noGrant noSession => ?_⟩
  rw [if_neg (State.not_unitBusy noGrant noSession)]
  refine ⟨fun unused => if_pos ((s.slotUnused_iff kind).mpr unused), fun used => ?_⟩
  have notUnused : ¬ s.slotUnused kind = true := by simpa [s.slotUnused_iff] using used
  rw [if_neg notUnused]
  refine ⟨fun bound elsewhere => if_pos ((s.boundElsewhere_iff u kind).mpr ⟨bound, elsewhere⟩), fun free => ?_⟩
  have notElsewhere : ¬ s.boundElsewhere u kind = true := by
    rw [s.boundElsewhere_iff]
    rintro ⟨bound, v, other, same⟩
    exact free.elim (fun unbound => by simp [unbound] at bound) fun noOther => noOther v other same
  exact if_neg notElsewhere

end

section
/-! REMOVE UNIT (R74) and READMIT UNIT (R90), which name a unit alike, and CLEAR BUS COUNTERS (R94). -/

namespace Sys2Proof.Machine

open Sys2Proof

theorem exec_removeUnit (p : Port) (bus address : Byte) (s : State) :
    exec (.removeUnit p bus address) s = .next (s.takeRequest .removeUnit p (removeUnit bus address)) := rfl

theorem exec_readmitUnit (p : Port) (bus address : Byte) (s : State) :
    exec (.readmitUnit p bus address) s = .next (s.takeRequest .readmitUnit p (readmitUnit p bus address)) := rfl

theorem exec_clearBusCounters (p : Port) (bus : Byte) (s : State) :
    exec (.clearBusCounters p bus) s = .next (s.takeRequest .clearBusCounters p (clearBusCounters bus)) := rfl

/-- The permission table and the link treat the two requests alike (R187, R194). -/
theorem State.ready_readmitUnit_iff (s : State) (p : Port) : s.Ready .readmitUnit p ↔ s.Ready .removeUnit p := Iff.rfl

/-! ## REMOVE UNIT -/

theorem removeUnit_badFields {bus address : Byte} (s : State) (noUnit : unitOf? bus address = none) :
    removeUnit bus address s = refuse .badValue s := by simp only [removeUnit, noUnit]

section
variable {s : State} {u : UnitId} (ready : s.Ready .removeUnit .se)
include ready

theorem takeRequest_removeUnit_named :
    s.takeRequest .removeUnit .se (removeUnit (BitVec.ofNat 8 (busCode (busOf u))) (BitVec.ofNat 8 (addressOf u)))
      = if s.units[u].kind = .absent then s.withAnswer .removeUnit .se .notFound []
        else if s.unitBusy u then s.withAnswer .removeUnit .se .wrongState []
        else (s.replaceUnit u UnitRec.cold).withAnswer .removeUnit .se .ok [] := by
  have rule (t : State) : removeUnit (BitVec.ofNat 8 (busCode (busOf u))) (BitVec.ofNat 8 (addressOf u)) t
      = if t.units[u].kind = .absent then refuse .notFound t else if t.unitBusy u then refuse .wrongState t
        else accept (t.replaceUnit u UnitRec.cold) [] := by
    simp only [removeUnit, unitOf?_bytes, State.removedUnit_eq]
  split
  · next absent => exact State.takeRequest_refused ready (by rw [rule, State.sendZeros_units, if_pos absent]; rfl)
  next present =>
  split
  · next busy => exact State.takeRequest_refused ready (by
      rw [rule, State.sendZeros_units, if_neg present, State.sendZeros_unitBusy, if_pos busy]; rfl)
  next idle =>
  refine State.takeRequest_carriedOut ready ?_
  rw [rule, State.sendZeros_units, if_neg present, State.sendZeros_unitBusy, if_neg idle, State.replaceUnit_sendZeros]
  rfl

end

/-! ## READMIT UNIT -/

theorem readmitUnit_badFields {bus address : Byte} (p : Port) (s : State) (noUnit : unitOf? bus address = none) :
    readmitUnit p bus address s = refuse .badValue s := by simp only [readmitUnit, noUnit]

section
variable {s : State} {u : UnitId} {p : Port} (ready : s.Ready .readmitUnit p)
include ready

theorem takeRequest_readmitUnit_absent (absent : s.units[u].kind = .absent) :
    s.takeRequest .readmitUnit p (readmitUnit p (BitVec.ofNat 8 (busCode (busOf u))) (BitVec.ofNat 8 (addressOf u)))
      = s.withAnswer .readmitUnit p .notFound [] :=
  State.takeRequest_refused ready (by simp only [readmitUnit, unitOf?_bytes, State.sendZeros_units, if_pos absent, refuse])

variable (present : s.units[u].kind ≠ .absent)
include present

theorem takeRequest_readmitUnit_quarantined (quarantined : s.units[u].quarantined = true) :
    s.takeRequest .readmitUnit p (readmitUnit p (BitVec.ofNat 8 (busCode (busOf u))) (BitVec.ofNat 8 (addressOf u)))
      = ((s.setUnit u { s.units[u] with quarantined := false }).append (.port p) none none (.readmit u)).withAnswer
        .readmitUnit p .ok [] := by
  refine State.takeRequest_carriedOut ready ?_
  simp only [readmitUnit, unitOf?_bytes, State.sendZeros_units, if_neg present, if_pos quarantined, State.setUnit_sendZeros,
    State.append_sendZeros, accept]

/-- A unit that is not quarantined is left as it is, and nothing is logged. -/
theorem takeRequest_readmitUnit_admitted (admitted : s.units[u].quarantined = false) :
    s.takeRequest .readmitUnit p (readmitUnit p (BitVec.ofNat 8 (busCode (busOf u))) (BitVec.ofNat 8 (addressOf u)))
      = s.withAnswer .readmitUnit p .ok [] := by
  refine State.takeRequest_carriedOut ready ?_
  simp only [readmitUnit, unitOf?_bytes, State.sendZeros_units, if_neg present, admitted, Bool.false_eq_true, if_false, accept]

end

/-! ## CLEAR BUS COUNTERS -/

@[simp] theorem busOf?_code (line : Bus) : busOf? (BitVec.ofNat 8 (busCode line)) = some line := by cases line <;> rfl

theorem busOf?_eq_none {bus : Byte} (notA : bus ≠ 1) (notB : bus ≠ 2) : busOf? bus = none := by
  rw [busOf?, if_neg notA, if_neg notB]

section
variable {s : State} {p : Port} (ready : s.Ready .clearBusCounters p)
include ready

theorem takeRequest_clearBusCounters_badBus {bus : Byte} (notA : bus ≠ 1) (notB : bus ≠ 2) :
    s.takeRequest .clearBusCounters p (clearBusCounters bus) = s.withAnswer .clearBusCounters p .badValue [] :=
  State.takeRequest_refused ready (by simp only [clearBusCounters, busOf?_eq_none notA notB, refuse])

/-- The counts are answered as they stood before they are cleared. -/
theorem takeRequest_clearBusCounters_clears (line : Bus) :
    s.takeRequest .clearBusCounters p (clearBusCounters (BitVec.ofNat 8 (busCode line)))
      = (s.setBus line (s.bus line).clearCounts).withAnswer .clearBusCounters p .ok (s.bus line).counts := by
  refine State.takeRequest_carriedOut ready ?_
  simp only [clearBusCounters, busOf?_code, State.sendZeros_bus, State.setBus_sendZeros, accept]

end

end Sys2Proof.Machine

open Sys2Proof Sys2Proof.Machine

/-- Settles O33: the unit named (R74, R90) or the bus (R94), and then each request's own checks in their order. -/
theorem unitsAreRemovedAndReadmitted : Obligations.UnitsAreRemovedAndReadmitted := by
  unfold Obligations.UnitsAreRemovedAndReadmitted
  simp only [exec_removeUnit, exec_readmitUnit, exec_clearBusCounters, Host.Outcome.next.injEq]
  refine fun s => ⟨fun ready => ⟨fun bus address bad => ?_, fun u => ?_⟩, fun ready => ⟨fun bus notA notB => ?_, fun line => ?_⟩⟩
  · have noUnit := unitOf?_eq_none bad
    exact ⟨State.takeRequest_refused ready (removeUnit_badFields _ noUnit),
      State.takeRequest_refused ((s.ready_readmitUnit_iff .se).mpr ready) (readmitUnit_badFields .se _ noUnit)⟩
  · have readyReadmit := (s.ready_readmitUnit_iff .se).mpr ready
    rw [takeRequest_removeUnit_named ready]
    refine ⟨fun absent => ⟨if_pos absent, takeRequest_readmitUnit_absent readyReadmit absent⟩, fun present => ?_⟩
    rw [if_neg present]
    refine ⟨fun busy => if_pos ((s.unitBusy_iff u).mpr busy), fun noGrant noSession => ?_,
      takeRequest_readmitUnit_quarantined readyReadmit present, takeRequest_readmitUnit_admitted readyReadmit present⟩
    rw [if_neg (State.not_unitBusy noGrant noSession), State.replaceUnit_cold]
    rfl
  · exact takeRequest_clearBusCounters_badBus ready notA notB
  · exact takeRequest_clearBusCounters_clears ready line

end

section
/-! The sixteen conditions (R109): what they read of the unit's room, and when each of them holds. -/

namespace Sys2Proof.Machine

open Sys2Proof

/-! ## The room tests of a room record -/

@[simp] theorem Room.view_notPrivate (r : Room) : r.view.notPrivate = decide (r.privacy = .off) := by
  unfold Room.view; cases r.occupancy <;> rfl

@[simp] theorem Room.view_isLet_iff (r : Room) : r.view.isLet = true ↔ ∃ n st, r.occupancy = .letTo n st := by
  unfold Room.view; cases r.occupancy <;> simp

@[simp] theorem Room.view_isVacant_iff (r : Room) : r.view.isVacant = true ↔ ∃ n, r.occupancy = .vacant n := by
  unfold Room.view; cases r.occupancy <;> simp

@[simp] theorem Room.view_isHeld_iff (r : Room) : r.view.isHeld = true ↔ ∃ n, r.occupancy = .held n := by
  unfold Room.view; cases r.occupancy <;> simp

/-! ## The room tests at a unit -/

section
variable {s : State} {u : UnitId}

theorem State.roomView_of_room {i : Slot} (room : s.unitSlot u = some i) : s.roomView u = s.rooms[i].view := by
  rw [State.roomView, room]

/-- The fixed values of R109. -/
theorem State.roomView_of_no_room (noRoom : s.unitSlot u = none) :
    s.roomView u = { notPrivate := true, isLet := false, isVacant := false, isHeld := false } := by
  rw [State.roomView, noRoom]

end

section
variable (s : State) (u : UnitId)

/-- Privacy UNKNOWN counts as ON; with no room the test is met. -/
theorem State.roomView_notPrivate_iff :
    (s.roomView u).notPrivate = true ↔ ∀ i ∈ s.unitSlot u, s.rooms[i].privacy = .off := by
  cases room : s.unitSlot u with
  | none => simp [State.roomView_of_no_room room]
  | some i => simp [State.roomView_of_room room]

theorem State.roomView_isLet_iff :
    (s.roomView u).isLet = true ↔ ∃ i ∈ s.unitSlot u, ∃ n st, s.rooms[i].occupancy = .letTo n st := by
  cases room : s.unitSlot u with
  | none => simp [State.roomView_of_no_room room]
  | some i => simp [State.roomView_of_room room]

theorem State.roomView_isVacant_iff :
    (s.roomView u).isVacant = true ↔ ∃ i ∈ s.unitSlot u, ∃ n, s.rooms[i].occupancy = .vacant n := by
  cases room : s.unitSlot u with
  | none => simp [State.roomView_of_no_room room]
  | some i => simp [State.roomView_of_room room]

theorem State.roomView_isHeld_iff :
    (s.roomView u).isHeld = true ↔ ∃ i ∈ s.unitSlot u, ∃ n, s.rooms[i].occupancy = .held n := by
  cases room : s.unitSlot u with
  | none => simp [State.roomView_of_no_room room]
  | some i => simp [State.roomView_of_room room]

end

/-! ## The table of R109, from what a condition tests -/

section
variable (v : RoomView) (mode : WingMode) (onShift exposed : Bool)

theorem Condition.always_holds : Condition.always.holds v mode onShift exposed = true := rfl

theorem Condition.never_holds : Condition.never.holds v mode onShift exposed = false := rfl

theorem Condition.notPrivate_holds : Condition.notPrivate.holds v mode onShift exposed = v.notPrivate := rfl

theorem Condition.roomLet_holds : Condition.roomLet.holds v mode onShift exposed = v.isLet := rfl

theorem Condition.roomVacant_holds : Condition.roomVacant.holds v mode onShift exposed = v.isVacant := rfl

theorem Condition.roomNotHeld_holds_iff :
    Condition.roomNotHeld.holds v mode onShift exposed = true ↔ ¬v.isHeld = true := by
  rw [Condition.holds, Bool.not_eq_true', Bool.not_eq_true]

theorem Condition.onShiftNotPrivate_holds_iff :
    Condition.onShiftNotPrivate.holds v mode onShift exposed = true ↔ onShift = true ∧ v.notPrivate = true :=
  Bool.and_eq_true_iff

theorem Condition.modeNormal_holds_iff :
    Condition.modeNormal.holds v mode onShift exposed = true ↔ mode = .normal :=
  decide_eq_true_iff

theorem Condition.notLockdown_holds_iff :
    Condition.notLockdown.holds v mode onShift exposed = true ↔ mode = .normal ∨ mode = .storm :=
  decide_eq_true_iff

theorem Condition.letNotPrivate_holds_iff :
    Condition.letNotPrivate.holds v mode onShift exposed = true ↔ v.isLet = true ∧ v.notPrivate = true :=
  Bool.and_eq_true_iff

theorem Condition.vacantOrHeld_holds_iff :
    Condition.vacantOrHeld.holds v mode onShift exposed = true ↔ v.isVacant = true ∨ v.isHeld = true :=
  Bool.or_eq_true_iff

theorem Condition.onShiftNotLockdown_holds_iff :
    Condition.onShiftNotLockdown.holds v mode onShift exposed = true ↔ onShift = true ∧ (mode = .normal ∨ mode = .storm) := by
  rw [Condition.holds, Bool.and_eq_true_iff, decide_eq_true_iff]

/-- The one condition that reads the exposure, and in STORM only. -/
theorem Condition.notExposedClosed_holds_iff :
    Condition.notExposedClosed.holds v mode onShift exposed = true
      ↔ mode ≠ .lockdown ∧ ¬(mode = .storm ∧ exposed = true) := by
  rw [Condition.holds, Bool.and_eq_true_iff, decide_eq_true_iff, Bool.not_eq_true', ← Bool.not_eq_true,
    Bool.and_eq_true_iff, decide_eq_true_iff]

theorem Condition.notPrivateNotLockdown_holds_iff :
    Condition.notPrivateNotLockdown.holds v mode onShift exposed = true
      ↔ v.notPrivate = true ∧ (mode = .normal ∨ mode = .storm) := by
  rw [Condition.holds, Bool.and_eq_true_iff, decide_eq_true_iff]

theorem Condition.onShiftVacantOrHeld_holds_iff :
    Condition.onShiftVacantOrHeld.holds v mode onShift exposed = true
      ↔ onShift = true ∧ (v.isVacant = true ∨ v.isHeld = true) := by
  rw [Condition.holds, Bool.and_eq_true_iff, Bool.or_eq_true_iff]

end

end Sys2Proof.Machine

open Sys2Proof Sys2Proof.Machine

/-- Settles O38: each row by the condition in the cell and its line of R109's table, the room tests read at the unit's room or
fixed where it has none. -/
theorem conditionsTestRoomModeAndShift : Obligations.ConditionsTestRoomModeAndShift := by
  intro s u k
  refine ⟨rfl, fun always => ?_, fun never => ?_, fun notPrivate => ?_, fun roomLet => ?_, fun roomVacant => ?_,
    fun roomNotHeld => ?_, fun onShift => ?_, fun onShiftNotPrivate => ?_, fun modeNormal => ?_, fun notLockdown => ?_,
    fun letNotPrivate => ?_, fun vacantOrHeld => ?_, fun onShiftNotLockdown => ?_, fun notExposedClosed => ?_,
    fun notPrivateNotLockdown => ?_, fun onShiftVacantOrHeld => ?_⟩
  · rw [s.conditionHolds_of_cell always, Condition.always_holds]
  · rw [s.conditionHolds_of_cell never, Condition.never_holds]
  · rw [s.conditionHolds_of_cell notPrivate, Condition.notPrivate_holds, s.roomView_notPrivate_iff]
  · rw [s.conditionHolds_of_cell roomLet, Condition.roomLet_holds, s.roomView_isLet_iff]
  · rw [s.conditionHolds_of_cell roomVacant, Condition.roomVacant_holds, s.roomView_isVacant_iff]
  · rw [s.conditionHolds_of_cell roomNotHeld, Condition.roomNotHeld_holds_iff, s.roomView_isHeld_iff]
  · rw [s.conditionHolds_of_cell onShift, Condition.onShift_holds]
  · rw [s.conditionHolds_of_cell onShiftNotPrivate, Condition.onShiftNotPrivate_holds_iff, s.roomView_notPrivate_iff]
  · rw [s.conditionHolds_of_cell modeNormal, Condition.modeNormal_holds_iff]
  · rw [s.conditionHolds_of_cell notLockdown, Condition.notLockdown_holds_iff]
  · rw [s.conditionHolds_of_cell letNotPrivate, Condition.letNotPrivate_holds_iff, s.roomView_isLet_iff,
      s.roomView_notPrivate_iff]
  · rw [s.conditionHolds_of_cell vacantOrHeld, Condition.vacantOrHeld_holds_iff, s.roomView_isVacant_iff,
      s.roomView_isHeld_iff]
  · rw [s.conditionHolds_of_cell onShiftNotLockdown, Condition.onShiftNotLockdown_holds_iff]
  · rw [s.conditionHolds_of_cell notExposedClosed, Condition.notExposedClosed_holds_iff]
  · rw [s.conditionHolds_of_cell notPrivateNotLockdown, Condition.notPrivateNotLockdown_holds_iff, s.roomView_notPrivate_iff]
  · rw [s.conditionHolds_of_cell onShiftVacantOrHeld, Condition.onShiftVacantOrHeld_holds_iff, s.roomView_isVacant_iff,
      s.roomView_isHeld_iff]

end

section
/-! Charges and credits (R139, R140): what each does to an account, case by case, and that both keep it balanced (R128). -/

namespace Sys2Proof.Machine

open Sys2Proof

/-! ## A charge -/

section
variable (a : Account)

@[simp] theorem Account.applyCharge_zero : a.applyCharge 0 = a := if_pos rfl

theorem Account.applyCharge_within {x : Nat} (pos : 0 < x) (within : x ≤ a.remaining) :
    a.applyCharge x = { a with
      charge := min 16777215 (a.charge + x)
      ceilingMet := a.ceilingMet || decide (16777215 < a.charge + x)
      remaining := a.remaining - x } := by
  rw [Account.applyCharge, if_neg pos.ne']
  exact if_pos within

theorem Account.applyCharge_beyond {x : Nat} (beyond : a.remaining < x) :
    a.applyCharge x = { a with
      charge := min 16777215 (a.charge + x)
      ceilingMet := a.ceilingMet || decide (16777215 < a.charge + x)
      remaining := 0
      overdraft := min 16777215 (a.overdraft + (x - a.remaining)) } := by
  rw [Account.applyCharge, if_neg (Nat.zero_lt_of_lt beyond).ne']
  exact if_neg beyond.not_ge

/-- A charge is of 0 units, within the remaining allowance, or beyond it. -/
theorem Account.charge_cases (x : Nat) : x = 0 ∨ (0 < x ∧ x ≤ a.remaining) ∨ a.remaining < x := by omega

theorem Account.applyCharge_frame (x : Nat) :
    (a.applyCharge x).granted = a.granted ∧ (a.applyCharge x).tally = a.tally ∧ (a.applyCharge x).blocked = a.blocked := by
  obtain rfl | ⟨pos, within⟩ | beyond := a.charge_cases x
  · rw [a.applyCharge_zero]; exact ⟨rfl, rfl, rfl⟩
  · rw [a.applyCharge_within pos within]; exact ⟨rfl, rfl, rfl⟩
  · rw [a.applyCharge_beyond beyond]; exact ⟨rfl, rfl, rfl⟩

@[simp] theorem Account.applyCharge_tally (x : Nat) : (a.applyCharge x).tally = a.tally := by
  obtain ⟨-, tally, -⟩ := a.applyCharge_frame x
  exact tally

/-- The charge total and CHARGE_CEILING rise alike, whether or not the allowance covers the charge. -/
theorem Account.applyCharge_total {x : Nat} (pos : 0 < x) :
    (a.applyCharge x).charge = min 16777215 (a.charge + x)
    ∧ ((a.applyCharge x).ceilingMet = true ↔ a.ceilingMet = true ∨ 16777215 < a.charge + x) := by
  obtain within | beyond := le_or_gt x a.remaining
  · simp [a.applyCharge_within pos within]
  · simp [a.applyCharge_beyond beyond]

/-- CHARGE_CEILING is clear after a charge only where it was clear and the charge total did not pass the ceiling. -/
theorem Account.applyCharge_clear {x : Nat} (pos : 0 < x) (clear : (a.applyCharge x).ceilingMet = false) :
    a.ceilingMet = false ∧ a.charge + x ≤ 16777215 := by
  obtain ⟨-, ceilingMet⟩ := a.applyCharge_total pos
  simpa [clear] using ceilingMet

/-! ## A credit -/

theorem Account.applyCredit_within {y : Nat} (within : min y a.charge ≤ a.overdraft) :
    a.applyCredit y = { a with charge := a.charge - min y a.charge, overdraft := a.overdraft - min y a.charge } :=
  if_pos within

theorem Account.applyCredit_beyond {y : Nat} (beyond : a.overdraft < min y a.charge) :
    a.applyCredit y = { a with
      charge := a.charge - min y a.charge
      remaining := min a.granted (a.remaining + (min y a.charge - a.overdraft))
      overdraft := 0 } :=
  if_neg beyond.not_ge

@[simp] theorem Account.applyCredit_zero : a.applyCredit 0 = a := by
  rw [a.applyCredit_within (by omega), Nat.zero_min]; rfl

theorem Account.applyCredit_frame (y : Nat) :
    (a.applyCredit y).charge = a.charge - min y a.charge ∧ (a.applyCredit y).granted = a.granted
    ∧ (a.applyCredit y).tally = a.tally ∧ (a.applyCredit y).blocked = a.blocked
    ∧ (a.applyCredit y).ceilingMet = a.ceilingMet := by
  obtain within | beyond := le_or_gt (min y a.charge) a.overdraft
  · rw [a.applyCredit_within within]; exact ⟨rfl, rfl, rfl, rfl, rfl⟩
  · rw [a.applyCredit_beyond beyond]; exact ⟨rfl, rfl, rfl, rfl, rfl⟩

@[simp] theorem Account.applyCredit_tally (y : Nat) : (a.applyCredit y).tally = a.tally := by
  obtain ⟨-, -, tally, -⟩ := a.applyCredit_frame y
  exact tally

end

/-! ## The balance of R128 -/

section
variable {a : Account} (balanced : a.Balanced)
include balanced

/-- A charge below the ceiling is taken from the allowance and added to the overdraft in all; one that meets it sets
CHARGE_CEILING, and the overdraft stays within the charge total by the ceiling they share. -/
theorem Account.Balanced.applyCharge (x : Nat) : (a.applyCharge x).Balanced := by
  obtain rfl | pos := x.eq_zero_or_pos
  · rwa [a.applyCharge_zero]
  obtain ⟨grantedLe, remainingLe, overdraftLe, chargeLe, tallyLe, balance⟩ := balanced
  have clearBalance (clear : (a.applyCharge x).ceilingMet = false) :
      a.remaining + a.charge = a.granted + a.overdraft ∧ a.charge + x ≤ 16777215 := by
    obtain ⟨wasClear, below⟩ := a.applyCharge_clear pos clear
    exact ⟨balance wasClear, below⟩
  obtain within | beyond := le_or_gt x a.remaining
  · rw [a.applyCharge_within pos within] at clearBalance ⊢
    refine ⟨grantedLe, by dsimp only; omega, by dsimp only; omega, by dsimp only; omega, tallyLe, fun clear => ?_⟩
    obtain ⟨equality, below⟩ := clearBalance clear
    dsimp only; omega
  · rw [a.applyCharge_beyond beyond] at clearBalance ⊢
    refine ⟨grantedLe, Nat.zero_le _, by dsimp only; omega, by dsimp only; omega, tallyLe, fun clear => ?_⟩
    obtain ⟨equality, below⟩ := clearBalance clear
    dsimp only; omega

/-- While CHARGE_CEILING is clear the limit to the granted allowance does not bite. -/
theorem Account.Balanced.applyCredit (y : Nat) : (a.applyCredit y).Balanced := by
  obtain ⟨grantedLe, remainingLe, overdraftLe, chargeLe, tallyLe, balance⟩ := balanced
  obtain within | beyond := le_or_gt (min y a.charge) a.overdraft
  · rw [a.applyCredit_within within]
    refine ⟨grantedLe, remainingLe, by dsimp only; omega, by dsimp only; omega, tallyLe, fun clear => ?_⟩
    have := balance clear
    dsimp only; omega
  · rw [a.applyCredit_beyond beyond]
    refine ⟨grantedLe, Nat.min_le_left .., Nat.zero_le _, by dsimp only; omega, tallyLe, fun clear => ?_⟩
    have := balance clear
    dsimp only; omega

end

end Sys2Proof.Machine

open Sys2Proof Sys2Proof.Machine

/-- Settles O42: a charge within the remaining allowance or beyond it, a credit within the overdraft or beyond it, and the balance
kept in each case. -/
theorem chargesAndCreditsKeepTheBalance : Obligations.ChargesAndCreditsKeepTheBalance := by
  intro a x
  obtain ⟨granted, tally, blocked⟩ := a.applyCharge_frame x
  obtain ⟨creditCharge, creditGranted, creditTally, creditBlocked, creditCeiling⟩ := a.applyCredit_frame x
  refine ⟨?_, fun pos => ?_, creditCharge, fun within => ?_, fun beyond => ?_, creditGranted, creditTally, creditBlocked,
    creditCeiling, fun balanced => ⟨balanced.applyCharge x, balanced.applyCredit x⟩⟩
  · rintro rfl; exact a.applyCharge_zero
  · obtain ⟨charge, ceilingMet⟩ := a.applyCharge_total pos
    refine ⟨charge, ceilingMet, fun within => ?_, fun beyond => ?_, granted, tally, blocked⟩
    · rw [a.applyCharge_within pos within]; exact ⟨rfl, rfl⟩
    · rw [a.applyCharge_beyond beyond]; exact ⟨rfl, rfl⟩
  · rw [a.applyCredit_within within]; exact ⟨rfl, rfl⟩
  · rw [a.applyCredit_beyond beyond]; exact ⟨rfl, rfl⟩

end

section
/-! An ITEMS report (R141 to R144): the account after its charge and after its credit, and the report within a GUEST session,
within a RESTOCK session and with no session. -/

namespace Sys2Proof.Machine

open Sys2Proof

/-! ## The account after the charge and after the credit of a report -/

/-- Step 1 of R141 and of R143 at the account: the charge, and the tally count raised. -/
def Account.removeItems (a : Account) (price : Nat) (item : Fin 12) (removed : Nat) : Account :=
  { a.applyCharge (price * removed) with tally := a.tally.set item (itemsUp a.tally[item] removed) }

/-- Step 2 of R141 at the account: the credit, and the tally count lowered. -/
def Account.returnItems (a : Account) (price : Nat) (item : Fin 12) (credited : Nat) : Account :=
  { a.applyCredit (price * credited) with tally := a.tally.set item (a.tally[item] - credited) }

theorem itemsUp_zero (n : Nat) : itemsUp n 0 = n := if_pos rfl

theorem Account.removeItems_zero (a : Account) (price : Nat) (item : Fin 12) : a.removeItems price item 0 = a := by
  simp [Account.removeItems, itemsUp_zero]

theorem Account.returnItems_zero (a : Account) (price : Nat) (item : Fin 12) : a.returnItems price item 0 = a := by
  simp [Account.returnItems]

/-- R144: the event follows where the overdraft stood at 0 and the charge made it more. -/
theorem State.raiseOverdraft_arose (s : State) (i : Slot) (before after : Account) :
    s.raiseOverdraft i (overdraftArose before after)
      = if before.overdraft = 0 ∧ 0 < after.overdraft then s.raise .fo (.minibarOverdraft i) else s := by
  simp only [State.raiseOverdraft, overdraftArose, decide_eq_true_eq]

/-! ## Which rule a report falls to -/

section
variable {s : State} {u : UnitId} {i : Slot} {item : Fin 12} {removed returned : Nat}

theorem State.report_items (lock : s.units[u].kind = .minibarLock i) :
    s.report u (.items item removed returned) = s.reportItems u i item removed returned := by
  simp only [State.report, lock]

theorem State.reportItems_noSession (noSession : s.sessions[u] = none) :
    s.reportItems u i item removed returned = s.looseItems u i item removed returned := by
  simp only [State.reportItems, noSession]

variable {x : Session} (session : s.sessions[u] = some x)
include session

theorem State.reportItems_guest (guest : x.kind = .guest) :
    s.reportItems u i item removed returned = s.guestItems u x item removed returned := by
  simp only [State.reportItems, session, guest]

theorem State.reportItems_restock (restock : x.kind = .restock) :
    s.reportItems u i item removed returned = s.restockItems u x item removed returned := by
  simp only [State.reportItems, session, restock]

end

/-! ## A report that counts nothing -/

section
variable (s : State) (u : UnitId) (item : Fin 12)

theorem State.looseItems_nothing (i : Slot) : s.looseItems u i item 0 0 = s := if_neg (by decide)

theorem State.restockItems_nothing (x : Session) : s.restockItems u x item 0 0 = s := if_neg (by decide)

theorem State.setAccount_self (i : Slot) : s.setAccount i s.accounts[i] = s := by
  simp [State.setAccount]

theorem State.setSession_self {x : Option Session} (session : s.sessions[u] = x) : s.setSession u x = s := by
  subst session; simp [State.setSession]

end

/-! ## A report that counts something -/

section
variable (s : State) (u : UnitId) (item : Fin 12) (removed returned : Nat)

/-- R141 with the account after steps 1 and 2 named. -/
theorem State.guestItems_eq (x : Session) :
    let price := s.prices[item]
    let seen := itemsUp x.removed[item] removed
    let credited := min returned seen
    let charged := s.accounts[x.slot].removeItems price item removed
    let t := (s.setAccount x.slot (charged.returnItems price item credited)).setSession u
      (some { x with removed := x.removed.set item (seen - credited) })
    let t := if 0 < removed ∨ 0 < returned then
        t.append (.unit u) (some x.card) (some x.slot)
          (.minibarItem item removed returned credited (price * removed) (min (price * credited) charged.charge) true)
      else t
    let t := if credited < returned then
        t.append (.unit u) (some x.card) (some x.slot) (.returnUncredited item (returned - credited))
      else t
    s.guestItems u x item removed returned = t.raiseOverdraft x.slot (overdraftArose s.accounts[x.slot] charged) := by
  simp only [State.guestItems, Account.removeItems, Account.returnItems, Account.creditLimit, Account.applyCharge_tally,
    Account.applyCredit_tally]

/-- R143 with the account after step 1 named. -/
theorem State.looseItems_eq (i : Slot) (counts : 0 < removed ∨ 0 < returned) :
    let charged := s.accounts[i].removeItems s.prices[item] item removed
    let t := (s.setAccount i charged).append (.unit u) none (some i)
      (.minibarItem item removed returned 0 (s.prices[item] * removed) 0 false)
    let t := if 0 < returned then t.append (.unit u) none (some i) (.returnUncredited item returned) else t
    s.looseItems u i item removed returned
      = (t.raise .se (.minibarTamper u)).raiseOverdraft i (overdraftArose s.accounts[i] charged) := by
  simp only [State.looseItems, if_pos counts, Account.removeItems, Account.applyCharge_tally]

theorem State.restockItems_eq (x : Session) (counts : 0 < removed ∨ 0 < returned) :
    s.restockItems u x item removed returned
      = s.append (.unit u) (some x.card) (some x.slot) (.restock item removed returned) := if_pos counts

end

/-- Within a GUEST session, too, a report that counts nothing writes back what stood there. -/
theorem State.guestItems_nothing {s : State} {u : UnitId} {x : Session} (session : s.sessions[u] = some x) (item : Fin 12) :
    s.guestItems u x item 0 0 = s := by
  have unseen : x.removed.set item (x.removed[item] - 0) = x.removed := by simp
  have noCause (a : Account) : overdraftArose a a = false := by simp [overdraftArose]
  have written : (s.setAccount x.slot s.accounts[x.slot]).setSession u (some x) = s := by
    rw [s.setAccount_self, s.setSession_self u session]
  simp only [State.guestItems_eq, itemsUp_zero, Nat.zero_min, Account.removeItems_zero, Account.returnItems_zero, unseen, written,
    noCause, lt_irrefl, or_self, if_false]
  exact if_neg Bool.false_ne_true

/-- A report that counts nothing changes nothing, whatever the session. -/
theorem State.reportItems_nothing (s : State) (u : UnitId) (i : Slot) (item : Fin 12) : s.reportItems u i item 0 0 = s := by
  cases session : s.sessions[u] with
  | none => rw [State.reportItems_noSession session, s.looseItems_nothing]
  | some x =>
    cases kind : x.kind with
    | guest => rw [State.reportItems_guest session kind, State.guestItems_nothing session]
    | restock => rw [State.reportItems_restock session kind, s.restockItems_nothing]

end Sys2Proof.Machine

open Sys2Proof Sys2Proof.Machine

/-- Settles O43: the report falls to the rule of the unit's session, and each rule's equation with the event of R144 written out. -/
theorem itemReportsChargeTheRoom : Obligations.ItemReportsChargeTheRoom := by
  unfold Obligations.ItemReportsChargeTheRoom
  intro s u i item removed returned lock
  simp only [State.report_items lock]
  refine ⟨?_, fun counts => ⟨fun noSession => ?_, fun x session => ⟨fun restock => ?_, fun guest => ?_⟩⟩⟩
  · rintro rfl rfl
    exact s.reportItems_nothing u i item
  · rw [State.reportItems_noSession noSession, s.looseItems_eq u item removed returned i counts, State.raiseOverdraft_arose]
    rfl
  · rw [State.reportItems_restock session restock, s.restockItems_eq u item removed returned x counts]
  · rw [State.reportItems_guest session guest, s.guestItems_eq, State.raiseOverdraft_arose, if_pos counts]
    simp only [Account.applyCredit_tally]
    rfl

end

section
/-! The scheduled level of a gate (R152) by the last entry of the schedule that names it, and the table of the output function
(R156). -/

namespace Sys2Proof.Machine

open Sys2Proof

/-! ## The scheduled level (R152) -/

/-- The last element that passes a filter is the one after which none passes. -/
theorem getLast?_filter_of_last {α : Type} {test : α → Bool} {e : α} (before : List α) {after : List α}
    (passes : test e = true) (last : ∀ x ∈ after, test x = false) :
    ((before ++ e :: after).filter test).getLast? = some e := by
  have noneAfter : after.filter test = [] := List.filter_eq_nil_iff.mpr fun x hx => by simp [last x hx]
  rw [List.filter_append, List.filter_cons_of_pos passes, noneAfter, List.getLast?_concat]

/-- Whether an entry gives the level of a gate at a minute: it names the gate, and its minute is not later. -/
def ScheduleEntry.gives (e : ScheduleEntry) (minute : Nat) (g : Gate) : Bool :=
  decide (e.minute ≤ minute) && hasGate e.gates g

/-- R152: the last entry that gives the level, else the last that names the gate at all, else SHUT. -/
theorem scheduledLevel_eq (schedule : List ScheduleEntry) (minute : Nat) (g : Gate) :
    scheduledLevel schedule minute g
      = (((schedule.filter fun e => e.gives minute g).getLast?.or
          (schedule.filter fun e => hasGate e.gates g).getLast?).map ScheduleEntry.level).getD .shut := by
  simp only [scheduledLevel, List.filter_filter, ScheduleEntry.gives]
  cases (schedule.filter fun e => decide (e.minute ≤ minute) && hasGate e.gates g).getLast? with
  | some e => rfl
  | none => cases (schedule.filter fun e => hasGate e.gates g).getLast? <;> rfl

section
variable {e : ScheduleEntry} {minute : Nat} {g : Gate}

theorem ScheduleEntry.not_gives_of_later (later : hasGate e.gates g = true → minute < e.minute) : e.gives minute g = false := by
  cases names : hasGate e.gates g with
  | false => simp [ScheduleEntry.gives, names]
  | true => simpa [ScheduleEntry.gives, names] using later names

variable {before after : List ScheduleEntry} (names : hasGate e.gates g = true)
include names

theorem scheduledLevel_of_last_given (due : e.minute ≤ minute) (last : ∀ x ∈ after, hasGate x.gates g = true → minute < x.minute) :
    scheduledLevel (before ++ e :: after) minute g = e.level := by
  have gives : e.gives minute g = true := by simp [ScheduleEntry.gives, due, names]
  rw [scheduledLevel_eq, getLast?_filter_of_last before gives fun x hx => ScheduleEntry.not_gives_of_later (last x hx)]
  rfl

theorem scheduledLevel_of_last_named (later : ∀ x ∈ before ++ e :: after, hasGate x.gates g = true → minute < x.minute)
    (last : ∀ x ∈ after, hasGate x.gates g = false) : scheduledLevel (before ++ e :: after) minute g = e.level := by
  have noneGives : (before ++ e :: after).filter (fun x => x.gives minute g) = [] :=
    List.filter_eq_nil_iff.mpr fun x hx => by simp [ScheduleEntry.not_gives_of_later (later x hx)]
  rw [scheduledLevel_eq, noneGives, getLast?_filter_of_last before names last]
  rfl

end

theorem scheduledLevel_of_unnamed {schedule : List ScheduleEntry} {minute : Nat} {g : Gate}
    (unnamed : ∀ x ∈ schedule, hasGate x.gates g = false) : scheduledLevel schedule minute g = .shut := by
  have noneNames : schedule.filter (fun x => hasGate x.gates g) = [] :=
    List.filter_eq_nil_iff.mpr fun x hx => by simp [unnamed x hx]
  have noneGives : schedule.filter (fun x => x.gives minute g) = [] :=
    List.filter_eq_nil_iff.mpr fun x hx => by simp [ScheduleEntry.gives, unnamed x hx]
  rw [scheduledLevel_eq, noneNames, noneGives]
  rfl

/-- A working stores the six levels and the minute, and changes the outputs by them (R152). -/
theorem State.workLevels_eq (s : State) :
    let gates : Gates := { s.gates with
      scheduled := Vector.ofFn fun g => scheduledLevel s.gates.schedule s.clock.minute g, lastWorking := s.clock.minute }
    s.workLevels = { s with gates := { gates with outputs := Vector.ofFn fun g => outputLevel gates s.wing.mode g } } := rfl

/-! ## The output function (R156), line by line -/

section
variable {gates : Gates} {mode : WingMode} {g : Gate}

theorem outputLevel_disabled (disabled : hasGate gates.enabled g = false) : outputLevel gates mode g = .shut := by
  rw [outputLevel, disabled]; rfl

variable (enabled : hasGate gates.enabled g = true)
include enabled

theorem outputLevel_evacuation : outputLevel gates .evacuation g = .opened := by
  rw [outputLevel, enabled]; rfl

theorem outputLevel_pulsed (mode : WingMode) (pulsed : gates.pulses[g].isSome = true) : outputLevel gates mode g = .opened := by
  rw [outputLevel, enabled, pulsed]; exact ite_self _

variable (idle : gates.pulses[g] = none)
include idle

theorem outputLevel_lockdown : outputLevel gates .lockdown g = .shut := by
  rw [outputLevel, enabled, idle]; rfl

theorem outputLevel_storm :
    outputLevel gates .storm g = if hasGate gates.exposed g then .shut else gates.scheduled[g] := by
  simp [outputLevel, enabled, idle]

theorem outputLevel_normal : outputLevel gates .normal g = gates.scheduled[g] := by
  simp [outputLevel, enabled, idle]

end

end Sys2Proof.Machine

open Sys2Proof Sys2Proof.Machine

/-- Settles O47: the level by the last entry that gives it, else by the last that names the gate; the working by its definition;
the output function by the lines of R156's table. -/
theorem scheduledLevelsAndOutputs : Obligations.ScheduledLevelsAndOutputs := by
  refine ⟨fun before after e minute g names => ⟨scheduledLevel_of_last_given names, scheduledLevel_of_last_named names⟩,
    fun schedule minute g => scheduledLevel_of_unnamed, State.workLevels_eq, fun gates mode g => ⟨outputLevel_disabled,
      fun enabled => ⟨?_, fun _ => outputLevel_pulsed enabled mode, fun idle => ?_, fun idle => ?_, fun idle => ?_⟩⟩⟩
  · rintro rfl
    exact outputLevel_evacuation enabled
  · rintro rfl
    exact outputLevel_lockdown enabled idle
  · rintro rfl exposed
    rw [outputLevel_storm enabled idle, if_pos exposed]
  · rintro (rfl | ⟨rfl, sheltered⟩)
    · exact outputLevel_normal enabled idle
    · rw [outputLevel_storm enabled idle, sheltered]; rfl

end

section
/-! SET MODE and RESTORE (R159 to R161, R164): a change of mode in the order of its steps, none of which reads the bytes sent
meanwhile (R182), and the checks of both requests. -/

namespace Sys2Proof.Machine

open Sys2Proof

theorem exec_setMode (p : Port) (mode : Byte) (s : State) :
    exec (.setMode p mode) s = .next (s.takeRequest .setMode p (setMode p mode)) := rfl

theorem exec_restore (p : Port) (s : State) : exec (.restore p) s = .next (s.takeRequest .restore p (restore p)) := rfl

/-- The permission table and the link treat the two requests alike (R187, R194). -/
theorem State.ready_restore_iff (s : State) (p : Port) : s.Ready .restore p ↔ s.Ready .setMode p := Iff.rfl

/-! ## The bytes sent during a transaction -/

section
variable (s : State) (p : Port) (n : Nat)

@[simp] theorem State.sendZeros_wing : (s.sendZeros p n).wing = s.wing := by simp [State.sendZeros]

theorem State.enterMode_sendZeros (source : Source) (m : WingMode) :
    (s.sendZeros p n).enterMode source m = (s.enterMode source m).sendZeros p n := by
  simp only [State.enterMode, State.sendZeros_wing, ← State.append_sendZeros]
  cases p <;> rfl

theorem State.concludeGrant_sendZeros (u : UnitId) (detail : Grant → Detail) :
    (s.sendZeros p n).concludeGrant u detail = (s.concludeGrant u detail).sendZeros p n := by
  cases grant : s.grants[u] with
  | none => simp only [State.concludeGrant, State.sendZeros_grants, grant]
  | some g =>
    simp only [State.concludeGrant, State.sendZeros_grants, grant, State.appendUnit, ← State.append_sendZeros]
    cases p <;> rfl

theorem State.cutForLockdown_sendZeros (u : UnitId) :
    (s.sendZeros p n).cutForLockdown u = (s.cutForLockdown u).sendZeros p n := by
  simp only [State.cutForLockdown, State.sendZeros_grants, State.concludeCut, State.concludeGrant_sendZeros,
    State.setRelock_sendZeros]
  split <;> rfl

theorem State.cutAll_sendZeros : (s.sendZeros p n).cutAll = s.cutAll.sendZeros p n :=
  List.foldl_hom (State.sendZeros · p n) fun t u => t.cutForLockdown_sendZeros p n u

theorem State.setOutputs_sendZeros : (s.sendZeros p n).setOutputs = s.setOutputs.sendZeros p n := by cases p <;> rfl

theorem State.workLevels_sendZeros : (s.sendZeros p n).workLevels = s.workLevels.sendZeros p n := by cases p <;> rfl

theorem State.broadcastBoth_sendZeros : (s.sendZeros p n).broadcastBoth = s.broadcastBoth.sendZeros p n := by cases p <;> rfl

theorem State.announceMode_sendZeros (m : WingMode) :
    (s.sendZeros p n).announceMode m = (s.announceMode m).sendZeros p n := by
  simp only [State.announceMode, State.raiseBoth, State.raise_sendZeros, State.broadcastBoth_sendZeros]

theorem State.enterMode_eq (source : Source) (m : WingMode) :
    s.enterMode source m
      = ({ s with wing := { s.wing with mode := m } }).append source none none (.modeChange s.wing.mode m) := rfl

theorem State.announceMode_eq (m : WingMode) :
    let r := (s.raise .fo (.modeChanged m)).raise .se (.modeChanged m)
    s.announceMode m = { r with busA := { r.busA with broadcast := true }, busB := { r.busB with broadcast := true } } := rfl

/-- The steps of R161 with the cut named where the change enters LOCKDOWN. -/
theorem State.changeMode_eq (source : Source) (m : WingMode) :
    s.changeMode source m
      = (if m = .lockdown then (s.enterMode source m).cutAll else s.enterMode source m).setOutputs.announceMode m := rfl

theorem State.changeMode_sendZeros (source : Source) (m : WingMode) :
    (s.sendZeros p n).changeMode source m = (s.changeMode source m).sendZeros p n := by
  simp only [State.changeMode_eq, State.enterMode_sendZeros, State.cutAll_sendZeros]
  split <;> rw [State.setOutputs_sendZeros, State.announceMode_sendZeros]

end

/-! ## SET MODE -/

theorem modeOf?_code {m : WingMode} (asked : m ≠ .evacuation) : modeOf? (BitVec.ofNat 8 m.code) = some m := by
  cases m with
  | evacuation => exact absurd rfl asked
  | _ => rfl

theorem modeOf?_eq_none {b : Byte} (h : 2 < b.toNat) : modeOf? b = none := by
  have other (k : Byte) (small : k.toNat ≤ 2) : b ≠ k := by rintro rfl; exact absurd h small.not_gt
  rw [modeOf?, if_neg (other 0 (by decide)), if_neg (other 1 (by decide)), if_neg (other 2 (by decide))]

theorem setMode_badMode {b : Byte} (p : Port) (s : State) (h : 2 < b.toNat) : setMode p b s = refuse .badValue s := by
  simp only [setMode, modeOf?_eq_none h]

section
variable {s : State} {p : Port} {m : WingMode} (ready : s.Ready .setMode p) (asked : m ≠ .evacuation)
include ready asked

/-- The cases of R159 and R161 for a mode that may be asked. -/
theorem takeRequest_setMode :
    s.takeRequest .setMode p (setMode p (BitVec.ofNat 8 m.code))
      = if s.wing.mode = .evacuation then s.withAnswer .setMode p .evacActive []
        else if s.wing.mode = m then s.withAnswer .setMode p .ok (byte m.code)
        else (s.changeMode (.port p) m).withAnswer .setMode p .ok (byte m.code) := by
  have rule (t : State) : setMode p (BitVec.ofNat 8 m.code) t
      = if t.wing.mode = .evacuation then refuse .evacActive t
        else if t.wing.mode = m then accept t (byte m.code)
        else accept (t.changeMode (.port p) m) (byte m.code) := by
    simp only [setMode, modeOf?_code asked]
  split
  · next evacuated => exact State.takeRequest_refused ready (by rw [rule, State.sendZeros_wing, if_pos evacuated]; rfl)
  next notEvacuated =>
  split
  · next same =>
    exact State.takeRequest_refused ready (by rw [rule, State.sendZeros_wing, if_neg notEvacuated, if_pos same]; rfl)
  · next other =>
    refine State.takeRequest_carriedOut ready ?_
    rw [rule, State.sendZeros_wing, if_neg notEvacuated, if_neg other, State.changeMode_sendZeros]
    rfl

end

/-! ## RESTORE -/

section
variable {s : State} {p : Port} (ready : s.Ready .restore p)
include ready

theorem takeRequest_restore_notEvacuated (h : s.wing.mode ≠ .evacuation) :
    s.takeRequest .restore p (restore p) = s.withAnswer .restore p .wrongState [] :=
  State.takeRequest_refused ready (by rw [restore, State.sendZeros_wing, if_pos h]; rfl)

variable (evacuated : s.wing.mode = .evacuation)
include evacuated

theorem takeRequest_restore_asserted (asserted : s.wing.evacSampled = true) :
    s.takeRequest .restore p (restore p) = s.withAnswer .restore p .evacActive [] :=
  State.takeRequest_refused ready
    (by rw [restore, State.sendZeros_wing, if_neg (not_not.mpr evacuated), if_pos asserted]; rfl)

theorem takeRequest_restore_restores (clear : s.wing.evacSampled = false) :
    s.takeRequest .restore p (restore p)
      = ((s.enterMode (.port p) .normal).workLevels.announceMode .normal).withAnswer .restore p .ok [0] := by
  refine State.takeRequest_carriedOut ready ?_
  rw [restore, State.sendZeros_wing, if_neg (not_not.mpr evacuated), if_neg (Bool.eq_false_iff.mp clear),
    State.enterMode_sendZeros, State.workLevels_sendZeros, State.announceMode_sendZeros]
  rfl

end

end Sys2Proof.Machine

open Sys2Proof Sys2Proof.Machine

/-- Settles O48: each request's checks in their order, and a change of mode by its steps. -/
theorem setModeAndRestoreChangeTheMode : Obligations.SetModeAndRestoreChangeTheMode := by
  unfold Obligations.SetModeAndRestoreChangeTheMode
  simp only [exec_setMode, exec_restore, Host.Outcome.next.injEq]
  intro s ready
  have readyRestore := (s.ready_restore_iff .se).mpr ready
  refine ⟨fun b bad => State.takeRequest_refused ready (setMode_badMode .se _ bad), fun m asked => ?_,
    takeRequest_restore_notEvacuated readyRestore, takeRequest_restore_asserted readyRestore, fun evacuated clear => ?_⟩
  · rw [takeRequest_setMode ready asked]
    refine ⟨fun evacuated => if_pos evacuated, fun same => ?_, fun notEvacuated other => ?_⟩
    · rw [if_neg (same.trans_ne asked), if_pos same]
    · rw [if_neg notEvacuated, if_neg other]
      rfl
  · rw [takeRequest_restore_restores readyRestore evacuated clear, State.announceMode_eq, State.enterMode_eq]

end

section
/-! The entry log (chapter 8): when a full log is blocked, what a record stored in place of the oldest leaves, and an append as one
update of the log and of the two ports. -/

namespace Sys2Proof.Machine

open Sys2Proof

/-! ## A record handed to the log (R170 to R173) -/

section
variable {l : EntryLog} {oldest : LogRecord} {rest : List LogRecord} (r : Formed)

theorem EntryLog.heldAt_iff {seq : Nat} :
    l.heldAt seq = true ↔ ∃ p : Port, (l.reader p).policy = .hold ∧ (l.reader p).cursor = seq := by
  simp only [EntryLog.heldAt, Bool.or_eq_true, Bool.and_eq_true, beq_iff_eq]
  constructor
  · rintro (fo | se)
    · exact ⟨.fo, fo⟩
    · exact ⟨.se, se⟩
  · rintro ⟨_ | _, held⟩
    · exact .inl held
    · exact .inr held

/-- R170: a full log is blocked exactly where a HOLD cursor stands on its oldest record. -/
theorem EntryLog.blocked_iff (records : l.records = oldest :: rest) (full : 4096 ≤ l.records.length) :
    l.blocked = true ↔ ∃ p : Port, (l.reader p).policy = .hold ∧ (l.reader p).cursor = oldest.seq := by
  rw [← EntryLog.heldAt_iff]
  rw [records] at full
  simp only [EntryLog.blocked, records, Config.maxRecords, full, decide_true, Bool.true_and]

/-- R172: the record after the discarded one is the new oldest, and each cursor that stood on the discarded one skips it. -/
theorem EntryLog.store_discard (records : l.records = oldest :: rest) :
    l.discard.store r
      = { records := rest ++ [{ seq := l.next, formed := r, gap := if l.lost = 0 then none else some l.lost }],
          next := nextSeq l.next, lost := 0, fo := l.fo.skip oldest.seq, se := l.se.skip oldest.seq } := by
  simp only [EntryLog.discard, records, EntryLog.store]

end

/-! ## The threshold tests of an append (R181) -/

/-- One port's threshold test as an update of that port alone. -/
theorem State.notify_eq (s : State) (before : EntryLog) (p : Port) :
    s.notify before p = s.setPort p
      (if s.log.unread p = before.unread p + 1 ∧ s.log.unread p = (s.log.reader p).threshold
        then (s.port p).queue (.logThreshold (s.log.unread p)) else s.port p) := by
  simp only [State.notify, State.raise]
  split
  · rfl
  · exact (s.setPort_self p).symm

/-- The two tests see the same log, and neither touches the other's port. -/
theorem State.notify_notify (s : State) (before : EntryLog) :
    (s.notify before .fo).notify before .se
      = { s with fo := (s.notify before .fo).port .fo, se := (s.notify before .se).port .se } := by
  simp only [State.notify_eq, State.setPort_log, State.setPort_port]
  rfl

end Sys2Proof.Machine

open Sys2Proof Sys2Proof.Machine

/-- Settles O12: the three ways a record is taken, by whether the log is full and blocked, and the two threshold tests of an append,
each of which is an update of its own port. -/
theorem appendStoresDiscardsOrLoses : Obligations.AppendStoresDiscardsOrLoses := by
  unfold Obligations.AppendStoresDiscardsOrLoses
  refine ⟨fun l r => ⟨fun room => l.offer_room r room, fun oldest rest records full => ⟨fun held => ?_, fun notHeld => ?_⟩⟩,
    fun s source card room detail => ?_⟩
  · exact l.offer_blocked r full ((EntryLog.blocked_iff records full).mpr held)
  · have notBlocked : l.blocked = false := by
      rw [Bool.eq_false_iff, Ne, EntryLog.blocked_iff records full]
      exact fun ⟨p, hold, cursor⟩ => notHeld p hold cursor
    rw [l.offer_full r full notBlocked, EntryLog.store_discard r records]
    rfl
  · rw [State.append, State.notify_notify]
    simp only [State.notify_eq, State.setPort_port]
    rfl

end

section
/-! The station port's own checks (R187, R194): every request meets them before its own rule. -/

namespace Sys2Proof.Machine

open Sys2Proof

/-! ## The permission table (R187) -/

theorem Request.permitted_fo_iff (r : Request) : r.permitted .fo = true ↔ r ∉ seRequests := by cases r <;> decide

theorem Request.permitted_se_iff (r : Request) : r.permitted .se = true ↔ r ∉ foRequests := by cases r <;> decide

/-! ## A request on a lost link (R194) -/

theorem Request.takenWhenLost_iff (r : Request) : r.takenWhenLost = true ↔ r ∈ [Request.keepalive, .readEvents, .identify] := by
  simp [Request.takenWhenLost, or_assoc]

theorem State.takeRequest_linkLost {s : State} {rq : Request} {p : Port} (rule : State → Reply) (running : s.running = true)
    (empty : (s.port p).slot = none) (allowed : rq.permitted p = true) (lost : (s.port p).linkLost = true)
    (notTaken : rq.takenWhenLost = false) : s.takeRequest rq p rule = s.withAnswer rq p .linkLost [] :=
  State.takeRequest_checked rule running empty (by simp [State.portCheck, allowed, lost, notTaken])

/-- A command that is a request is taken from its port by a rule of its own. Each request's arm of the dispatch names its rule;
every other command has no port, code and body. -/
theorem exec_request {i : Instr} {p : Port} {rq : Request} {body : List Byte} (request : i.request? = some (p, rq, body)) :
    ∃ rule : State → Reply, ∀ s, exec i s = .next (s.takeRequest rq p rule) := by
  cases i <;> cases request <;> exact ⟨_, fun _ => rfl⟩

end Sys2Proof.Machine

open Sys2Proof Sys2Proof.Machine

/-- Settles O6: the table by its requests, and each refusal by the check that stands before the request's own rule. -/
theorem portChecksRefuseRequests : Obligations.PortChecksRefuseRequests := by
  unfold Obligations.PortChecksRefuseRequests
  refine ⟨fun r => ⟨Request.permitted_fo_iff r, Request.permitted_se_iff r⟩, fun i p rq body s request running empty => ?_⟩
  obtain ⟨rule, exec_eq⟩ := exec_request request
  rw [exec_eq]
  refine ⟨fun forbidden => ?_, fun allowed lost notTaken => ?_⟩
  · exact congrArg _ (State.takeRequest_notPermitted rule running empty forbidden)
  · rw [← Request.takenWhenLost_iff, Bool.not_eq_true] at notTaken
    exact congrArg _ (State.takeRequest_linkLost rule running empty allowed lost notTaken)

end

section
/-! READ EVENTS (R190): the oldest events leave the queue, and EVENTS_LOST is reported and cleared. -/

namespace Sys2Proof.Machine

open Sys2Proof

theorem exec_readEvents (p : Port) (count : Byte) (s : State) :
    exec (.readEvents p count) s = .next (s.takeRequest .readEvents p (readEvents p count)) := rfl

/-! ## The requester's own port while its transaction's bytes are sent (R182) -/

section
variable (s : State) (p : Port) (n : Nat)

theorem State.sendZeros_port : (s.sendZeros p n).port p = { s.port p with sent := List.replicate n 0 } := by
  simp [State.sendZeros]

/-- A rule that rewrites its requester's port leaves the bytes sent as they are. -/
theorem State.setPort_sendZeros (q : PortState) :
    (s.sendZeros p n).setPort p { q with sent := List.replicate n 0 } = (s.setPort p q).sendZeros p n := by
  simp [State.sendZeros]

/-- R186: the response asserts ATTN, whatever a rule left of it. -/
theorem State.withAnswer_withAttn (rq : Request) (q : PortState) (st : Status) (body : List Byte) :
    (s.setPort p q.withAttn).withAnswer rq p st body = (s.setPort p q).withAnswer rq p st body := by
  simp [State.withAnswer, State.withResponse, PortState.withAttn]

end

/-! ## The two cases of a count -/

theorem readEvents_badCount {count : Byte} (p : Port) (s : State) (bad : count.toNat = 0 ∨ 8 < count.toNat) :
    readEvents p count s = refuse .badValue s :=
  if_pos (bad.imp_left fun zero => BitVec.eq_of_toNat_eq zero)

/-- The port after `k` events are taken from the oldest end of its queue. -/
def PortState.takeEvents (q : PortState) (k : Nat) : PortState := { q with events := q.events.drop k, eventsLost := false }

/-- What READ EVENTS reports of the `k` events it takes from a port (R190). -/
def PortState.reportEvents (q : PortState) (k : Nat) : List Byte :=
  byte (q.events.take k).length ++ (q.events.take k).flatMap Event.bytes ++ flag q.eventsLost ++ byte (q.events.drop k).length

theorem readEvents_counted {count : Byte} (p : Port) (s : State) (positive : 1 ≤ count.toNat) (small : count.toNat ≤ 8) :
    readEvents p count s = accept (s.setPort p ((s.port p).takeEvents count.toNat).withAttn)
      ((s.port p).reportEvents count.toNat) := by
  have good : ¬(count = 0 ∨ 8 < count.toNat) := by
    rintro (rfl | large)
    · exact absurd positive (by decide)
    · exact small.not_gt large
  exact if_neg good

theorem takeRequest_readEvents_counted {s : State} {p : Port} {count : Byte} (ready : s.Ready .readEvents p)
    (positive : 1 ≤ count.toNat) (small : count.toNat ≤ 8) :
    s.takeRequest .readEvents p (readEvents p count)
      = (s.setPort p ((s.port p).takeEvents count.toNat)).withAnswer .readEvents p .ok
        ((s.port p).reportEvents count.toNat) := by
  rw [← State.withAnswer_withAttn]
  refine State.takeRequest_carriedOut ready ?_
  rw [readEvents_counted p _ positive small, State.sendZeros_port, ← State.setPort_sendZeros]
  rfl

end Sys2Proof.Machine

open Sys2Proof Sys2Proof.Machine

/-- Settles O8: the queue with and without a place, and READ EVENTS by its count. -/
theorem eventsAreQueuedAndRead : Obligations.EventsAreQueuedAndRead := by
  unfold Obligations.EventsAreQueuedAndRead
  refine ⟨fun s p e => ⟨fun room => ?_, fun full => ?_⟩, fun s p count ready positive small => ?_,
    fun s p count ready bad => ?_⟩
  · rw [State.raise_eq, PortState.queue_room _ e room]
  · rw [State.raise_eq, PortState.queue_full _ e full]
  · exact congrArg _ (takeRequest_readEvents_counted ready positive small)
  · exact congrArg _ (State.takeRequest_refused ready (readEvents_badCount p _ bad))

end

section
/-! Link supervision's requests (R191, R192): SET SUPERVISION, and a KEEPALIVE by its token, the port's supervision and its link. -/

namespace Sys2Proof.Machine

open Sys2Proof

theorem exec_setSupervision (p : Port) (interval : Byte) (s : State) :
    exec (.setSupervision p interval) s = .next (s.takeRequest .setSupervision p (setSupervision p interval)) := rfl

theorem exec_keepalive (p : Port) (token : Half) (s : State) :
    exec (.keepalive p token) s = .next (s.takeRequest .keepalive p (keepalive p token)) := rfl

/-! ## The expiry of a KEEPALIVE with the wrong token (R193) -/

section
variable (s : State) (p : Port) (n : Nat)

theorem State.log_sendZeros (l : EntryLog) :
    ({ s.sendZeros p n with log := l } : State) = ({ s with log := l } : State).sendZeros p n := by cases p <;> rfl

theorem State.claimCount_sendZeros (q : Port) : (s.sendZeros p n).claimCount q = s.claimCount q := by
  simp only [State.claimCount, State.sendZeros_holder]

theorem freeForLink_sendZeros (q : Port) (i : Slot) :
    freeForLink q (s.sendZeros p n) i = (freeForLink q s i).sendZeros p n := by
  simp only [freeForLink, State.sendZeros_holder, State.setClaim_sendZeros, State.raise_sendZeros]
  split <;> rfl

theorem State.freeClaims_sendZeros (q : Port) : (s.sendZeros p n).freeClaims q = (s.freeClaims q).sendZeros p n :=
  List.foldl_hom (State.sendZeros · p n) fun t i => freeForLink_sendZeros t p n q i

/-- An expiry at the requester's port does the same before and after the bytes of its transaction are sent. -/
theorem State.superviseExpire_sendZeros : (s.sendZeros p n).superviseExpire p = (s.superviseExpire p).sendZeros p n := by
  have lost : (s.sendZeros p n).setPort p { (s.sendZeros p n).port p with linkLost := true, timer := none }
      = (s.setPort p { s.port p with linkLost := true, timer := none }).sendZeros p n := by
    rw [State.sendZeros_port, ← State.setPort_sendZeros]
  simp only [State.superviseExpire, lost, State.claimCount_sendZeros, State.freeClaims_sendZeros, State.sendZeros_log,
    State.log_sendZeros, State.append_sendZeros, State.raise_sendZeros]

/-- The events that tell a port of its freed claims touch neither its link nor its timer. -/
theorem State.freeClaims_port_link :
    ((s.freeClaims p).port p).linkLost = (s.port p).linkLost ∧ ((s.freeClaims p).port p).timer = (s.port p).timer := by
  rw [State.freeClaims]
  generalize allSlots = slots
  induction slots generalizing s with
  | nil => exact ⟨rfl, rfl⟩
  | cons i rest ih =>
    have claims : (s.setClaim i none).port p = s.port p := by cases p <;> rfl
    simp only [List.foldl_cons, ih, freeForLink]
    split <;> simp [claims]

/-- R193: an expiry loses the link and stops the timer. -/
theorem State.superviseExpire_port_link :
    ((s.superviseExpire p).port p).linkLost = true ∧ ((s.superviseExpire p).port p).timer = none := by
  have logged (t : State) (l : EntryLog) : ({ t with log := l } : State).port p = t.port p := by cases p <;> rfl
  have other (t : State) (e : Event) : (t.raise (otherPort p) e).port p = t.port p := by simp [State.raise]
  simp only [State.superviseExpire, other, State.append_port_linkLost, State.append_port_timer, logged,
    State.freeClaims_port_link, State.setPort_port, and_self]

end

/-! ## SET SUPERVISION -/

section
variable {s : State} {p : Port} {interval : Byte} (ready : s.Ready .setSupervision p)
include ready

theorem takeRequest_setSupervision_again (set : (s.port p).supervised = true) :
    s.takeRequest .setSupervision p (setSupervision p interval) = s.withAnswer .setSupervision p .alreadySet [] :=
  State.takeRequest_refused ready (by rw [setSupervision, State.sendZeros_port, if_pos set]; rfl)

theorem takeRequest_setSupervision_first (notSet : (s.port p).supervised = false) :
    s.takeRequest .setSupervision p (setSupervision p interval)
      = (s.setPort p { s.port p with supervised := true, interval := clamp 1 255 interval.toNat,
                                     timer := some (clamp 1 255 interval.toNat) }).withAnswer
        .setSupervision p .ok (byte (clamp 1 255 interval.toNat)) := by
  refine State.takeRequest_carriedOut ready ?_
  rw [setSupervision, State.sendZeros_port, if_neg (by simp [notSet]), ← State.setPort_sendZeros]
  rfl

end

/-- The upper bound of an interval is that of the byte it is sent in. -/
theorem clamp_interval (interval : Byte) : clamp 1 255 interval.toNat = max 1 interval.toNat := by
  rw [clamp, min_eq_right (Nat.le_of_lt_succ interval.isLt)]

/-! ## KEEPALIVE -/

/-- The port after a KEEPALIVE with the right token: the link is up and the interval loaded (R192). -/
def PortState.renewLink (q : PortState) : PortState := { q with linkLost := false, timer := some q.interval }

section
variable {s : State} {p : Port} {token : Half}

theorem keepalive_unsupervised (never : (s.port p).supervised = false) :
    keepalive p token s = if token = 0x5A3C then keepaliveReply p .ok s else keepaliveReply p .badValue s :=
  if_pos (by simp [never])

theorem keepalive_supervised (set : (s.port p).supervised = true) :
    keepalive p token s
      = if token = 0x5A3C then keepaliveReply p .ok (s.setPort p (s.port p).renewLink)
        else if (s.port p).linkLost = true then keepaliveReply p .linkLost s
        else keepaliveReply p .linkLost (s.superviseExpire p) :=
  if_neg (by simp [set])

/-- A KEEPALIVE is answered in the state its row of R192's table leaves, from that state's own port. -/
theorem takeRequest_keepalive_replied {t : State} {st : Status} (ready : s.Ready .keepalive p)
    (replied : keepalive p token (s.sendZeros p (2 + Request.keepalive.bodyLength))
      = keepaliveReply p st (t.sendZeros p (2 + Request.keepalive.bodyLength))) :
    s.takeRequest .keepalive p (keepalive p token) = t.withAnswer .keepalive p st (keepaliveBody (t.port p)) := by
  refine State.takeRequest_carriedOut ready ?_
  rw [replied, keepaliveReply, State.sendZeros_port]
  rfl

variable (ready : s.Ready .keepalive p)
include ready

theorem takeRequest_keepalive_unsupervised (never : (s.port p).supervised = false) :
    s.takeRequest .keepalive p (keepalive p token)
      = s.withAnswer .keepalive p (if token = 0x5A3C then .ok else .badValue) (keepaliveBody (s.port p)) := by
  refine takeRequest_keepalive_replied ready ?_
  rw [keepalive_unsupervised (by rwa [State.sendZeros_port])]
  split <;> rfl

theorem takeRequest_keepalive_renews (set : (s.port p).supervised = true) (right : token = 0x5A3C) :
    s.takeRequest .keepalive p (keepalive p token)
      = (s.setPort p (s.port p).renewLink).withAnswer .keepalive p .ok (byte 1 ++ byte (s.port p).interval) := by
  have body : keepaliveBody ((s.setPort p (s.port p).renewLink).port p) = byte 1 ++ byte (s.port p).interval := by
    rw [State.setPort_port]
    rfl
  rw [← body]
  refine takeRequest_keepalive_replied ready ?_
  rw [keepalive_supervised (by rwa [State.sendZeros_port]), if_pos right, State.sendZeros_port, ← State.setPort_sendZeros]
  rfl

theorem takeRequest_keepalive_lost (set : (s.port p).supervised = true) (wrong : token ≠ 0x5A3C)
    (lost : (s.port p).linkLost = true) :
    s.takeRequest .keepalive p (keepalive p token) = s.withAnswer .keepalive p .linkLost (keepaliveBody (s.port p)) := by
  refine takeRequest_keepalive_replied ready ?_
  rw [keepalive_supervised (by rwa [State.sendZeros_port]), if_neg wrong, if_pos (by rwa [State.sendZeros_port])]

theorem takeRequest_keepalive_expires (set : (s.port p).supervised = true) (wrong : token ≠ 0x5A3C)
    (up : (s.port p).linkLost = false) :
    s.takeRequest .keepalive p (keepalive p token)
      = (s.superviseExpire p).withAnswer .keepalive p .linkLost (byte 2 ++ byte 0) := by
  obtain ⟨lost, stopped⟩ := s.superviseExpire_port_link p
  have body : keepaliveBody ((s.superviseExpire p).port p) = byte 2 ++ byte 0 := by
    rw [keepaliveBody, lost, stopped]
    rfl
  rw [← body]
  refine takeRequest_keepalive_replied ready ?_
  rw [keepalive_supervised (by rwa [State.sendZeros_port]), if_neg wrong,
    if_neg (by rw [State.sendZeros_port]; simp [up]), State.superviseExpire_sendZeros]

end

end Sys2Proof.Machine

open Sys2Proof Sys2Proof.Machine

/-- Settles O9: SET SUPERVISION by whether one was taken before, and KEEPALIVE by the rows of R192's table. -/
theorem supervisionRequests : Obligations.SupervisionRequests := by
  unfold Obligations.SupervisionRequests
  refine ⟨fun s p interval ready => ?_, fun s p token ready => ?_⟩
  · rw [exec_setSupervision, ← clamp_interval]
    exact ⟨fun notSet => congrArg _ (takeRequest_setSupervision_first ready notSet),
      fun set => congrArg _ (takeRequest_setSupervision_again ready set)⟩
  · rw [exec_keepalive]
    refine ⟨fun never right => ?_, fun never wrong => ?_, fun set right => ?_, fun set wrong lost => ?_, fun set wrong up => ?_⟩
    · rw [takeRequest_keepalive_unsupervised ready never, if_pos right]
      rfl
    · rw [takeRequest_keepalive_unsupervised ready never, if_neg wrong]
      rfl
    · exact congrArg _ (takeRequest_keepalive_renews ready set right)
    · exact congrArg _ (takeRequest_keepalive_lost ready set wrong lost)
    · exact congrArg _ (takeRequest_keepalive_expires ready set wrong up)

end

section
/-! What a command can change, field by field. `State.SameBut` says that every field but those named keeps its value; it is proved
once for each operation and composed for each rule, so that the proof that a step keeps an invariant looks only at the commands
that touch the fields the invariant speaks of. -/

namespace Sys2Proof.Machine

-- One theorem at a time: each check by the kernel then needs one stack.
set_option Elab.async false

open Sys2Proof

/-! ## The fields -/

/-- The parts of the state a command may touch: a field of `State`, a group of fields, or an item of its power; and, of the rooms, the
clock, the table, the Decision Unit's tables and the gates, the settings that few commands change, each by itself. -/
inductive Field where
  | pending | phase | supply | tallies | clock | rooms | claims | accounts | prices | reserve | table | units | grants | ajar
  | sessions | buses | decision | gates | wing | log | ports
  | generations | clockSet | site | conditions | entrances | shifts | schedule
  deriving DecidableEq, Repr

/-- Two states agree in a field. -/
def State.Agree (s t : State) : Field → Prop
  | .pending => t.pending = s.pending
  | .phase => t.power.phase = s.power.phase
  | .supply => t.power.retained = s.power.retained ∧ t.power.latch = s.power.latch
  | .tallies => t.power.grantTally = s.power.grantTally ∧ t.power.sessionTally = s.power.sessionTally
  | .clock => t.clock = s.clock
  | .rooms => t.rooms = s.rooms
  | .claims => t.claims = s.claims
  | .accounts => t.accounts = s.accounts
  | .prices => t.prices = s.prices
  | .reserve => t.reserve = s.reserve
  | .table => t.table = s.table
  | .units => t.units = s.units
  | .grants => t.grants = s.grants
  | .ajar => t.ajar = s.ajar
  | .sessions => t.sessions = s.sessions
  | .buses => t.busA = s.busA ∧ t.busB = s.busB
  | .decision => t.decision = s.decision
  | .gates => t.gates = s.gates
  | .wing => t.wing = s.wing
  | .log => t.log = s.log
  | .ports => t.fo = s.fo ∧ t.se = s.se
  | .generations => ∀ i : Slot, t.rooms[i].generation = s.rooms[i].generation
  | .clockSet => t.clock.clockSet = s.clock.clockSet
  | .site => t.table.site = s.table.site
  | .conditions => t.decision.conditions = s.decision.conditions
  | .entrances => t.decision.entrances = s.decision.entrances
  | .shifts => t.decision.shifts = s.decision.shifts
  | .schedule => t.gates.schedule = s.gates.schedule

/-- Two states agree in every field but those of `touched`. -/
def State.SameBut (touched : List Field) (s t : State) : Prop := ∀ f ∉ touched, s.Agree t f

theorem State.Agree.trans {s t v : State} {f : Field} (h : s.Agree t f) (k : t.Agree v f) : s.Agree v f := by
  cases f <;> simp_all [State.Agree]

theorem State.SameBut.refl {touched : List Field} (s : State) : State.SameBut touched s s := by
  intro f _; cases f <;> simp [State.Agree]

theorem State.SameBut.trans {touched : List Field} {s t v : State} (h : State.SameBut touched s t)
    (k : State.SameBut touched t v) : State.SameBut touched s v := fun f hf => (h f hf).trans (k f hf)

/-- Every field of one list is in another, as a test to be run. -/
def within (fs gs : List Field) : Bool := fs.all gs.contains

/-- No field of one list is in another, as a test to be run. -/
def apart (fs gs : List Field) : Bool := fs.all fun f => !gs.contains f

theorem apart_iff {fs gs : List Field} : apart fs gs = true ↔ ∀ f ∈ fs, f ∉ gs := by
  simp [apart]

theorem within_iff {fs gs : List Field} : within fs gs = true ↔ fs ⊆ gs := by
  simp [within, List.subset_def]

theorem State.SameBut.agree {touched : List Field} {s t : State} (h : State.SameBut touched s t) (f : Field)
    (other : apart [f] touched = true := by rfl) : s.Agree t f :=
  h f (apart_iff.mp other f (List.mem_singleton_self f))

theorem State.SameBut.mono {fs gs : List Field} {s t : State} (h : State.SameBut fs s t) (sub : within fs gs = true := by rfl) :
    State.SameBut gs s t := fun f hf => h f fun mem => hf (within_iff.mp sub mem)

/-- An operation followed by another touches what either touches. -/
theorem State.SameBut.andThen {fs gs hs : List Field} {s t v : State} (h : State.SameBut fs s t) (k : State.SameBut gs t v)
    (subH : within fs hs = true := by rfl) (subK : within gs hs = true := by rfl) : State.SameBut hs s v :=
  (h.mono subH).trans (k.mono subK)

/-- What a left fold does step by step, it does as a whole. -/
theorem State.SameBut.foldl {α : Type} {touched : List Field} {op : State → α → State}
    (each : ∀ s a, State.SameBut touched s (op s a)) (xs : List α) (s : State) :
    State.SameBut touched s (xs.foldl op s) := by
  induction xs generalizing s with
  | nil => exact .refl s
  | cons x xs ih => exact (each s x).trans (ih _)

/-! ## The operations -/

section
variable (s : State)

theorem State.setPort_same (p : Port) (q : PortState) : SameBut [.ports] s (s.setPort p q) := by
  intro f hf; cases f <;> simp_all [State.Agree]

theorem State.setBus_same (line : Bus) (c : BusState) : SameBut [.buses] s (s.setBus line c) := by
  intro f hf; cases f <;> simp_all [State.Agree]

theorem State.setUnit_same (u : UnitId) (r : UnitRec) : SameBut [.units] s (s.setUnit u r) := by
  intro f hf; cases f <;> simp_all [State.Agree]

theorem State.setGrant_same (u : UnitId) (g : Option Grant) : SameBut [.grants] s (s.setGrant u g) := by
  intro f hf; cases f <;> simp_all [State.Agree]

theorem State.setAjar_same (u : UnitId) (x : Option AjarTimer) : SameBut [.ajar] s (s.setAjar u x) := by
  intro f hf; cases f <;> simp_all [State.Agree]

theorem State.setSession_same (u : UnitId) (x : Option Session) : SameBut [.sessions] s (s.setSession u x) := by
  intro f hf; cases f <;> simp_all [State.Agree]

theorem State.setRoom_same (i : Slot) (r : Room) : SameBut [.rooms, .generations] s (s.setRoom i r) := by
  intro f hf; cases f <;> simp_all [State.Agree]

/-- A room record of the same generation touches the other items of the rooms alone. -/
theorem State.setRoom_keepsGeneration (i : Slot) (r : Room) (same : r.generation = s.rooms[i].generation := by rfl) :
    SameBut [.rooms] s (s.setRoom i r) := by
  intro f hf
  cases f with
  | generations =>
    intro j
    by_cases here : j = i
    · subst here
      simpa using same
    · simp [Fin.val_ne_of_ne (Ne.symm here)]
  | _ => simp_all [State.Agree]

theorem State.setClaim_same (i : Slot) (c : Option Claim) : SameBut [.claims] s (s.setClaim i c) := by
  intro f hf; cases f <;> simp_all [State.Agree]

theorem State.setAccount_same (i : Slot) (a : Account) : SameBut [.accounts] s (s.setAccount i a) := by
  intro f hf; cases f <;> simp_all [State.Agree]

theorem State.setTable_same (t : CardTable) : SameBut [.table, .site] s { s with table := t } := by
  intro f hf; cases f <;> simp_all [State.Agree]

theorem State.setTable_keepsSite (t : CardTable) (same : t.site = s.table.site := by rfl) :
    SameBut [.table] s { s with table := t } := by
  intro f hf; cases f <;> simp_all [State.Agree]

theorem State.setGates_same (g : Gates) : SameBut [.gates, .schedule] s { s with gates := g } := by
  intro f hf; cases f <;> simp_all [State.Agree]

theorem State.setGates_keepsSchedule (g : Gates) (same : g.schedule = s.gates.schedule := by rfl) :
    SameBut [.gates] s { s with gates := g } := by
  intro f hf; cases f <;> simp_all [State.Agree]

theorem State.setClock_same (c : Clock) : SameBut [.clock, .clockSet] s { s with clock := c } := by
  intro f hf; cases f <;> simp_all [State.Agree]

theorem State.setClock_keepsSet (c : Clock) (same : c.clockSet = s.clock.clockSet := by rfl) :
    SameBut [.clock] s { s with clock := c } := by
  intro f hf; cases f <;> simp_all [State.Agree]

theorem State.setWing_same (w : Wing) : SameBut [.wing] s { s with wing := w } := by
  intro f hf; cases f <;> simp_all [State.Agree]

theorem State.setDecision_same {touched : List Field} (d : DecisionTables) (decision : .decision ∈ touched)
    (conditions : .conditions ∈ touched ∨ d.conditions = s.decision.conditions)
    (entrances : .entrances ∈ touched ∨ d.entrances = s.decision.entrances)
    (shifts : .shifts ∈ touched ∨ d.shifts = s.decision.shifts) : SameBut touched s { s with decision := d } := by
  intro f hf
  cases f with
  | decision => exact absurd decision hf
  | conditions => exact conditions.resolve_left hf
  | entrances => exact entrances.resolve_left hf
  | shifts => exact shifts.resolve_left hf
  | _ => simp [State.Agree]

theorem State.setLog_same (l : EntryLog) : SameBut [.log] s { s with log := l } := by
  intro f hf; cases f <;> simp_all [State.Agree]

theorem State.setTallies_same (grants sessions : Nat) :
    SameBut [.tallies] s { s with power := { s.power with grantTally := grants, sessionTally := sessions } } := by
  intro f hf; cases f <;> simp_all [State.Agree]

theorem State.raise_same (p : Port) (e : Event) : SameBut [.ports] s (s.raise p e) := s.setPort_same p _

theorem State.raiseBoth_same (e : Event) : SameBut [.ports] s (s.raiseBoth e) :=
  (s.raise_same .fo e).trans (State.raise_same _ .se e)

theorem State.append_same (source : Source) (card : Option Nat) (room : Option Slot) (detail : Detail) :
    SameBut [.log, .ports] s (s.append source card room detail) := by
  intro f hf; cases f <;> simp_all [State.Agree]

theorem State.appendUnit_same (u : UnitId) (card : Option Nat) (detail : Detail) :
    SameBut [.log, .ports] s (s.appendUnit u card detail) := s.append_same _ _ _ _

theorem State.respond_same (p : Port) (r : Response) : SameBut [.ports] s (s.respond p r) := s.setPort_same p _

theorem State.sendZeros_same (p : Port) (n : Nat) : SameBut [.ports] s (s.sendZeros p n) := s.setPort_same p _

theorem State.setRelock_same (u : UnitId) : SameBut [.units] s (s.setRelock u) := s.setUnit_same u _

theorem State.setMisreads_same (u : UnitId) (n : Nat) : SameBut [.units] s (s.setMisreads u n) := s.setUnit_same u _

theorem State.setPrivacy_same (i : Slot) (x : Privacy) : SameBut [.rooms] s (s.setPrivacy i x) := s.setRoom_keepsGeneration i _

theorem State.setOutputs_same : SameBut [.gates] s s.setOutputs := s.setGates_keepsSchedule _

theorem State.workLevels_same : SameBut [.gates] s s.workLevels :=
  (s.setGates_keepsSchedule _).trans (State.setOutputs_same _)

theorem State.loadPulse_same (g : Gate) (unlock : Nat) (evac : Bool) : SameBut [.gates] s (s.loadPulse g unlock evac).1 := by
  simp only [State.loadPulse]
  split
  · exact (s.setGates_keepsSchedule _).trans (State.setOutputs_same _)
  · exact .refl s

/-! ## Sessions and grants -/

theorem State.endSession_same (u : UnitId) (reason : EndReason) :
    SameBut [.sessions, .tallies, .log, .ports] s (s.endSession u reason) := by
  simp only [State.endSession]
  split
  · exact .refl s
  · exact ((s.setSession_same u none).andThen (State.setTallies_same _ _ _) (hs := [.sessions, .tallies])).andThen
      (State.append_same _ _ _ _ _)

theorem State.endSessionRelock_same (u : UnitId) (reason : EndReason) :
    SameBut [.units, .sessions, .tallies, .log, .ports] s (s.endSessionRelock u reason) := by
  simp only [State.endSessionRelock]
  split
  · exact (s.setRelock_same u).andThen (State.endSession_same _ u reason)
  · exact .refl s

theorem State.endUnopened_same (u : UnitId) : SameBut [.sessions, .tallies, .log, .ports] s (s.endUnopened u) := by
  simp only [State.endUnopened]
  split
  · split
    · exact .refl s
    · exact s.endSession_same u _
  · exact .refl s

theorem State.grantSession_same (u : UnitId) (card : Nat) (guest : Bool) (slot : Slot) (expiry : Nat) :
    SameBut [.sessions, .tallies] s (s.grantSession u card guest slot expiry) := by
  simp only [State.grantSession]
  split
  · exact (s.setTallies_same _ _).andThen (State.setSession_same _ u _)
  · split
    · exact (s.setSession_same u _).mono
    · exact .refl s

theorem State.sessionOpened_same (u : UnitId) : SameBut [.sessions] s (s.sessionOpened u) := by
  simp only [State.sessionOpened]
  split
  · exact s.setSession_same u _
  · exact .refl s

theorem State.sessionClosed_same (u : UnitId) : SameBut [.sessions, .tallies, .log, .ports] s (s.sessionClosed u) := by
  simp only [State.sessionClosed]
  split
  · split
    · exact s.endSession_same u _
    · exact .refl s
  · exact .refl s

theorem State.concludeGrant_same (u : UnitId) (detail : Grant → Detail) :
    SameBut [.grants, .tallies, .log, .ports] s (s.concludeGrant u detail) := by
  simp only [State.concludeGrant]
  split
  · exact .refl s
  · exact ((s.setGrant_same u none).andThen (State.setTallies_same _ _ _) (hs := [.grants, .tallies])).andThen
      (State.appendUnit_same _ _ _ _)

theorem State.createGrant_same (u : UnitId) (card : Option Nat) (guest : Bool) (unlock : Nat) (evac : Bool) :
    SameBut [.grants, .sessions, .tallies, .gates, .log, .ports] s (s.createGrant u card guest unlock evac) := by
  have pulsed (x : State) : SameBut [.gates] x
      (match x.unitGate u with | some g => x.loadPulse g unlock evac | none => (x, false)).1 := by
    split
    · exact x.loadPulse_same _ _ _
    · exact .refl x
  have held (x : State) (g : Grant) : SameBut [.grants, .tallies] x
      { x.setGrant u (some g) with power := { x.power with grantTally := x.power.grantTally + 1 } } :=
    (x.setGrant_same u _).andThen (State.setTallies_same _ _ _)
  have granted (x : State) (g : Grant) : SameBut [.grants, .tallies, .gates, .log, .ports] s _ :=
    (((s.concludeGrant_same u fun g => .grantReplaced g.items).andThen (pulsed _)
      (hs := [.grants, .tallies, .gates, .log, .ports])).andThen (held _ g))
  simp only [State.createGrant]
  split
  · exact (granted s _).andThen (State.grantSession_same _ _ _ _ _ _)
  · exact (granted s _).mono

theorem State.acknowledge_same (u : UnitId) : SameBut [.grants] s (s.acknowledge u) := by
  simp only [State.acknowledge]
  split
  · exact s.setGrant_same u _
  · exact .refl s

theorem State.cutForLockdown_same (u : UnitId) : SameBut [.units, .grants, .tallies, .log, .ports] s (s.cutForLockdown u) := by
  simp only [State.cutForLockdown]
  split
  · exact (s.concludeGrant_same u _).andThen (State.setRelock_same _ u)
  · exact .refl s

theorem State.cutAll_same : SameBut [.units, .grants, .tallies, .log, .ports] s s.cutAll :=
  SameBut.foldl State.cutForLockdown_same allUnits s

end

end Sys2Proof.Machine
end

section
/-! What each block's operations and each request's rule can change, field by field. -/

namespace Sys2Proof.Machine

-- One theorem at a time: each check by the kernel then needs one stack.
set_option Elab.async false

open Sys2Proof

/-! ## Modes and edges (R116, R160, R162, R163) -/

section
variable (s : State)

theorem State.broadcastBoth_same : SameBut [.buses] s s.broadcastBoth := by
  intro f hf; cases f <;> simp_all [State.Agree, State.broadcastBoth]

theorem State.enterMode_same (source : Source) (m : WingMode) : SameBut [.wing, .log, .ports] s (s.enterMode source m) :=
  (s.setWing_same _).andThen (State.append_same _ _ _ _ _)

theorem State.announceMode_same (m : WingMode) : SameBut [.buses, .ports] s (s.announceMode m) :=
  (s.raiseBoth_same _).andThen (State.broadcastBoth_same _)

theorem State.changeMode_same (source : Source) (m : WingMode) :
    SameBut [.units, .grants, .tallies, .buses, .gates, .wing, .log, .ports] s (s.changeMode source m) := by
  have cut (x : State) : SameBut [.units, .grants, .tallies, .log, .ports] x (if m = .lockdown then x.cutAll else x) := by
    split
    · exact x.cutAll_same
    · exact .refl x
  exact (((s.enterMode_same source m).andThen (cut _) (hs := [.units, .grants, .tallies, .wing, .log, .ports])).andThen
    (State.setOutputs_same _) (hs := [.units, .grants, .tallies, .gates, .wing, .log, .ports])).andThen
    (State.announceMode_same _ m)

theorem State.endAllSessions_same : SameBut [.units, .sessions, .tallies, .log, .ports] s s.endAllSessions :=
  SameBut.foldl (fun x u => x.endSessionRelock_same u .evacuation) allUnits s

theorem State.markEvac_same : SameBut [.grants] s s.markEvac := by
  intro f hf; cases f <;> simp_all [State.Agree, State.markEvac]

theorem State.stopPulses_same : SameBut [.gates] s s.stopPulses := s.setGates_keepsSchedule _

/-- What an evacuation touches once the mode is stored (R162, steps 4 to 7). -/
theorem State.evacuate_same : SameBut [.units, .grants, .sessions, .tallies, .gates, .log, .ports] s
    (s.markEvac.stopPulses.endAllSessions.setOutputs.raiseBoth (.evacLine true)) :=
  (((s.markEvac_same.andThen (State.stopPulses_same _) (hs := [.grants, .gates])).andThen (State.endAllSessions_same _)
    (hs := [.units, .grants, .sessions, .tallies, .gates, .log, .ports])).andThen (State.setOutputs_same _)
    (hs := [.units, .grants, .sessions, .tallies, .gates, .log, .ports])).andThen (State.raiseBoth_same _ _)

theorem State.evacRises_same :
    SameBut [.units, .grants, .sessions, .tallies, .buses, .gates, .wing, .log, .ports] s s.evacRises := by
  have sampled : SameBut [.wing, .log, .ports] s
      (({ s with wing := { s.wing with evacSampled := true } } : State).append .evacLine none none (.evac s.wing.mode)) :=
    (s.setWing_same _).andThen (State.append_same _ _ _ _ _)
  simp only [State.evacRises]
  split
  · exact (((sampled.trans (State.enterMode_same _ _ _)).andThen (State.evacuate_same _)
      (hs := [.units, .grants, .sessions, .tallies, .gates, .wing, .log, .ports]))).andThen (State.announceMode_same _ _)
  · exact (sampled.andThen (State.evacuate_same _))

theorem State.evacFalls_same : SameBut [.wing, .log, .ports] s s.evacFalls :=
  ((s.setWing_same _).andThen (State.append_same _ _ _ _ _) (hs := [.wing, .log, .ports])).andThen (State.raiseBoth_same _ _)

/-! ## Cards (R55, R59, R63) -/

theorem CardTable.revokeAll_site (t : CardTable) (cards : List Credential) : (t.revokeAll cards).site = t.site := by
  unfold CardTable.revokeAll
  induction cards generalizing t with
  | nil => rfl
  | cons c cards ih => exact ih _

theorem CardTable.supersede_site (t : CardTable) (old : Option Credential) : (t.supersede old).site = t.site := by
  unfold CardTable.supersede
  repeat' split
  all_goals rfl

theorem issueCards_same (p : Port) (i : Slot) (cls : Fin 8) (w : Window) (n left : Nat) :
    State.SameBut [.rooms, .table] s (issueCards p i cls w n left s).1 := by
  induction left generalizing s with
  | zero => exact .refl s
  | succ left ih =>
    exact ((s.setRoom_keepsGeneration i _).andThen (State.setTable_keepsSite _ _) (hs := [.rooms, .table])).trans (ih _)

theorem State.issueBatch_same (p : Port) (i : Slot) (cls : Fin 8) (w : Window) (n : Nat) :
    SameBut [.rooms, .table] s (s.issueBatch p i cls w n).1 :=
  (s.setTable_keepsSite _).andThen (issueCards_same _ p i cls w n n)

theorem logIssues_same (p : Port) (n : Nat) (cards : List Credential) : State.SameBut [.log, .ports] s (logIssues p n cards s) := by
  induction cards generalizing n s with
  | nil => exact .refl s
  | cons c cards ih => exact (s.append_same _ _ _ _).trans (ih _ 0)

theorem State.logRevoke_same (p : Port) (c : Credential) (reason : RevokeReason) :
    SameBut [.log, .ports] s (s.logRevoke p c reason) := s.append_same _ _ _ _

theorem logSuperseded_same (p : Port) (old : Option Credential) : State.SameBut [.log, .ports] s (logSuperseded p old s) := by
  simp only [logSuperseded]
  split
  · split
    · exact .refl s
    · exact s.logRevoke_same p _ _
  · exact .refl s

theorem logRevokes_same (p : Port) (cards : List Credential) : State.SameBut [.log, .ports] s (logRevokes p cards s) :=
  State.SameBut.foldl (fun x c => x.logRevoke_same p c .checkout) cards s

theorem State.endRoomSession_same (i : Slot) : SameBut [.units, .sessions, .tallies, .log, .ports] s (s.endRoomSession i) := by
  simp only [State.endRoomSession]
  split
  · exact s.endSessionRelock_same _ _
  · exact .refl s

/-! ## Claims and supervision (R36, R193) -/

theorem freeForLink_same (p : Port) (i : Slot) : State.SameBut [.claims, .ports] s (freeForLink p s i) := by
  simp only [freeForLink]
  split
  · exact (s.setClaim_same i none).andThen (State.raise_same _ p _)
  · exact .refl s

theorem State.freeClaims_same (p : Port) : SameBut [.claims, .ports] s (s.freeClaims p) :=
  SameBut.foldl (freeForLink_same · p ·) allSlots s

theorem State.superviseExpire_same (p : Port) : SameBut [.claims, .log, .ports] s (s.superviseExpire p) :=
  ((((s.setPort_same p _).andThen (State.freeClaims_same _ p) (hs := [.claims, .ports])).andThen (State.setLog_same _ _)
    (hs := [.claims, .log, .ports])).andThen (State.append_same _ _ _ _ _) (hs := [.claims, .log, .ports])).andThen
    (State.raise_same _ _ _)

end

/-! ## A claimed request (R24) -/

theorem State.loadLease_same (s : State) (i : Slot) (p : Port) : SameBut [.claims] s (s.loadLease i p) := s.setClaim_same i _

theorem renewing_same {touched : List Field} {s : State} (p : Port) (i : Slot) {r : Reply} (rule : State.SameBut touched s r.1)
    (mem : within [.claims] touched = true := by rfl) : State.SameBut touched s (renewing p i r).1 := by
  unfold renewing
  split
  · exact rule.trans ((State.loadLease_same _ i p).mono mem)
  · exact rule

theorem claimed_same {touched : List Field} {s : State} {p : Port} {slot : Byte} {ok : Bool} {rule : Slot → State → Reply}
    (own : ∀ i, State.SameBut touched s (rule i s).1) (mem : within [.claims] touched = true := by rfl) :
    State.SameBut touched s (claimed p slot ok rule s).1 := by
  simp only [claimed]
  split
  · exact .refl s
  · split
    · exact .refl s
    · split
      · exact .refl s
      · exact renewing_same p _ (own _) mem

/-! ## The rules of the requests -/

section
variable (s : State) (p : Port)

theorem checkIn_same (slot cls count : Byte) (arrival departure : DayMinute) (allowance : Triple) :
    State.SameBut [.rooms, .generations, .claims, .accounts, .table, .log, .ports] s
      (checkIn p slot cls count arrival departure allowance s).1 := by
  refine claimed_same fun i => ?_
  repeat' split
  all_goals first | exact .refl s | skip
  exact ((((s.setRoom_same i _).andThen (State.setAccount_same _ i _) (hs := [.rooms, .generations, .accounts])).andThen
    (State.issueBatch_same _ _ _ _ _ _) (hs := [.rooms, .generations, .accounts, .table])).andThen (State.append_same _ _ _ _ _)
    (hs := [.rooms, .generations, .accounts, .table, .log, .ports])).andThen (logIssues_same _ _ _ _)

theorem addCards_same (slot cls count : Byte) :
    State.SameBut [.rooms, .claims, .table, .log, .ports] s (addCards p slot cls count s).1 := by
  refine claimed_same fun i => ?_
  repeat' split
  all_goals first | exact .refl s | skip
  exact (s.issueBatch_same _ _ _ _ _).andThen (logIssues_same _ _ _ _)

theorem changeStay_same (slot : Byte) (departure : DayMinute) :
    State.SameBut [.rooms, .claims, .table, .log, .ports] s (changeStay p slot departure s).1 := by
  refine claimed_same fun i => ?_
  repeat' split
  all_goals first | exact .refl s | skip
  exact ((s.setRoom_keepsGeneration i _).andThen (State.setTable_keepsSite _ _) (hs := [.rooms, .table])).andThen (State.append_same _ _ _ _ _)

theorem checkOut_same (slot : Byte) :
    State.SameBut [.rooms, .claims, .accounts, .table, .units, .sessions, .tallies, .log, .ports] s (checkOut p slot s).1 := by
  refine claimed_same fun i => ?_
  split
  · exact (((((s.setTable_keepsSite _ (CardTable.revokeAll_site _ _)).andThen (State.setRoom_keepsGeneration _ i _)
      (hs := [.rooms, .table])).andThen
      (State.setAccount_same _ i _) (hs := [.rooms, .accounts, .table])).andThen (State.append_same _ _ _ _ _)
      (hs := [.rooms, .accounts, .table, .log, .ports])).andThen (logRevokes_same _ p _)
      (hs := [.rooms, .accounts, .table, .log, .ports])).andThen (State.endRoomSession_same _ i)
  · exact .refl s

theorem settle_same (slot : Byte) : State.SameBut [.claims, .accounts, .log, .ports] s (settle p slot s).1 := by
  have settled (i : Slot) (interim : Bool) : State.SameBut [.claims, .accounts, .log, .ports] s (settleRoom p i interim s).1 :=
    (s.setAccount_same i _).andThen (State.append_same _ _ _ _ _)
  refine claimed_same fun i => ?_
  repeat' split
  all_goals first | exact .refl s | exact settled i _

theorem setPrices_same (prices : Vector Half 12) : State.SameBut [.prices] s (setPrices prices s).1 := by
  intro f hf; cases f <;> simp_all [State.Agree, setPrices, accept]

theorem setReserve_same (reserve : Half) : State.SameBut [.reserve] s (setReserve reserve s).1 := by
  intro f hf; cases f <;> simp_all [State.Agree, setReserve, accept]

theorem setGrace_same (grace : Byte) : State.SameBut [.clock] s (setGrace grace s).1 := s.setClock_keepsSet _

theorem configureRoom_same (slot : Byte) (number : Half) : State.SameBut [.rooms] s (configureRoom slot number s).1 := by
  simp only [configureRoom]
  repeat' split
  all_goals first | exact .refl s | exact s.setRoom_keepsGeneration _ _

theorem removeRoom_same (slot : Byte) : State.SameBut [.rooms, .accounts] s (removeRoom slot s).1 := by
  simp only [removeRoom]
  repeat' split
  all_goals first | exact .refl s | exact (s.setRoom_keepsGeneration _ _).andThen (State.setAccount_same _ _ _)

theorem holdRoom_same (slot : Byte) : State.SameBut [.rooms, .claims] s (holdRoom p slot s).1 := by
  refine claimed_same fun i => ?_
  split
  · exact (s.setRoom_keepsGeneration i _).mono
  · exact .refl s

theorem freeRoom_same (slot : Byte) : State.SameBut [.rooms, .claims] s (freeRoom p slot s).1 := by
  refine claimed_same fun i => ?_
  split
  · exact (s.setRoom_keepsGeneration i _).mono
  · exact .refl s

theorem State.forgetPrivacy_same (kind : UnitKind) : SameBut [.rooms] s (s.forgetPrivacy kind) := by
  simp only [State.forgetPrivacy]
  split
  · exact s.setPrivacy_same _ _
  · exact .refl s

theorem configureUnit_same (bus address kind cls slot gate : Byte) :
    State.SameBut [.rooms, .units, .ajar] s (configureUnit bus address kind cls slot gate s).1 := by
  simp only [configureUnit]
  repeat' split
  all_goals first | exact .refl s | skip
  exact (((s.setUnit_same _ _).andThen (State.setAjar_same _ _ _) (hs := [.units, .ajar])).andThen
    (State.forgetPrivacy_same _ _) (hs := [.rooms, .units, .ajar])).andThen (State.forgetPrivacy_same _ _)

theorem removeUnit_same (bus address : Byte) : State.SameBut [.rooms, .units, .ajar] s (removeUnit bus address s).1 := by
  simp only [removeUnit]
  repeat' split
  all_goals first | exact .refl s | skip
  exact ((s.setAjar_same _ _).andThen (State.forgetPrivacy_same _ _) (hs := [.rooms, .ajar])).andThen (State.setUnit_same _ _ _)

theorem readmitUnit_same (bus address : Byte) : State.SameBut [.units, .log, .ports] s (readmitUnit p bus address s).1 := by
  simp only [readmitUnit]
  repeat' split
  all_goals first | exact .refl s | exact (s.setUnit_same _ _).andThen (State.append_same _ _ _ _ _)

theorem issueStaff_same (cls : Byte) (start stop : DayMinute) (replaced : Triple) :
    State.SameBut [.table, .log, .ports] s (issueStaff p cls start stop replaced s).1 := by
  simp only [issueStaff]
  repeat' split
  all_goals first | exact .refl s | skip
  refine State.SameBut.andThen (fs := [.table, .log, .ports]) ?_ (logSuperseded_same _ p _)
  refine State.SameBut.andThen (fs := [.table]) ?_ (logIssues_same _ p _ _)
  exact s.setTable_keepsSite _ (CardTable.supersede_site _ _)

theorem suspend_same (card : Triple) : State.SameBut [.table, .log, .ports] s (suspend p card s).1 := by
  simp only [suspend]
  repeat' split
  all_goals first | exact .refl s | exact (s.setTable_keepsSite _).andThen (State.append_same _ _ _ _ _)

theorem resume_same (card : Triple) : State.SameBut [.table, .log, .ports] s (resume p card s).1 := by
  simp only [resume]
  repeat' split
  all_goals first | exact .refl s | exact (s.setTable_keepsSite _).andThen (State.append_same _ _ _ _ _)

theorem setSite_same (site : Half) : State.SameBut [.table, .site] s (setSite site s).1 := by
  simp only [setSite]
  repeat' split
  all_goals first | exact .refl s | exact s.setTable_same _

theorem setCondition_same (cls entrance code : Byte) : State.SameBut [.decision, .conditions] s (setCondition cls entrance code s).1 := by
  simp only [setCondition]
  split
  · exact s.setDecision_same _ (by simp) (.inl (by simp)) (.inr rfl) (.inr rfl)
  · exact .refl s

theorem setEntranceClass_same (entrance unlock : Byte) (ajarLimit : Half) (exposed : Byte) :
    State.SameBut [.decision, .entrances] s (setEntranceClass entrance unlock ajarLimit exposed s).1 := by
  simp only [setEntranceClass]
  split
  · exact .refl s
  · exact s.setDecision_same _ (by simp) (.inr rfl) (.inl (by simp)) (.inr rfl)

theorem setShift_same (cls : Byte) (opens closes : Half) : State.SameBut [.decision, .shifts] s (setShift cls opens closes s).1 := by
  simp only [setShift]
  repeat' split
  all_goals first | exact .refl s | exact s.setDecision_same _ (by simp) (.inr rfl) (.inr rfl) (.inl (by simp))

theorem setGate_same (enabled exposed : Byte) : State.SameBut [.gates] s (setGate enabled exposed s).1 := by
  simp only [setGate]
  split
  · exact (s.setGates_keepsSchedule _).trans (State.setOutputs_same _)
  · exact .refl s

theorem addScheduleEntry_same (minute : Half) (gates level : Byte) :
    State.SameBut [.gates, .schedule] s (addScheduleEntry minute gates level s).1 := by
  simp only [addScheduleEntry]
  repeat' split
  all_goals first | exact .refl s | exact s.setGates_same _

theorem removeScheduleEntry_same (position : Byte) : State.SameBut [.gates, .schedule] s (removeScheduleEntry position s).1 := by
  simp only [removeScheduleEntry]
  repeat' split
  all_goals first | exact .refl s | exact s.setGates_same _

theorem clearSchedule_same : State.SameBut [.gates, .schedule] s (clearSchedule s).1 := s.setGates_same _

theorem setMode_same (mode : Byte) :
    State.SameBut [.units, .grants, .tallies, .buses, .gates, .wing, .log, .ports] s (setMode p mode s).1 := by
  simp only [setMode]
  repeat' split
  all_goals first | exact .refl s | exact s.changeMode_same _ _

theorem restore_same : State.SameBut [.buses, .gates, .wing, .log, .ports] s (restore p s).1 := by
  simp only [restore]
  repeat' split
  all_goals first | exact .refl s | skip
  exact ((s.enterMode_same _ _).andThen (State.workLevels_same _) (hs := [.gates, .wing, .log, .ports])).andThen
    (State.announceMode_same _ _)

theorem clearBusCounters_same (bus : Byte) : State.SameBut [.buses] s (clearBusCounters bus s).1 := by
  simp only [clearBusCounters]
  split
  · exact .refl s
  · exact s.setBus_same _ _

theorem claim_same (slot preempt : Byte) : State.SameBut [.claims, .log, .ports] s (claim p slot preempt s).1 := by
  have taken (i : Slot) : State.SameBut [.claims, .log, .ports] s (takeClaim p i s).1 :=
    (s.loadLease_same i p).mono
  have preempted (i : Slot) (lease : Nat) : State.SameBut [.claims, .log, .ports] s (preemptClaim i lease s).1 :=
    ((s.loadLease_same i .se).andThen (State.raise_same _ _ _) (hs := [.claims, .ports])).andThen (State.append_same _ _ _ _ _)
  simp only [claim]
  repeat' split
  · exact .refl s
  · exact .refl s
  · exact taken _
  · exact taken _
  · exact preempted _ _
  · exact .refl s

theorem releaseClaim_same (slot : Byte) : State.SameBut [.claims] s (releaseClaim p slot s).1 := by
  simp only [releaseClaim]
  repeat' split
  all_goals first | exact .refl s | exact s.setClaim_same _ _

theorem revokeRecord_same (c : Credential) (reason : RevokeReason) :
    State.SameBut [.table, .log, .ports] s (revokeRecord p c reason s).1 := by
  simp only [revokeRecord]
  split
  · exact .refl s
  · exact (s.setTable_keepsSite _).andThen (State.logRevoke_same _ _ _ _)

theorem revoke_same (card : Triple) (reason : Byte) :
    State.SameBut [.claims, .table, .log, .ports] s (revoke p card reason s).1 := by
  simp only [revoke, revokeFromFo]
  repeat' split
  all_goals first
    | exact .refl s
    | exact renewing_same _ _ ((revokeRecord_same s _ _ _).mono)
    | exact (revokeRecord_same s _ _ _).mono

theorem setClock_same (reading : DayMinute) : State.SameBut [.clock, .clockSet, .gates, .log, .ports] s (setClock p reading s).1 := by
  simp only [setClock]
  split
  · exact .refl s
  · exact (((s.setClock_same _).andThen (State.workLevels_same _) (hs := [.clock, .clockSet, .gates])).andThen
      (State.append_same _ _ _ _ _) (hs := [.clock, .clockSet, .gates, .log, .ports])).andThen (State.raise_same _ _ _)

theorem readRoom_fst (slot : Byte) : (readRoom slot s).1 = s := by
  simp only [readRoom]; split <;> rfl

theorem readCard_fst (card : Triple) : (readCard card s).1 = s := by
  simp only [readCard]
  repeat' split
  all_goals rfl

theorem readUnit_fst (bus address : Byte) : (readUnit bus address s).1 = s := by
  simp only [readUnit]; split <;> rfl

theorem readBus_fst (bus : Byte) : (readBus bus s).1 = s := by
  simp only [readBus]; split <;> rfl

theorem readLog_same (count : Byte) : State.SameBut [.log] s (readLog p count s).1 := by
  simp only [readLog]
  split
  · exact .refl s
  · exact s.setLog_same _

theorem setLogPolicy_same (policy : Byte) : State.SameBut [.log] s (setLogPolicy p policy s).1 := by
  simp only [setLogPolicy]
  split
  · exact .refl s
  · exact s.setLog_same _

theorem setLogThreshold_same (threshold : Half) : State.SameBut [.log] s (setLogThreshold p threshold s).1 := by
  simp only [setLogThreshold]
  exact s.setLog_same _

theorem readEvents_same (count : Byte) : State.SameBut [.ports] s (readEvents p count s).1 := by
  simp only [readEvents]
  split
  · exact .refl s
  · exact s.setPort_same p _

theorem setSupervision_same (interval : Byte) : State.SameBut [.ports] s (setSupervision p interval s).1 := by
  simp only [setSupervision]
  split
  · exact .refl s
  · exact s.setPort_same p _

theorem keepalive_same (token : Half) : State.SameBut [.claims, .log, .ports] s (keepalive p token s).1 := by
  simp only [keepalive]
  repeat' split
  all_goals first
    | exact .refl s
    | exact (s.setPort_same p _).mono
    | exact s.superviseExpire_same p

end

end Sys2Proof.Machine
end

section
/-! Every command as a request or an event, what each may change, and the principle by which a property is kept by every step: the
transaction of a request, the rule of the request it carries, and the events. -/

namespace Sys2Proof.Machine

-- One theorem at a time: each check by the kernel then needs one stack.
set_option Elab.async false

open Sys2Proof

theorem State.SameBut.of_eq {touched : List Field} {s t : State} (h : t = s) : SameBut touched s t := by
  rw [h]; exact .refl s

/-! ## Requests -/

/-- The rule of a request; a command that is no request has none, and is given a refusal. -/
def ruleOf : Instr → State → Reply
  | .checkIn p slot cls count arrival departure allowance => checkIn p slot cls count arrival departure allowance
  | .addCards p slot cls count => addCards p slot cls count
  | .changeStay p slot departure => changeStay p slot departure
  | .checkOut p slot => checkOut p slot
  | .settle p slot => settle p slot
  | .setPrices _ prices => setPrices prices
  | .setReserve _ reserve => setReserve reserve
  | .setGrace _ grace => setGrace grace
  | .configureRoom _ slot number => configureRoom slot number
  | .removeRoom _ slot => removeRoom slot
  | .holdRoom p slot => holdRoom p slot
  | .freeRoom p slot => freeRoom p slot
  | .configureUnit _ bus address kind cls slot gate => configureUnit bus address kind cls slot gate
  | .removeUnit _ bus address => removeUnit bus address
  | .readmitUnit p bus address => readmitUnit p bus address
  | .issueStaff p cls start stop replaced => issueStaff p cls start stop replaced
  | .suspend p card => suspend p card
  | .resume p card => resume p card
  | .setSite _ site => setSite site
  | .setCondition _ cls entrance code => setCondition cls entrance code
  | .setEntranceClass _ entrance unlock ajarLimit exposed => setEntranceClass entrance unlock ajarLimit exposed
  | .setShift _ cls opens closes => setShift cls opens closes
  | .setGate _ enabled exposed => setGate enabled exposed
  | .addScheduleEntry _ minute gates level => addScheduleEntry minute gates level
  | .removeScheduleEntry _ position => removeScheduleEntry position
  | .clearSchedule _ => clearSchedule
  | .setMode p mode => setMode p mode
  | .restore p => restore p
  | .clearBusCounters _ bus => clearBusCounters bus
  | .claim p slot preempt => claim p slot preempt
  | .releaseClaim p slot => releaseClaim p slot
  | .revoke p card reason => revoke p card reason
  | .setClock p reading => setClock p reading
  | .readClock _ => readClock
  | .readRoom _ slot => readRoom slot
  | .readCard _ card => readCard card
  | .readUnit _ bus address => readUnit bus address
  | .readBus _ bus => readBus bus
  | .readGates _ => readGates
  | .readLog p count => readLog p count
  | .setLogPolicy p policy => setLogPolicy p policy
  | .setLogThreshold p threshold => setLogThreshold p threshold
  | .readEvents p count => readEvents p count
  | .setSupervision p interval => setSupervision p interval
  | .keepalive p token => keepalive p token
  | .identify p => identify p
  | _ => refuse .badRequest

theorem exec_eq_takeRequest {i : Instr} {p : Port} {rq : Request} {body : List Byte} (request : i.request? = some (p, rq, body))
    (s : State) : exec i s = .next (s.takeRequest rq p (ruleOf i)) := by
  cases i <;> cases request <;> rfl

/-- The fields the rule of a request may touch. -/
def touchedBy : Request → List Field
  | .checkIn => [.rooms, .generations, .claims, .accounts, .table, .log, .ports]
  | .addCards | .changeStay => [.rooms, .claims, .table, .log, .ports]
  | .checkOut => [.rooms, .claims, .accounts, .table, .units, .sessions, .tallies, .log, .ports]
  | .settle => [.claims, .accounts, .log, .ports]
  | .setPrices => [.prices]
  | .setReserve => [.reserve]
  | .setGrace => [.clock]
  | .configureRoom => [.rooms]
  | .removeRoom => [.rooms, .accounts]
  | .holdRoom | .freeRoom => [.rooms, .claims]
  | .configureUnit | .removeUnit => [.rooms, .units, .ajar]
  | .readmitUnit => [.units, .log, .ports]
  | .issueStaff | .suspend | .resume => [.table, .log, .ports]
  | .setSite => [.table, .site]
  | .setCondition => [.decision, .conditions]
  | .setEntranceClass => [.decision, .entrances]
  | .setShift => [.decision, .shifts]
  | .setGate => [.gates]
  | .addScheduleEntry | .removeScheduleEntry | .clearSchedule => [.gates, .schedule]
  | .setMode => [.units, .grants, .tallies, .buses, .gates, .wing, .log, .ports]
  | .restore => [.buses, .gates, .wing, .log, .ports]
  | .clearBusCounters => [.buses]
  | .claim | .keepalive => [.claims, .log, .ports]
  | .releaseClaim => [.claims]
  | .revoke => [.claims, .table, .log, .ports]
  | .setClock => [.clock, .clockSet, .gates, .log, .ports]
  | .readClock | .readRoom | .readCard | .readUnit | .readBus | .readGates | .identify => []
  | .readLog | .setLogPolicy | .setLogThreshold => [.log]
  | .readEvents | .setSupervision => [.ports]

theorem ruleOf_same {i : Instr} {p : Port} {rq : Request} {body : List Byte} (request : i.request? = some (p, rq, body))
    (s : State) : State.SameBut (touchedBy rq) s (ruleOf i s).1 := by
  cases i with
  | checkIn => cases request; exact checkIn_same s _ _ _ _ _ _ _
  | addCards => cases request; exact addCards_same s _ _ _ _
  | changeStay => cases request; exact changeStay_same s _ _ _
  | checkOut => cases request; exact checkOut_same s _ _
  | settle => cases request; exact settle_same s _ _
  | setPrices => cases request; exact setPrices_same s _
  | setReserve => cases request; exact setReserve_same s _
  | setGrace => cases request; exact setGrace_same s _
  | configureRoom => cases request; exact configureRoom_same s _ _
  | removeRoom => cases request; exact removeRoom_same s _
  | holdRoom => cases request; exact holdRoom_same s _ _
  | freeRoom => cases request; exact freeRoom_same s _ _
  | configureUnit => cases request; exact configureUnit_same s _ _ _ _ _ _
  | removeUnit => cases request; exact removeUnit_same s _ _
  | readmitUnit => cases request; exact readmitUnit_same s _ _ _
  | issueStaff => cases request; exact issueStaff_same s _ _ _ _ _
  | suspend => cases request; exact suspend_same s _ _
  | resume => cases request; exact resume_same s _ _
  | setSite => cases request; exact setSite_same s _
  | setCondition => cases request; exact setCondition_same s _ _ _
  | setEntranceClass => cases request; exact setEntranceClass_same s _ _ _ _
  | setShift => cases request; exact setShift_same s _ _ _
  | setGate => cases request; exact setGate_same s _ _
  | addScheduleEntry => cases request; exact addScheduleEntry_same s _ _ _
  | removeScheduleEntry => cases request; exact removeScheduleEntry_same s _
  | clearSchedule => cases request; exact clearSchedule_same s
  | setMode => cases request; exact setMode_same s _ _
  | restore => cases request; exact restore_same s _
  | clearBusCounters => cases request; exact clearBusCounters_same s _
  | claim => cases request; exact claim_same s _ _ _
  | releaseClaim => cases request; exact releaseClaim_same s _ _
  | revoke => cases request; exact revoke_same s _ _ _
  | setClock => cases request; exact setClock_same s _ _
  | readClock => cases request; exact .refl s
  | readRoom => cases request; exact .of_eq (readRoom_fst s _)
  | readCard => cases request; exact .of_eq (readCard_fst s _)
  | readUnit => cases request; exact .of_eq (readUnit_fst s _ _)
  | readBus => cases request; exact .of_eq (readBus_fst s _)
  | readGates => cases request; exact .refl s
  | readLog => cases request; exact readLog_same s _ _
  | setLogPolicy => cases request; exact setLogPolicy_same s _ _
  | setLogThreshold => cases request; exact setLogThreshold_same s _ _
  | readEvents => cases request; exact readEvents_same s _ _
  | setSupervision => cases request; exact setSupervision_same s _ _
  | keepalive => cases request; exact keepalive_same s _ _
  | identify => cases request; exact .refl s
  | _ => cases request

/-! ## Events: the commands that are no request -/

/-- What a command that is no request makes of the state; a BAD_REQUEST is a request transaction, and is given no effect here. -/
def eventOf : Instr → State → State
  | .secondTick => secondTick
  | .crystalCycle => crystalCycle
  | .claimLeaseExpiry slot => expireLease slot
  | .pendingGrantExpiry unit => expireGrant unit
  | .ajarTimerExpiry unit => expireAjar unit
  | .minibarSessionExpiry unit => expireSession unit
  | .gatePulseExpiry gate => expirePulse gate
  | .supervisionTimerExpiry port => expireSupervision port
  | .rspByteReceived port => rspByteReceived port
  | .responseTransaction port clocked => responseTransaction port clocked
  | .mode line => sendMode line
  | .poll line => sendPoll line
  | .pollTimeout line => pollTimeout line
  | .answer line frame => frameClosed line frame
  | .verdict line => sendVerdict line
  | .ack line frame => frameClosed line frame
  | .verdictTimeout line => verdictTimeout line
  | .evacRisingEdge => evacEdge true
  | .evacFallingEdge => evacEdge false
  | .rstAsserted => assertReset
  | .mainPowerFall => mainPowerFall
  | .retentionLost => retentionLost
  | .warmStart => fun s => if s.power.latch then s else beginWarm s
  | .coldStart => fun s => if s.power.latch then beginCold s else s
  | .startEnd => endStart
  | _ => id

theorem exec_eq_eventOf {c : Instr} (noRequest : c.request? = none) (noBytes : ∀ p bytes, c ≠ .badRequest p bytes) (s : State) :
    exec c s = .next (eventOf c s) := by
  cases c with
  | badRequest p bytes => exact absurd rfl (noBytes p bytes)
  | _ => first | rfl | cases noRequest

section
variable (s : State)

theorem expireLease_same (i : Slot) : State.SameBut [.claims, .ports] s (expireLease i s) := by
  simp only [expireLease]
  repeat' split
  all_goals first | exact .refl s | exact (s.setClaim_same i none).andThen (State.raise_same _ _ _)

theorem expireGrant_same (u : UnitId) : State.SameBut [.grants, .sessions, .tallies, .log, .ports] s (expireGrant u s) := by
  have unused : State.SameBut [.grants, .sessions, .tallies, .log, .ports] s (s.concludeUnused u) :=
    (s.concludeGrant_same u _).mono
  simp only [expireGrant]
  repeat' split
  · exact unused.trans ((State.endUnopened_same _ u).mono)
  · exact unused
  · exact .refl s
  · exact .refl s

theorem expireAjar_same (u : UnitId) : State.SameBut [.units, .ajar, .log, .ports] s (expireAjar u s) := by
  simp only [expireAjar]
  repeat' split
  · exact (((s.setUnit_same u _).andThen (State.setAjar_same _ u none) (hs := [.units, .ajar])).andThen
      (State.appendUnit_same _ u _ _) (hs := [.units, .ajar, .log, .ports])).andThen (State.raise_same _ _ _)
  · exact .refl s
  · exact .refl s

theorem expireSession_same (u : UnitId) : State.SameBut [.sessions, .tallies, .log, .ports] s (expireSession u s) := by
  simp only [expireSession]
  repeat' split
  · exact s.endSession_same u _
  · exact .refl s
  · exact .refl s

theorem expirePulse_same (g : Gate) : State.SameBut [.gates] s (expirePulse g s) := by
  simp only [expirePulse]
  split
  · exact (s.setGates_keepsSchedule _).trans (State.setOutputs_same _)
  · exact .refl s

theorem expireSupervision_same (p : Port) : State.SameBut [.claims, .log, .ports] s (expireSupervision p s) := by
  simp only [expireSupervision]
  split
  · exact s.superviseExpire_same p
  · exact .refl s

theorem expireTimer_same (t : Timer) :
    State.SameBut [.claims, .units, .grants, .ajar, .sessions, .tallies, .gates, .log, .ports] s (expireTimer t s) := by
  cases t with
  | lease i => exact (expireLease_same s i).mono
  | grant u => exact (expireGrant_same s u).mono
  | ajar u => exact (expireAjar_same s u).mono
  | session u => exact (expireSession_same s u).mono
  | pulse g => exact (expirePulse_same s g).mono
  | supervision p => exact (expireSupervision_same s p).mono

theorem State.expireTimers_same (due : List Timer) :
    SameBut [.claims, .units, .grants, .ajar, .sessions, .tallies, .gates, .log, .ports] s (s.expireTimers due) :=
  SameBut.foldl (fun x t => expireTimer_same x t) due s

theorem State.tickTimers_same : SameBut [.claims, .grants, .ajar, .sessions, .gates, .ports] s s.tickTimers := by
  intro f hf
  cases f with
  | schedule => rfl
  | _ => simp_all [State.Agree]

theorem Clock.tick_clockSet (c : Clock) : c.tick.1.clockSet = c.clockSet := by
  simp only [Clock.tick]
  repeat' split
  all_goals rfl

theorem secondTick_same :
    State.SameBut [.clock, .claims, .units, .grants, .ajar, .sessions, .tallies, .gates, .log, .ports] s (secondTick s) := by
  have levels (x : State) (minute : Bool) :
      State.SameBut [.claims, .grants, .ajar, .sessions, .gates, .ports] x
        (if minute then x.tickTimers.workLevels else x.tickTimers) := by
    split
    · exact x.tickTimers_same.andThen (State.workLevels_same _)
    · exact x.tickTimers_same
  simp only [secondTick]
  split
  · exact .refl s
  · split
    · exact (s.setClock_keepsSet _ (Clock.tick_clockSet _)).mono
    · exact ((s.setClock_keepsSet _ (Clock.tick_clockSet _)).andThen (levels _ _)
        (hs := [.clock, .claims, .grants, .ajar, .sessions, .gates, .ports])).andThen (State.expireTimers_same _ _)

theorem crystalCycle_same :
    State.SameBut [.clock, .claims, .units, .grants, .ajar, .sessions, .tallies, .gates, .log, .ports] s (crystalCycle s) := by
  simp only [crystalCycle]
  repeat' split
  · exact .refl s
  · exact (s.setClock_keepsSet _).mono
  · exact secondTick_same s

theorem rspByteReceived_same (p : Port) : State.SameBut [.ports] s (rspByteReceived p s) := by
  simp only [rspByteReceived]
  split
  · exact .refl s
  · exact s.setPort_same p _

theorem responseTransaction_same (p : Port) (n : Nat) : State.SameBut [.ports] s (responseTransaction p n s) := by
  simp only [responseTransaction]
  split
  · exact .refl s
  · exact s.setPort_same p _

/-! ## The Quaybus Controllers -/

theorem sendMode_same (line : Bus) : State.SameBut [.buses] s (sendMode line s) := by
  simp only [sendMode]
  split
  · exact s.setBus_same line _
  · exact .refl s

theorem sendPoll_same (line : Bus) : State.SameBut [.buses] s (sendPoll line s) := by
  simp only [sendPoll]
  repeat' split
  · exact .refl s
  · exact s.setBus_same line _
  · exact .refl s

theorem sendVerdict_same (line : Bus) : State.SameBut [.buses] s (sendVerdict line s) := by
  simp only [sendVerdict]
  repeat' split
  · exact s.setBus_same line _
  · exact .refl s
  · exact .refl s

theorem State.settleRota_same (line : Bus) : SameBut [.buses] s (s.settleRota line) := s.setBus_same line _

theorem State.endFlight_same (line : Bus) : SameBut [.buses] s (s.endFlight line) := s.setBus_same line _

theorem State.miss_same (u : UnitId) : SameBut [.units, .log, .ports] s (s.miss u) := by
  simp only [State.miss]
  repeat' split
  · exact .refl s
  · exact ((s.setUnit_same u _).andThen (State.appendUnit_same _ u _ _) (hs := [.units, .log, .ports])).andThen
      (State.raise_same _ _ _)
  · exact (s.setUnit_same u _).mono

theorem State.answered_same (u : UnitId) : SameBut [.units, .log, .ports] s (s.answered u) := by
  simp only [State.answered]
  split
  · exact ((s.setUnit_same u _).andThen (State.appendUnit_same _ u _ _) (hs := [.units, .log, .ports])).andThen
      (State.raise_same _ _ _)
  · exact (s.setUnit_same u _).mono

theorem State.countError_same (line : Bus) (e : FrameCheck) : SameBut [.buses] s (s.countError line e) := by
  cases e with
  | wellFormed payload => exact .refl s
  | _ => exact s.setBus_same line _

theorem State.failedReply_same (line : Bus) (u : UnitId) (e : FrameCheck) :
    SameBut [.units, .buses, .log, .ports] s (s.failedReply line u e) :=
  ((s.countError_same line e).andThen (State.miss_same _ u) (hs := [.units, .buses, .log, .ports])).andThen
    (State.settleRota_same _ line)

theorem State.timedOut_same (line : Bus) (u : UnitId) : SameBut [.units, .buses, .log, .ports] s (s.timedOut line u) :=
  (((s.endFlight_same line).trans (State.setBus_same _ line _)).andThen (State.miss_same _ u)
    (hs := [.units, .buses, .log, .ports])).andThen (State.settleRota_same _ line)

theorem pollTimeout_same (line : Bus) : State.SameBut [.units, .buses, .log, .ports] s (pollTimeout line s) := by
  simp only [pollTimeout]
  repeat' split
  all_goals first | exact s.timedOut_same line _ | exact .refl s

theorem verdictTimeout_same (line : Bus) : State.SameBut [.units, .buses, .log, .ports] s (verdictTimeout line s) := by
  simp only [verdictTimeout]
  repeat' split
  all_goals first | exact s.timedOut_same line _ | exact .refl s

/-! ## Reports and presentations -/

theorem State.raiseOverdraft_same (i : Slot) (arose : Bool) : SameBut [.ports] s (s.raiseOverdraft i arose) := by
  simp only [State.raiseOverdraft]
  split
  · exact s.raise_same _ _
  · exact .refl s

theorem State.reportItems_same (u : UnitId) (i : Slot) (item : Fin 12) (removed returned : Nat) :
    SameBut [.accounts, .sessions, .log, .ports] s (s.reportItems u i item removed returned) := by
  intro f hf
  cases f with
  | accounts | sessions | log | ports => simp at hf
  | _ => simp [State.Agree]

theorem State.decideOpened_same (u : UnitId) (released : Bool) :
    SameBut [.units, .grants, .ajar, .tallies, .log, .ports] s (s.decideOpened u released) := by
  have opened (x : State) : SameBut [.units, .ajar] x (x.entranceOpened u) :=
    (x.setUnit_same u _).andThen (State.setAjar_same _ u _)
  simp only [State.decideOpened]
  repeat' split
  · exact (s.concludeGrant_same u _).andThen (opened _)
  · exact (s.appendUnit_same u _ _).andThen (opened _)
  · exact ((s.appendUnit_same u _ _).andThen (State.raise_same _ _ _) (hs := [.log, .ports])).andThen (opened _)

theorem State.decideClosed_same (u : UnitId) : SameBut [.units, .ajar] s (s.decideClosed u) :=
  (s.setUnit_same u _).andThen (State.setAjar_same _ u none)

theorem State.tamper_same (u : UnitId) :
    SameBut [.units, .grants, .sessions, .tallies, .log, .ports] s (s.tamper u) :=
  (((((s.setUnit_same u _).andThen (State.concludeGrant_same _ u _) (hs := [.units, .grants, .tallies, .log, .ports])).andThen
    (State.endSession_same _ u _) (hs := [.units, .grants, .sessions, .tallies, .log, .ports])).andThen
    (State.setRelock_same _ u) (hs := [.units, .grants, .sessions, .tallies, .log, .ports])).andThen
    (State.appendUnit_same _ u _ _) (hs := [.units, .grants, .sessions, .tallies, .log, .ports])).andThen
    (State.raise_same _ _ _)

theorem State.report_same (u : UnitId) (r : Report) :
    SameBut [.rooms, .accounts, .units, .grants, .ajar, .sessions, .tallies, .log, .ports] s (s.report u r) := by
  simp only [State.report]
  split
  · exact (s.decideOpened_same u _).mono
  · exact (s.decideOpened_same u _).mono
  · exact (s.decideOpened_same u _).andThen (State.sessionOpened_same _ u)
  · exact (s.decideClosed_same u).mono
  · exact (s.decideClosed_same u).mono
  · exact (s.decideClosed_same u).andThen (State.sessionClosed_same _ u)
  · exact (s.setPrivacy_same _ _).mono
  · exact (s.setPrivacy_same _ _).mono
  · exact .refl s
  · exact (s.tamper_same u).mono
  · exact (s.reportItems_same u _ _ _ _).mono
  · exact .refl s

theorem State.reports_same (u : UnitId) (rs : List Report) :
    SameBut [.rooms, .accounts, .units, .grants, .ajar, .sessions, .tallies, .log, .ports] s (s.reports u rs) :=
  SameBut.foldl (fun x r => x.report_same u r) rs s

theorem State.misread_same (u : UnitId) (side : Side) : SameBut [.units, .log, .ports] s (s.misread u side) := by
  simp only [State.misread]
  split
  · exact (s.setMisreads_same u _).mono
  · exact ((s.setMisreads_same u _).andThen (State.appendUnit_same _ u _ _) (hs := [.units, .log, .ports])).andThen
      (State.raise_same _ _ _)

theorem State.carryOut_same (u : UnitId) (side : Side) (r : Ruling) :
    SameBut [.units, .grants, .sessions, .tallies, .gates, .log, .ports] s (s.carryOut u side r).1 := by
  have granted (card : Option Nat) (guest : Bool) (unlock : Nat) (evac : Bool) :
      SameBut [.units, .grants, .sessions, .tallies, .gates, .log, .ports] s
        ((s.setMisreads u 0).createGrant u card guest unlock evac) :=
    (s.setMisreads_same u 0).andThen (State.createGrant_same _ u card guest unlock evac)
  cases r with
  | reread => exact (s.misread_same u side).mono
  | deny reason card slot lostCard =>
    have denied : SameBut [.units, .log, .ports] s ((s.setMisreads u 0).appendUnit u card (.denial reason side slot)) :=
      (s.setMisreads_same u 0).andThen (State.appendUnit_same _ u _ _)
    simp only [State.carryOut]
    split
    · exact denied.andThen (State.raise_same _ _ _)
    · exact denied.mono
  | evacPass card =>
    simp only [State.carryOut]
    exact (granted card false (s.unlockOf u) true).trans ((State.appendUnit_same _ u _ _).mono)
  | grant card guest => exact granted (some card) guest (s.unlockOf u) false

theorem State.takeAnswer_same (line : Bus) (u : UnitId) (a : AnswerContent) :
    SameBut [.rooms, .accounts, .units, .grants, .ajar, .sessions, .tallies, .buses, .gates, .log, .ports] s
      (s.takeAnswer line u a) := by
  have reported : SameBut [.rooms, .accounts, .units, .grants, .ajar, .sessions, .tallies, .log, .ports] s
      ((s.setUnit u { s.units[u] with expected := some a.bit, lastStatus := some a.status }).reports u a.reports) :=
    (s.setUnit_same u _).andThen (State.reports_same _ u _)
  simp only [State.takeAnswer]
  split
  · exact reported.andThen (State.settleRota_same _ line)
  · exact (reported.andThen (State.carryOut_same _ u _ _)
      (hs := [.rooms, .accounts, .units, .grants, .ajar, .sessions, .tallies, .gates, .log, .ports])).andThen
      (State.setBus_same _ line _)

/-- A relock that a POLL carried, cleared by its well-formed answer (R85). -/
def State.deliverRelock (u : UnitId) (relock : Bool) : State :=
  if relock then s.setUnit u { s.units[u] with relock := false } else s

theorem State.pollAnswered_eq (line : Bus) (u : UnitId) (relock : Bool) (a : AnswerContent) :
    s.pollAnswered line u relock a
      = if s.units[u].kind = .absent then s.settleRota line
        else if ((s.answered u).deliverRelock u relock).units[u].expected = some a.bit then
          ((s.answered u).deliverRelock u relock).settleRota line
        else ((s.answered u).deliverRelock u relock).takeAnswer line u a := rfl

theorem State.deliverRelock_same (u : UnitId) (relock : Bool) : SameBut [.units] s (s.deliverRelock u relock) := by
  simp only [State.deliverRelock]
  split
  · exact s.setUnit_same u _
  · exact .refl s

theorem State.pollAnswered_same (line : Bus) (u : UnitId) (relock : Bool) (a : AnswerContent) :
    SameBut [.rooms, .accounts, .units, .grants, .ajar, .sessions, .tallies, .buses, .gates, .log, .ports] s
      (s.pollAnswered line u relock a) := by
  have answered := (s.answered_same u).andThen (State.deliverRelock_same _ u relock) (hs := [.units, .log, .ports])
  rw [State.pollAnswered_eq]
  split
  · exact (s.settleRota_same line).mono
  · split
    · exact answered.andThen (State.settleRota_same _ line)
    · exact answered.andThen (State.takeAnswer_same _ line u a)

theorem State.verdictAcked_same (line : Bus) (u : UnitId) (granted : Bool) :
    SameBut [.units, .grants, .buses, .log, .ports] s (s.verdictAcked line u granted) := by
  have acked (x : State) : SameBut [.grants] x (if granted then x.acknowledge u else x) := by
    split
    · exact x.acknowledge_same u
    · exact .refl x
  simp only [State.verdictAcked]
  split
  · exact (s.settleRota_same line).mono
  · exact ((s.answered_same u).andThen (acked _) (hs := [.units, .grants, .log, .ports])).andThen (State.settleRota_same _ line)

theorem frameClosed_same (line : Bus) (frame : List Byte) :
    State.SameBut [.rooms, .accounts, .units, .grants, .ajar, .sessions, .tallies, .buses, .gates, .log, .ports] s
      (frameClosed line frame s) := by
  have failed (u : UnitId) (e : FrameCheck) :=
    (s.endFlight_same line).andThen (State.failedReply_same _ line u e)
      (hs := [.rooms, .accounts, .units, .grants, .ajar, .sessions, .tallies, .buses, .gates, .log, .ports])
  simp only [frameClosed, State.pollReply, State.verdictReply]
  repeat' split
  all_goals first
    | exact .refl s
    | exact failed _ _
    | exact (s.endFlight_same line).andThen (State.pollAnswered_same _ line _ _ _)
    | exact (s.endFlight_same line).andThen (State.verdictAcked_same _ line _ _)

/-! ## The line, power and starts -/

theorem evacEdge_same (asserted : Bool) :
    State.SameBut [.units, .grants, .sessions, .tallies, .buses, .gates, .wing, .log, .ports] s (evacEdge asserted s) := by
  simp only [evacEdge]
  repeat' split
  · exact .refl s
  · exact (s.setWing_same _).mono
  · exact (s.setWing_same _).andThen (State.evacRises_same _)
  · exact (s.setWing_same _).andThen (State.evacFalls_same _)

theorem assertReset_same : State.SameBut [.phase, .buses, .ports] s (assertReset s) := by
  simp only [assertReset]
  split
  · exact .refl s
  · intro f hf; cases f <;> simp_all [State.Agree, State.abandonTransactions]

theorem mainPowerFall_same :
    State.SameBut [.phase, .claims, .units, .grants, .ajar, .sessions, .buses, .gates, .log, .ports] s (mainPowerFall s) := by
  simp only [mainPowerFall]
  split
  · exact .refl s
  · intro f hf; cases f <;> simp_all [State.Agree, State.loseVolatile]

theorem retentionLost_same : State.SameBut [.supply] s (retentionLost s) := by
  simp only [retentionLost]
  split
  · intro f hf; cases f <;> simp_all [State.Agree]
  · exact .refl s

theorem beginWarm_same :
    State.SameBut [.phase, .supply, .rooms, .claims, .units, .grants, .ajar, .sessions, .buses, .gates, .wing, .log, .ports] s
      (beginWarm s) := by
  intro f hf
  cases f with
  | schedule => rfl
  | _ => simp_all [State.Agree, beginWarm, State.loseVolatile, State.forgetAllPrivacy, State.sampleEvac]

theorem beginCold_same :
    State.SameBut [.phase, .supply, .tallies, .clock, .rooms, .claims, .accounts, .prices, .reserve, .table, .units, .grants, .ajar,
      .sessions, .buses, .decision, .gates, .wing, .log, .ports, .generations, .clockSet, .site, .conditions, .entrances, .shifts,
      .schedule] s (beginCold s) := by
  intro f hf
  cases f with
  | pending => rfl
  | _ => simp at hf

theorem State.commitStart_same (x : Start) : SameBut [.phase, .supply, .tallies, .wing, .log] s (s.commitStart x) := by
  intro f hf
  cases x <;> cases f <;> simp_all [State.Agree, State.commitStart]

theorem State.takeLineDifference_same :
    SameBut [.units, .grants, .sessions, .tallies, .buses, .gates, .wing, .log, .ports] s s.takeLineDifference := by
  simp only [State.takeLineDifference]
  repeat' split
  · exact .refl s
  · exact s.evacRises_same
  · exact s.evacFalls_same.mono

theorem endStart_same :
    State.SameBut [.phase, .supply, .units, .grants, .sessions, .tallies, .buses, .gates, .wing, .log, .ports] s (endStart s) := by
  simp only [endStart]
  split
  · exact (s.commitStart_same _).andThen (State.takeLineDifference_same _)
  · exact .refl s

end

/-- The fields an event may touch; a cold start touches all but the queue. -/
def touchedByEvent : Instr → List Field
  | .secondTick | .crystalCycle => [.clock, .claims, .units, .grants, .ajar, .sessions, .tallies, .gates, .log, .ports]
  | .claimLeaseExpiry _ => [.claims, .ports]
  | .pendingGrantExpiry _ => [.grants, .sessions, .tallies, .log, .ports]
  | .ajarTimerExpiry _ => [.units, .ajar, .log, .ports]
  | .minibarSessionExpiry _ => [.sessions, .tallies, .log, .ports]
  | .gatePulseExpiry _ => [.gates]
  | .supervisionTimerExpiry _ => [.claims, .log, .ports]
  | .rspByteReceived _ | .responseTransaction _ _ => [.ports]
  | .mode _ | .poll _ | .verdict _ => [.buses]
  | .pollTimeout _ | .verdictTimeout _ => [.units, .buses, .log, .ports]
  | .answer _ _ | .ack _ _ =>
    [.rooms, .accounts, .units, .grants, .ajar, .sessions, .tallies, .buses, .gates, .log, .ports]
  | .evacRisingEdge | .evacFallingEdge => [.units, .grants, .sessions, .tallies, .buses, .gates, .wing, .log, .ports]
  | .rstAsserted => [.phase, .buses, .ports]
  | .mainPowerFall => [.phase, .claims, .units, .grants, .ajar, .sessions, .buses, .gates, .log, .ports]
  | .retentionLost => [.supply]
  | .warmStart => [.phase, .supply, .rooms, .claims, .units, .grants, .ajar, .sessions, .buses, .gates, .wing, .log, .ports]
  | .coldStart =>
    [.phase, .supply, .tallies, .clock, .rooms, .claims, .accounts, .prices, .reserve, .table, .units, .grants, .ajar, .sessions,
     .buses, .decision, .gates, .wing, .log, .ports, .generations, .clockSet, .site, .conditions, .entrances, .shifts, .schedule]
  | .startEnd => [.phase, .supply, .units, .grants, .sessions, .tallies, .buses, .gates, .wing, .log, .ports]
  | _ => []

theorem eventOf_same (c : Instr) (s : State) : State.SameBut (touchedByEvent c) s (eventOf c s) := by
  cases c with
  | secondTick => exact secondTick_same s
  | crystalCycle => exact crystalCycle_same s
  | claimLeaseExpiry i => exact expireLease_same s i
  | pendingGrantExpiry u => exact expireGrant_same s u
  | ajarTimerExpiry u => exact expireAjar_same s u
  | minibarSessionExpiry u => exact expireSession_same s u
  | gatePulseExpiry g => exact expirePulse_same s g
  | supervisionTimerExpiry p => exact expireSupervision_same s p
  | rspByteReceived p => exact rspByteReceived_same s p
  | responseTransaction p n => exact responseTransaction_same s p n
  | mode line => exact sendMode_same s line
  | poll line => exact sendPoll_same s line
  | verdict line => exact sendVerdict_same s line
  | pollTimeout line => exact pollTimeout_same s line
  | verdictTimeout line => exact verdictTimeout_same s line
  | answer line frame => exact frameClosed_same s line frame
  | ack line frame => exact frameClosed_same s line frame
  | evacRisingEdge => exact evacEdge_same s true
  | evacFallingEdge => exact evacEdge_same s false
  | rstAsserted => exact assertReset_same s
  | mainPowerFall => exact mainPowerFall_same s
  | retentionLost => exact retentionLost_same s
  | warmStart =>
    show State.SameBut _ s (if s.power.latch then s else beginWarm s)
    split
    · exact .refl s
    · exact beginWarm_same s
  | coldStart =>
    show State.SameBut _ s (if s.power.latch then beginCold s else s)
    by_cases lost : s.power.latch = true
    · rw [if_pos lost]
      exact beginCold_same s
    · rw [if_neg lost]
      exact .refl s
  | startEnd => exact endStart_same s
  | _ => exact .refl s

end Sys2Proof.Machine
end

section
/-! What a step can do, said once: the request it carries is discarded, refused or carried out by its rule, and any other command
is an event. From it the principle by which a property is kept by every step. -/

namespace Sys2Proof.Machine

-- One theorem at a time: each check by the kernel then needs one stack.
set_option Elab.async false

open Sys2Proof

/-! ## The request a command carries -/

/-- A command carries a request: it is that request, or a BAD_REQUEST whose bytes hold it (log entry 14). -/
inductive Carries (c i : Instr) : Prop where
  | own : c = i → Carries c i
  | bytes (p : Port) (bytes : List Byte) : c = .badRequest p bytes → examine p bytes = .request i → Carries c i

theorem readBody_request (p : Port) (body : List Byte) (r : Request) :
    ∃ sent, (readBody p body r).request? = some (p, r, sent) := by
  cases r <;> exact ⟨_, rfl⟩

/-- Bytes that make a request are REQ, its code, its length and a body of that length. -/
theorem examineRequest_eq_request {p : Port} {rest : List Byte} {i : Instr} (h : examineRequest p rest = .request i) :
    ∃ code length body r, rest = code :: length :: body ∧ body.length = length.toNat ∧ length.toNat = r.bodyLength
      ∧ Request.ofCode? code.toNat = some r ∧ i = readBody p body r := by
  match rest with
  | [] | [_] => cases h
  | code :: length :: body =>
    simp only [examineRequest] at h
    split at h
    · cases h
    · rename_i fits
      split at h
      · cases h
      · rename_i r known
        split at h
        · cases h
        · rename_i sized
          cases h
          exact ⟨code, length, body, r, rfl, by omega, by omega, known, rfl⟩

theorem examine_eq_request {p : Port} {bytes : List Byte} {i : Instr} (h : examine p bytes = .request i) :
    ∃ rest, bytes = reqByte :: rest ∧ examineRequest p rest = .request i := by
  match bytes with
  | [] => cases h
  | first :: rest =>
    simp only [examine] at h
    split at h
    · rename_i req
      exact ⟨rest, by rw [req], h⟩
    · split at h <;> cases h

theorem request_of_examine {p : Port} {bytes : List Byte} {i : Instr} (h : examine p bytes = .request i) :
    ∃ r body, i.request? = some (p, r, body) := by
  obtain ⟨rest, -, h⟩ := examine_eq_request h
  obtain ⟨_, _, body, r, -, -, -, -, rfl⟩ := examineRequest_eq_request h
  exact ⟨r, readBody_request p body r⟩

theorem carryRequest_eq_exec {i : Instr} {p : Port} {rq : Request} {body : List Byte} (request : i.request? = some (p, rq, body))
    (s : State) : carryRequest i s = exec i s := by
  cases i <;> cases request <;> rfl

theorem Carries.carriedRequest_eq {c i : Instr} {p : Port} {rq : Request} {body : List Byte} (h : Carries c i)
    (request : i.request? = some (p, rq, body)) : carriedRequest c = some rq := by
  cases h with
  | own own =>
    subst own
    cases c <;> cases request <;> rfl
  | bytes q bytes bad held => simp [bad, carriedRequest, held, request]

/-! ## The outcomes of a command -/

/-- A command is a request transaction, a transaction that fails its checks, or an event. -/
theorem exec_cases {c : Instr} {s t : State} (h : exec c s = .next t) :
    (∃ i p rq body, Carries c i ∧ i.request? = some (p, rq, body) ∧ t = s.takeRequest rq p (ruleOf i))
    ∨ (∃ p n st, t = takeBad p n st s) ∨ (c.request? = none ∧ t = eventOf c s) := by
  by_cases bytes : ∃ p b, c = .badRequest p b
  · obtain ⟨p, b, rfl⟩ := bytes
    have h : execBadRequest p b s = .next t := h
    simp only [execBadRequest] at h
    split at h
    · cases h
      exact .inr (.inl ⟨p, _, _, rfl⟩)
    · rename_i i held
      obtain ⟨rq, body, request⟩ := request_of_examine held
      rw [carryRequest_eq_exec request, exec_eq_takeRequest request] at h
      cases h
      exact .inl ⟨i, p, rq, body, .bytes p b rfl held, request, rfl⟩
    · cases h
      exact .inr (.inr ⟨rfl, rfl⟩)
    · cases h
      exact .inr (.inr ⟨rfl, rfl⟩)
  · cases request : c.request? with
    | none =>
      rw [exec_eq_eventOf request fun p b same => bytes ⟨p, b, same⟩] at h
      cases h
      exact .inr (.inr ⟨rfl, rfl⟩)
    | some x =>
      obtain ⟨p, rq, body⟩ := x
      rw [exec_eq_takeRequest request] at h
      cases h
      exact .inl ⟨c, p, rq, body, .own rfl, request, rfl⟩

theorem State.portCheck_eq_none_iff (s : State) (rq : Request) (p : Port) :
    s.portCheck rq p = none ↔ rq.permitted p = true ∧ ((s.port p).linkLost = true → rq.takenWhenLost = true) := by
  unfold State.portCheck
  cases rq.permitted p <;> cases (s.port p).linkLost <;> cases rq.takenWhenLost <;> simp

/-- A request transaction is not taken, discarded, refused by the port's checks, or answered by the request's rule. -/
theorem State.takeRequest_cases (s : State) (rq : Request) (p : Port) (rule : State → Reply) :
    s.takeRequest rq p rule = s
    ∨ s.takeRequest rq p rule = (s.sendZeros p (2 + rq.bodyLength)).overrun p
    ∨ (∃ st, s.takeRequest rq p rule = (s.sendZeros p (2 + rq.bodyLength)).respond p { status := st, body := [] })
    ∨ ((s.sendZeros p (2 + rq.bodyLength)).Ready rq p
      ∧ s.takeRequest rq p rule
        = (rule (s.sendZeros p (2 + rq.bodyLength))).1.respond p (rule (s.sendZeros p (2 + rq.bodyLength))).2) := by
  by_cases running : s.running = true
  · by_cases full : (s.port p).slot.isSome = true
    · exact .inr (.inl (by simp [State.takeRequest, running, full]))
    · have answered : s.takeRequest rq p rule = (s.sendZeros p (2 + rq.bodyLength)).answerRequest rq p rule := by
        simp [State.takeRequest, running, full]
      rw [answered, State.answerRequest]
      split
      · exact .inr (.inr (.inl ⟨_, rfl⟩))
      · rename_i passed
        refine .inr (.inr (.inr ⟨?_, rfl⟩))
        obtain ⟨allowed, taken⟩ := (State.portCheck_eq_none_iff _ rq p).mp passed
        exact ⟨by simpa [State.sendZeros] using running, by simpa [State.sendZeros] using full, allowed, taken⟩
  · exact .inl (by simp [State.takeRequest, running])

/-! ## Properties kept by every step -/

/-- A property that neither the bytes sent, nor OVERRUN, nor a response placed can break. -/
structure RequestFree (P : State → Prop) : Prop where
  zeros : ∀ s p n, P s → P (s.sendZeros p n)
  overrun : ∀ s p, P s → P (s.overrun p)
  respond : ∀ s p r, P s → P (s.respond p r)

/-- A property is kept by a command if the rules of the request it carries keep it, and the event it is keeps it. -/
theorem exec_keeps {P : State → Prop} (free : RequestFree P) {c : Instr} {s t : State} (h : exec c s = .next t) (hs : P s)
    (rules : ∀ i p rq body, Carries c i → i.request? = some (p, rq, body) → ∀ x, x.Ready rq p → P x → P (ruleOf i x).1)
    (events : c.request? = none → P (eventOf c s)) : P t := by
  rcases exec_cases h with ⟨i, p, rq, body, carries, request, rfl⟩ | ⟨p, n, st, rfl⟩ | ⟨event, rfl⟩
  · have sent := free.zeros s p (2 + rq.bodyLength) hs
    rcases s.takeRequest_cases rq p (ruleOf i) with eq | eq | ⟨st, eq⟩ | ⟨ready, eq⟩ <;> rw [eq]
    · exact hs
    · exact free.overrun _ _ sent
    · exact free.respond _ _ _ sent
    · exact free.respond _ _ _ (rules i p rq body carries request _ ready sent)
  · have sent := free.zeros s p n hs
    simp only [takeBad]
    split
    · exact hs
    · split
      · exact free.overrun _ _ sent
      · exact free.respond _ _ _ sent
  · exact events event

/-- A property depends on these fields alone. -/
def DependsOn (fields : List Field) (P : State → Prop) : Prop := ∀ s t, (∀ f ∈ fields, s.Agree t f) → P s → P t

theorem DependsOn.of_same {fields touched : List Field} {P : State → Prop} (dep : DependsOn fields P) {s t : State}
    (same : State.SameBut touched s t) (hs : P s) (other : apart fields touched = true := by rfl) : P t :=
  dep s t (fun f hf => same f (apart_iff.mp other f hf)) hs

theorem DependsOn.requestFree {fields : List Field} {P : State → Prop} (dep : DependsOn fields P) (noPorts : apart fields [.ports] = true) :
    RequestFree P := by
  have kept {s t : State} (same : State.SameBut [.ports] s t) (hs : P s) : P t :=
    dep.of_same same hs noPorts
  exact ⟨fun s p n => kept (s.sendZeros_same p n), fun s p => kept (s.setPort_same p _), fun s p r => kept (s.respond_same p r)⟩

/-- A property is kept by every step if the commands that touch its fields keep it. -/
theorem step_keeps_of {fields : List Field} {P : State → Prop} (dep : DependsOn fields P) (noQueue : apart fields [.pending] = true)
    (free : RequestFree P)
    (rules : ∀ i p rq body, i.request? = some (p, rq, body) → apart fields (touchedBy rq) = false →
      ∀ x, x.Ready rq p → P x → P (ruleOf i x).1)
    (events : ∀ c x, apart fields (touchedByEvent c) = false → P x → P (eventOf c x)) :
    ∀ s t, P s → step s = .next t → P t := by
  intro s t hs h
  match front : s.pending with
  | [] =>
    simp only [step, front] at h
    cases h
    exact hs
  | c :: rest =>
    simp only [step, front] at h
    have hs : P { s with pending := rest } := by
      refine dep s _ (fun f hf => ?_) hs
      cases f with
      | pending => exact absurd (List.mem_singleton_self _) (apart_iff.mp noQueue _ hf)
      | _ => simp [State.Agree]
    refine exec_keeps free h hs (fun i p rq body _ request x ready hx => ?_) fun _ => ?_
    · cases touched : apart fields (touchedBy rq) with
      | false => exact rules i p rq body request touched x ready hx
      | true => exact dep.of_same (ruleOf_same request x) hx touched
    · cases touched : apart fields (touchedByEvent c) with
      | false => exact events c _ touched hs
      | true => exact dep.of_same (eventOf_same c _) hs touched

/-- A property of fields apart from the ports is kept by every step if the commands that touch its fields keep it. -/
theorem step_keeps {fields : List Field} {P : State → Prop} (dep : DependsOn fields P)
    (rules : ∀ i p rq body, i.request? = some (p, rq, body) → apart fields (touchedBy rq) = false →
      ∀ x, x.Ready rq p → P x → P (ruleOf i x).1)
    (events : ∀ c x, apart fields (touchedByEvent c) = false → P x → P (eventOf c x))
    (noQueue : apart fields [.pending] = true := by rfl) (noPorts : apart fields [.ports] = true := by rfl) :
    ∀ s t, P s → step s = .next t → P t :=
  step_keeps_of dep noQueue (dep.requestFree noPorts) rules events

end Sys2Proof.Machine
end

section
/-! Principles for the commands that are made of many operations: what each of the operations keeps, the command keeps. -/

namespace Sys2Proof.Machine

-- One theorem at a time: each check by the kernel then needs one stack.
set_option Elab.async false

open Sys2Proof

/-! ## A claimed request (R24, R34) -/

/-- What the rule of a claimed request keeps, with the lease loaded after it, the request keeps. -/
theorem claimed_keeps {P : State → Prop} {p : Port} {slot : Byte} {ok : Bool} {rule : Slot → State → Reply} {s : State} (hs : P s)
    (own : ∀ i, slotOf? slot = some i → ok = true → s.holder i = some p → P (rule i s).1)
    (lease : ∀ i, P (rule i s).1 → P ((rule i s).1.loadLease i p)) : P (claimed p slot ok rule s).1 := by
  simp only [claimed]
  split
  · exact hs
  · rename_i i named
    split
    · exact hs
    · rename_i fields
      split
      · exact hs
      · rename_i mine
        have kept := own i named (by simpa using fields) (not_not.mp mine)
        unfold renewing
        split
        · exact lease i kept
        · exact kept

/-! ## The kind of a unit -/

theorem State.getElem_setUnit (s : State) (u v : UnitId) (r : UnitRec) :
    (s.setUnit u r).units[v] = if u = v then r else s.units[v] := by
  simp [Vector.getElem_set, Fin.ext_iff]

/-- Every unit has the kind it had. -/
def State.SameKinds (s t : State) : Prop := ∀ v : UnitId, t.units[v].kind = s.units[v].kind

theorem State.SameKinds.trans {s t x : State} (h : s.SameKinds t) (k : t.SameKinds x) : s.SameKinds x :=
  fun v => (k v).trans (h v)

theorem State.SameBut.sameKinds {touched : List Field} {s t : State} (h : SameBut touched s t)
    (other : apart [.units] touched = true := by rfl) : s.SameKinds t :=
  fun v => congrArg (fun units : Vector UnitRec 240 => units[v].kind) (h.agree .units other)

/-- A unit record that takes the place of one of its own kind leaves every unit its kind. -/
theorem State.setUnit_kinds {s : State} {u : UnitId} {r : UnitRec} (same : r.kind = s.units[u].kind) :
    s.SameKinds (s.setUnit u r) := by
  intro v
  rw [s.getElem_setUnit]
  split
  · rename_i eq
    rw [same, eq]
  · rfl

section
variable (s : State) (u : UnitId)

theorem State.answered_kinds : s.SameKinds (s.answered u) := by
  have stored : s.SameKinds (s.setUnit u { s.units[u] with misses := 0, link := .online }) := State.setUnit_kinds rfl
  simp only [State.answered]
  split
  · exact stored.trans ((State.appendUnit_same _ u _ _).andThen (State.raise_same _ _ _) (hs := [.log, .ports])).sameKinds
  · exact stored

theorem State.deliverRelock_kinds (relock : Bool) : s.SameKinds (s.deliverRelock u relock) := by
  simp only [State.deliverRelock]
  split
  · exact State.setUnit_kinds rfl
  · exact fun _ => rfl

theorem State.setRelock_kinds : s.SameKinds (s.setRelock u) := State.setUnit_kinds rfl

theorem State.entranceOpened_kinds : s.SameKinds (s.entranceOpened u) :=
  fun v => State.setUnit_kinds (r := { s.units[u] with entrance := .opened }) rfl v

theorem State.decideOpened_kinds (released : Bool) : s.SameKinds (s.decideOpened u released) := by
  simp only [State.decideOpened]
  refine State.SameKinds.trans (State.SameBut.sameKinds (touched := [.grants, .tallies, .log, .ports]) ?_)
    (State.entranceOpened_kinds _ u)
  repeat' split
  · exact s.concludeGrant_same u _
  · exact (s.appendUnit_same u _ _).mono
  · exact (s.appendUnit_same u _ _).andThen (State.raise_same _ _ _)

theorem State.decideClosed_kinds : s.SameKinds (s.decideClosed u) :=
  fun v => State.setUnit_kinds (r := { s.units[u] with entrance := .closed }) rfl v

theorem State.tamper_kinds : s.SameKinds (s.tamper u) := by
  have marked : s.SameKinds (s.setUnit u { s.units[u] with quarantined := true }) := State.setUnit_kinds rfl
  exact ((marked.trans ((State.concludeGrant_same _ u _).andThen (State.endSession_same _ u _)
    (hs := [.grants, .sessions, .tallies, .log, .ports])).sameKinds).trans (State.setRelock_kinds _ u)).trans
    ((State.appendUnit_same _ u _ _).andThen (State.raise_same _ _ _) (hs := [.log, .ports])).sameKinds

/-- No report changes the kind of a unit. -/
theorem State.report_kinds (r : Report) : s.SameKinds (s.report u r) := by
  simp only [State.report]
  split
  · exact s.decideOpened_kinds u _
  · exact s.decideOpened_kinds u _
  · exact (s.decideOpened_kinds u _).trans (State.sessionOpened_same _ u).sameKinds
  · exact s.decideClosed_kinds u
  · exact s.decideClosed_kinds u
  · exact (s.decideClosed_kinds u).trans (State.sessionClosed_same _ u).sameKinds
  · exact (s.setPrivacy_same _ _).sameKinds
  · exact (s.setPrivacy_same _ _).sameKinds
  · exact fun _ => rfl
  · exact s.tamper_kinds u
  · exact (s.reportItems_same u _ _ _ _).sameKinds
  · exact fun _ => rfl

theorem State.reports_kinds (rs : List Report) : s.SameKinds (s.reports u rs) := by
  induction rs generalizing s with
  | nil => exact fun _ => rfl
  | cons r rs ih => exact (s.report_kinds u r).trans (ih _)

end

/-! ## A frame closed (R70, R81 to R86, R114) -/

theorem State.answered_link (s : State) (u : UnitId) : (s.answered u).units[u].link = .online := by
  simp only [State.answered]
  split <;> simp [State.appendUnit]

theorem State.deliverRelock_link (s : State) (u : UnitId) (relock : Bool) :
    (s.deliverRelock u relock).units[u].link = s.units[u].link := by
  simp only [State.deliverRelock]
  split <;> simp

/-- The operations a frame can bring about, each of which keeps a property. -/
structure FrameKeeps (P : State → Prop) : Prop where
  bus : ∀ x line c, P x → P (x.setBus line c)
  miss : ∀ x u, P x → P (x.miss u)
  answered : ∀ x u, x.units[u].kind ≠ .absent → P x → P (x.answered u)
  relock : ∀ x u b, x.units[u].kind ≠ .absent → P x → P (x.deliverRelock u b)
  acknowledge : ∀ x u, x.units[u].kind ≠ .absent → P x → P (x.acknowledge u)
  take : ∀ x u bit status, x.units[u].kind ≠ .absent → x.units[u].link = .online → P x →
    P (x.setUnit u { x.units[u] with expected := some bit, lastStatus := some status })
  report : ∀ x u r, x.units[u].kind ≠ .absent → P x → P (x.report u r)
  present : ∀ x u side image, x.units[u].kind ≠ .absent → P x → P (x.present u side image).1

section
variable {P : State → Prop} (keeps : FrameKeeps P) {s : State} {u : UnitId}
include keeps

theorem FrameKeeps.reports (rs : List Report) (present : s.units[u].kind ≠ .absent) (hs : P s) : P (s.reports u rs) := by
  induction rs generalizing s with
  | nil => exact hs
  | cons r rs ih =>
    refine ih (s := s.report u r) ?_ (keeps.report s u r present hs)
    rwa [s.report_kinds u r]

theorem FrameKeeps.takeAnswer (line : Bus) (a : AnswerContent) (present : s.units[u].kind ≠ .absent)
    (online : s.units[u].link = .online) (hs : P s) : P (s.takeAnswer line u a) := by
  have taken := keeps.take s u a.bit a.status present online hs
  have kind : (s.setUnit u { s.units[u] with expected := some a.bit, lastStatus := some a.status }).units[u].kind ≠ .absent := by
    rwa [State.setUnit_kinds (by rfl)]
  have reported := keeps.reports a.reports kind taken
  simp only [State.takeAnswer]
  split
  · exact keeps.bus _ _ _ reported
  · exact keeps.bus _ _ _ (keeps.present _ u _ _ (by rwa [State.reports_kinds]) reported)

theorem FrameKeeps.pollAnswered (line : Bus) (relock : Bool) (a : AnswerContent) (hs : P s) :
    P (s.pollAnswered line u relock a) := by
  rw [State.pollAnswered_eq]
  split
  · exact keeps.bus _ _ _ hs
  · rename_i present
    have kind : (s.answered u).units[u].kind ≠ .absent := by rwa [s.answered_kinds]
    have cleared := keeps.relock _ u relock kind (keeps.answered s u present hs)
    split
    · exact keeps.bus _ _ _ cleared
    · exact keeps.takeAnswer line a (by rwa [State.deliverRelock_kinds]) (by rw [State.deliverRelock_link, s.answered_link]) cleared

theorem FrameKeeps.verdictAcked (line : Bus) (granted : Bool) (hs : P s) : P (s.verdictAcked line u granted) := by
  simp only [State.verdictAcked]
  split
  · exact keeps.bus _ _ _ hs
  · rename_i present
    have answered := keeps.answered s u present hs
    refine keeps.bus _ _ _ ?_
    split
    · exact keeps.acknowledge _ u (by rwa [s.answered_kinds]) answered
    · exact answered

theorem FrameKeeps.countError (line : Bus) (e : FrameCheck) (hs : P s) : P (s.countError line e) := by
  cases e with
  | wellFormed payload => exact hs
  | _ => exact keeps.bus _ _ _ hs

theorem FrameKeeps.failedReply (line : Bus) (e : FrameCheck) (hs : P s) : P (s.failedReply line u e) :=
  keeps.bus _ _ _ (keeps.miss _ u (keeps.countError line e hs))

/-- What every operation of a frame keeps, a frame closed keeps. -/
theorem FrameKeeps.frameClosed (line : Bus) (frame : List Byte) (hs : P s) : P (frameClosed line frame s) := by
  have ended : P (s.endFlight line) := keeps.bus _ _ _ hs
  simp only [Machine.frameClosed, State.pollReply, State.verdictReply]
  repeat' split
  all_goals first
    | exact hs
    | exact keeps.failedReply line _ ended
    | exact keeps.pollAnswered line _ _ ended
    | exact keeps.verdictAcked line _ ended

theorem FrameKeeps.timedOut (line : Bus) (u : UnitId) (hs : P s) : P (s.timedOut line u) :=
  keeps.bus _ _ _ (keeps.miss _ u (keeps.bus _ _ _ (keeps.bus _ _ _ hs)))

theorem FrameKeeps.pollTimeout (line : Bus) (hs : P s) : P (pollTimeout line s) := by
  simp only [Machine.pollTimeout]
  repeat' split
  all_goals first | exact hs | exact keeps.timedOut line _ hs

theorem FrameKeeps.verdictTimeout (line : Bus) (hs : P s) : P (verdictTimeout line s) := by
  simp only [Machine.verdictTimeout]
  repeat' split
  all_goals first | exact hs | exact keeps.timedOut line _ hs

end

/-- A property of fields that only reports and presentations touch is kept by every frame if those keep it. -/
theorem DependsOn.frameKeeps {fields : List Field} {P : State → Prop} (dep : DependsOn fields P)
    (report : ∀ x u r, P x → P (State.report x u r)) (present : ∀ x u side image, P x → P (State.present x u side image).1)
    (other : apart fields [.units, .grants, .buses, .log, .ports] = true := by rfl) : FrameKeeps P := by
  have kept {touched : List Field} {s t : State} (same : State.SameBut touched s t)
      (hs : P s) (sub : within touched [.units, .grants, .buses, .log, .ports] = true := by rfl) : P t :=
    dep.of_same (same.mono sub) hs other
  exact {
    bus := fun x line c => (kept (x.setBus_same line c) ·)
    miss := fun x u => (kept (x.miss_same u) ·)
    answered := fun x u _ => (kept (x.answered_same u) ·)
    relock := fun x u b _ => (kept (x.deliverRelock_same u b) ·)
    acknowledge := fun x u _ => (kept (x.acknowledge_same u) ·)
    take := fun x u _ _ _ _ => (kept (x.setUnit_same u _) ·)
    report := fun x u r _ => report x u r
    present := fun x u side image _ => present x u side image }

end Sys2Proof.Machine
end

section
/-! The accounts stay balanced in every step (R128): the requests that set an account, and an ITEMS report's charge and credit. -/

namespace Sys2Proof.Machine

-- One theorem at a time: each check by the kernel then needs one stack.
set_option Elab.async false

open Sys2Proof

theorem AccountInv.dependsOn : DependsOn [.accounts] AccountInv := fun s t same inv i => by
  rw [show t.accounts = s.accounts from same .accounts (List.mem_singleton_self _)]
  exact inv i

theorem AccountInv.of_same {touched : List Field} {s t : State} (inv : AccountInv s) (same : State.SameBut touched s t)
    (other : apart [.accounts] touched = true := by rfl) : AccountInv t :=
  AccountInv.dependsOn.of_same same inv other

theorem AccountInv.setAccount {s : State} (inv : AccountInv s) (i : Slot) {a : Account} (balanced : a.Balanced) :
    AccountInv (s.setAccount i a) := by
  intro j
  simp only [State.setAccount_accounts, Fin.getElem_fin, Vector.getElem_set]
  split
  · exact balanced
  · exact inv j

/-! ## Single accounts -/

theorem Account.Balanced.withTally {a : Account} (balanced : a.Balanced) (item : Fin 12) {n : Nat} (le : n ≤ 255) :
    ({ a with tally := a.tally.set item n } : Account).Balanced := by
  obtain ⟨granted, remaining, overdraft, charge, tally, balance⟩ := balanced
  refine ⟨granted, remaining, overdraft, charge, fun k => ?_, balance⟩
  simp only [Fin.getElem_fin, Vector.getElem_set]
  split
  · exact le
  · exact tally k

theorem itemsUp_le {n : Nat} (le : n ≤ 255) (r : Nat) : itemsUp n r ≤ 255 := by
  unfold itemsUp
  split
  · exact le
  · exact Nat.min_le_left _ _

theorem Account.Balanced.removeItems {a : Account} (balanced : a.Balanced) (price : Nat) (item : Fin 12) (removed : Nat) :
    (a.removeItems price item removed).Balanced := by
  have tally : itemsUp a.tally[item] removed ≤ 255 := itemsUp_le (balanced.2.2.2.2.1 item) removed
  have charged := (balanced.applyCharge (price * removed)).withTally item tally
  rwa [Account.applyCharge_tally] at charged

theorem Account.Balanced.returnItems {a : Account} (balanced : a.Balanced) (price : Nat) (item : Fin 12) (credited : Nat) :
    (a.returnItems price item credited).Balanced := by
  have tally : a.tally[item] - credited ≤ 255 := (Nat.sub_le _ _).trans (balanced.2.2.2.2.1 item)
  have settled := (balanced.applyCredit (price * credited)).withTally item tally
  rwa [Account.applyCredit_tally] at settled

/-- A settled account takes an allowance: with no charge there is no overdraft either (R131). -/
theorem Account.Balanced.opened {a : Account} (balanced : a.Balanced) (settled : a.charge = 0) (allowance : Nat) :
    (a.open (clamp 0 Config.allowanceCeiling allowance)).Balanced := by
  obtain ⟨granted, remaining, overdraft, charge, tally, balance⟩ := balanced
  have ceiling : clamp 0 Config.allowanceCeiling allowance ≤ 999999 := by simp [clamp, Config.allowanceCeiling]
  exact ⟨ceiling, le_refl _, overdraft, charge, tally, fun _ => by simp only [Account.open]; omega⟩

theorem Account.Balanced.settle {a : Account} (balanced : a.Balanced) (interim : Bool) : (a.settle interim).Balanced := by
  obtain ⟨granted, -, -, -, -, -⟩ := balanced
  cases interim <;> simp [Account.settle, Account.Balanced, granted]

theorem Account.Balanced.cold : Account.cold.Balanced := of_decide_eq_true rfl

/-! ## The requests -/

theorem AccountInv.lease {s : State} {p : Port} (inv : AccountInv s) (i : Slot) : AccountInv (s.loadLease i p) :=
  inv.of_same (s.loadLease_same i p)

theorem AccountInv.checkInRoom {s : State} {i : Slot} (inv : AccountInv s) (settled : s.accounts[i].charge = 0) (p : Port)
    (number : Nat) (cls : Fin 8) (n : Nat) (stay : Stay) (allowance : Nat) :
    AccountInv (checkInRoom p i number cls n stay allowance s).1 := by
  have opened : AccountInv ((s.setRoom i { s.rooms[i] with
      generation := (s.rooms[i].generation + 1) % 256, occupancy := .letTo number stay }).setAccount i
      (s.accounts[i].open (clamp 0 Config.allowanceCeiling allowance))) :=
    (inv.of_same (s.setRoom_same i _)).setAccount i ((inv i).opened settled allowance)
  exact opened.of_same (((State.issueBatch_same _ p i cls stay.window n).andThen (State.append_same _ _ _ _ _)
    (hs := [.rooms, .table, .log, .ports])).andThen (logIssues_same _ p _ _) (hs := [.rooms, .table, .log, .ports]))

theorem AccountInv.checkIn {s : State} (inv : AccountInv s) (p : Port) (slot cls count : Byte) (arrival departure : DayMinute)
    (allowance : Triple) : AccountInv (checkIn p slot cls count arrival departure allowance s).1 := by
  refine claimed_keeps inv (fun i _ _ _ => ?_) fun i kept => kept.lease i
  split
  · rename_i number _
    split
    · exact inv
    · rename_i settled
      have noCharge : s.accounts[i].charge = 0 := by
        by_contra owing
        exact settled ((s.unsettled_iff i).mpr (.inl owing))
      repeat' split
      all_goals first | exact inv | exact inv.checkInRoom noCharge p _ _ _ _ _
  · exact inv

theorem AccountInv.checkOut {s : State} (inv : AccountInv s) (p : Port) (slot : Byte) : AccountInv (checkOut p slot s).1 := by
  refine claimed_keeps inv (fun i _ _ _ => ?_) fun i kept => kept.lease i
  split
  · rename_i number _ _
    have vacated := (inv.of_same ((s.setTable_same (s.table.revokeAll (s.table.liveOf i))).andThen
      (State.setRoom_same _ i { s.rooms[i] with occupancy := .vacant number }) (hs := [.rooms, .generations, .table, .site]))).setAccount i
      (a := { s.accounts[i] with blocked := true }) (inv i)
    exact vacated.of_same (((State.append_same _ _ _ _ _).trans (logRevokes_same _ p _)).andThen
      (State.endRoomSession_same _ i) (hs := [.units, .sessions, .tallies, .log, .ports]))
  · exact inv

theorem AccountInv.settle {s : State} (inv : AccountInv s) (p : Port) (slot : Byte) : AccountInv (settle p slot s).1 := by
  have settled (i : Slot) (interim : Bool) : AccountInv (settleRoom p i interim s).1 :=
    (inv.setAccount i ((inv i).settle interim)).of_same (State.append_same _ _ _ _ _)
  refine claimed_keeps inv (fun i _ _ _ => ?_) fun i kept => kept.lease i
  have unlessOpen (interim : Bool) :
      AccountInv (if s.sessionAt i then refuse .sessionOpen s else settleRoom p i interim s).1 := by
    split
    · exact inv
    · exact settled i interim
  split
  · exact inv
  · exact unlessOpen true
  · exact unlessOpen false
  · exact unlessOpen false

theorem AccountInv.removeRoom {s : State} (inv : AccountInv s) (slot : Byte) : AccountInv (removeRoom slot s).1 := by
  simp only [Machine.removeRoom]
  repeat' split
  all_goals first | exact inv | exact (inv.of_same (s.setRoom_same _ _)).setAccount _ Account.Balanced.cold

/-! ## Reports -/

theorem State.restockItems_same (s : State) (u : UnitId) (x : Session) (item : Fin 12) (removed returned : Nat) :
    SameBut [.log, .ports] s (s.restockItems u x item removed returned) := by
  simp only [State.restockItems]
  split
  · exact s.append_same _ _ _ _
  · exact .refl s

theorem AccountInv.guestItems {s : State} (inv : AccountInv s) (u : UnitId) (x : Session) (item : Fin 12) (removed returned : Nat) :
    AccountInv (s.guestItems u x item removed returned) := by
  have logged (t : State) (cond : Prop) [Decidable cond] (detail : Detail) (ht : AccountInv t) :
      AccountInv (if cond then t.append (.unit u) (some x.card) (some x.slot) detail else t) := by
    split
    · exact ht.of_same (t.append_same _ _ _ _)
    · exact ht
  rw [State.guestItems_eq]
  refine AccountInv.of_same (logged _ _ _ (logged _ _ _ ?_)) (State.raiseOverdraft_same _ _ _)
  exact (inv.setAccount x.slot (((inv x.slot).removeItems _ item removed).returnItems _ item _)).of_same
    (State.setSession_same _ u _)

theorem AccountInv.looseItems {s : State} (inv : AccountInv s) (u : UnitId) (i : Slot) (item : Fin 12) (removed returned : Nat) :
    AccountInv (s.looseItems u i item removed returned) := by
  by_cases counts : 0 < removed ∨ 0 < returned
  · have charged := (inv.setAccount i ((inv i).removeItems s.prices[item] item removed)).of_same
      (State.append_same _ (.unit u) none (some i) (.minibarItem item removed returned 0 (s.prices[item] * removed) 0 false))
    rw [s.looseItems_eq u item removed returned i counts]
    refine AccountInv.of_same ?_ ((State.raise_same _ _ _).trans (State.raiseOverdraft_same _ _ _))
    split
    · exact charged.of_same (State.append_same _ _ _ _ _)
    · exact charged
  · rwa [State.looseItems, if_neg counts]

theorem AccountInv.reportItems {s : State} (inv : AccountInv s) (u : UnitId) (i : Slot) (item : Fin 12) (removed returned : Nat) :
    AccountInv (s.reportItems u i item removed returned) := by
  cases session : s.sessions[u] with
  | none =>
    rw [State.reportItems_noSession session]
    exact inv.looseItems u i item removed returned
  | some x =>
    cases kind : x.kind with
    | guest =>
      rw [State.reportItems_guest session kind]
      exact inv.guestItems u x item removed returned
    | restock =>
      rw [State.reportItems_restock session kind]
      exact inv.of_same (s.restockItems_same u x item removed returned)

theorem AccountInv.report {s : State} (inv : AccountInv s) (u : UnitId) (r : Report) : AccountInv (s.report u r) := by
  simp only [State.report]
  split
  · exact inv.of_same (s.decideOpened_same u _)
  · exact inv.of_same (s.decideOpened_same u _)
  · exact (inv.of_same (s.decideOpened_same u _)).of_same (State.sessionOpened_same _ u)
  · exact inv.of_same (s.decideClosed_same u)
  · exact inv.of_same (s.decideClosed_same u)
  · exact (inv.of_same (s.decideClosed_same u)).of_same (State.sessionClosed_same _ u)
  · exact inv.of_same (s.setPrivacy_same _ _)
  · exact inv.of_same (s.setPrivacy_same _ _)
  · exact inv
  · exact inv.of_same (s.tamper_same u)
  · exact inv.reportItems u _ _ _ _
  · exact inv

theorem AccountInv.frameKeeps : FrameKeeps AccountInv :=
  AccountInv.dependsOn.frameKeeps (fun _ u r inv => inv.report u r) fun x u side image inv => inv.of_same (x.carryOut_same u side _)

/-! ## Every step -/

theorem AccountInv.rule {i : Instr} {p : Port} {rq : Request} {body : List Byte} (request : i.request? = some (p, rq, body))
    (touched : apart [.accounts] (touchedBy rq) = false) {s : State} (inv : AccountInv s) : AccountInv (ruleOf i s).1 := by
  cases i with
  | checkIn => exact inv.checkIn _ _ _ _ _ _ _
  | checkOut => exact inv.checkOut _ _
  | settle => exact inv.settle _ _
  | removeRoom => exact inv.removeRoom _
  | _ => cases request <;> exact Bool.noConfusion touched

theorem AccountInv.cold (s : State) : AccountInv (beginCold s) := by
  intro i
  have cold : (beginCold s).accounts = Vector.replicate 128 Account.cold := rfl
  rw [cold]
  simpa using Account.Balanced.cold

theorem AccountInv.event (c : Instr) (s : State) (touched : apart [.accounts] (touchedByEvent c) = false) (inv : AccountInv s) :
    AccountInv (eventOf c s) := by
  cases c with
  | answer line frame => exact AccountInv.frameKeeps.frameClosed line frame inv
  | ack line frame => exact AccountInv.frameKeeps.frameClosed line frame inv
  | coldStart =>
    show AccountInv (if s.power.latch then beginCold s else s)
    by_cases lost : s.power.latch = true
    · rw [if_pos lost]
      exact AccountInv.cold s
    · rwa [if_neg lost]
  | _ => exact Bool.noConfusion touched

end Sys2Proof.Machine

open Sys2Proof Sys2Proof.Machine

/-- Settles O54: only four requests, the reports of an answer and a cold start touch an account, and each leaves it balanced. -/
theorem accountInvariantIsKept : Obligations.AccountInvariantIsKept := by
  exact step_keeps AccountInv.dependsOn (fun _ _ _ _ request touched _ _ inv => inv.rule request touched) AccountInv.event

end

section
/-! Records and events: most commands reach the log and the ports by appended records and queued events alone, and keep whatever
those two keep. -/

namespace Sys2Proof.Machine

-- One theorem at a time: each check by the kernel then needs one stack.
set_option Elab.async false

open Sys2Proof

/-- A property of some fields is one of more fields. -/
theorem DependsOn.weaken {fs gs : List Field} {P : State → Prop} (dep : DependsOn fs P) (sub : within fs gs = true := by rfl) :
    DependsOn gs P := fun s t same => dep s t fun f hf => same f (within_iff.mp sub hf)

/-- A property of the log and the ports that neither a queued event nor an appended record can break. -/
structure Telling (P : State → Prop) : Prop where
  dep : DependsOn [.log, .ports] P
  raise : ∀ s p e, P s → P (s.raise p e)
  append : ∀ s source card room detail, P s → P (s.append source card room detail)

/-- What each step of a left fold keeps, the fold keeps. -/
theorem foldl_keeps {α : Type} {P : State → Prop} {op : State → α → State} (each : ∀ x a, P x → P (op x a)) (xs : List α)
    {s : State} (hs : P s) : P (xs.foldl op s) := by
  induction xs generalizing s with
  | nil => exact hs
  | cons a xs ih => exact ih (each s a hs)

section
variable {P : State → Prop} (tell : Telling P) {s : State}
include tell

theorem Telling.of_same {touched : List Field} {t : State} (same : State.SameBut touched s t) (hs : P s)
    (other : apart [.log, .ports] touched = true := by rfl) : P t := tell.dep.of_same same hs other

theorem Telling.appendUnit (u : UnitId) (card : Option Nat) (detail : Detail) (hs : P s) : P (s.appendUnit u card detail) :=
  tell.append s _ _ _ _ hs

theorem Telling.raiseBoth (e : Event) (hs : P s) : P (s.raiseBoth e) := tell.raise _ _ e (tell.raise s _ e hs)

/-! ## Sessions, grants and items -/

theorem Telling.endSession (u : UnitId) (reason : EndReason) (hs : P s) : P (s.endSession u reason) := by
  simp only [State.endSession]
  split
  · exact hs
  · exact tell.append _ _ _ _ _ (tell.of_same ((s.setSession_same u none).andThen (State.setTallies_same _ _ _)
      (hs := [.sessions, .tallies])) hs)

theorem Telling.endSessionRelock (u : UnitId) (reason : EndReason) (hs : P s) : P (s.endSessionRelock u reason) := by
  simp only [State.endSessionRelock]
  split
  · exact tell.endSession u reason (tell.of_same (s.setRelock_same u) hs)
  · exact hs

theorem Telling.endUnopened (u : UnitId) (hs : P s) : P (s.endUnopened u) := by
  simp only [State.endUnopened]
  split
  · split
    · exact hs
    · exact tell.endSession u _ hs
  · exact hs

theorem Telling.sessionClosed (u : UnitId) (hs : P s) : P (s.sessionClosed u) := by
  simp only [State.sessionClosed]
  split
  · split
    · exact tell.endSession u _ hs
    · exact hs
  · exact hs

theorem Telling.concludeGrant (u : UnitId) (detail : Grant → Detail) (hs : P s) : P (s.concludeGrant u detail) := by
  simp only [State.concludeGrant]
  split
  · exact hs
  · exact tell.appendUnit _ _ _ (tell.of_same ((s.setGrant_same u none).andThen (State.setTallies_same _ _ _)
      (hs := [.grants, .tallies])) hs)

theorem Telling.createGrant (u : UnitId) (card : Option Nat) (guest : Bool) (unlock : Nat) (evac : Bool) (hs : P s) :
    P (s.createGrant u card guest unlock evac) := by
  have pulsed {x : State} (hx : P x) :
      P (match x.unitGate u with | some g => x.loadPulse g unlock evac | none => (x, false)).1 := by
    split
    · exact tell.of_same (x.loadPulse_same _ _ _) hx
    · exact hx
  have held {x : State} (g : Grant) (hx : P x) :
      P { x.setGrant u (some g) with power := { x.power with grantTally := x.power.grantTally + 1 } } :=
    tell.of_same ((x.setGrant_same u _).andThen (State.setTallies_same _ _ _) (hs := [.grants, .tallies])) hx
  have replaced : P (s.concludeReplaced u) := tell.concludeGrant u _ hs
  simp only [State.createGrant]
  split
  · exact tell.of_same (State.grantSession_same _ _ _ _ _ _) (held _ (pulsed replaced))
  · exact held _ (pulsed replaced)

theorem Telling.cutForLockdown (u : UnitId) (hs : P s) : P (s.cutForLockdown u) := by
  simp only [State.cutForLockdown]
  split
  · exact tell.of_same (State.setRelock_same _ u) (tell.concludeGrant u _ hs)
  · exact hs

theorem Telling.cutAll (hs : P s) : P s.cutAll := foldl_keeps (fun _ u => tell.cutForLockdown u) allUnits hs

theorem Telling.endAllSessions (hs : P s) : P s.endAllSessions := foldl_keeps (fun _ u => tell.endSessionRelock u _) allUnits hs

theorem Telling.raiseOverdraft (i : Slot) (arose : Bool) (hs : P s) : P (s.raiseOverdraft i arose) := by
  simp only [State.raiseOverdraft]
  split
  · exact tell.raise s _ _ hs
  · exact hs

theorem Telling.appendIf (cond : Prop) [Decidable cond] (source : Source) (card : Option Nat) (room : Option Slot) (detail : Detail)
    (hs : P s) : P (if cond then s.append source card room detail else s) := by
  split
  · exact tell.append s _ _ _ _ hs
  · exact hs

theorem Telling.reportItems (u : UnitId) (i : Slot) (item : Fin 12) (removed returned : Nat) (hs : P s) :
    P (s.reportItems u i item removed returned) := by
  simp only [State.reportItems]
  split
  · by_cases counts : 0 < removed ∨ 0 < returned
    · rw [s.looseItems_eq u item removed returned i counts]
      exact tell.raiseOverdraft _ _ (tell.raise _ _ _ (tell.appendIf _ _ _ _ _
        (tell.append _ _ _ _ _ (tell.of_same (s.setAccount_same i _) hs))))
    · rwa [State.looseItems, if_neg counts]
  · split
    · rw [State.guestItems_eq]
      exact tell.raiseOverdraft _ _ (tell.appendIf _ _ _ _ _ (tell.appendIf _ _ _ _ _
        (tell.of_same ((s.setAccount_same _ _).andThen (State.setSession_same _ u _) (hs := [.accounts, .sessions])) hs)))
    · exact tell.appendIf _ _ _ _ _ hs

/-! ## Reports, presentations and frames -/

theorem Telling.decideOpened (u : UnitId) (released : Bool) (hs : P s) : P (s.decideOpened u released) := by
  have opened {x : State} (hx : P x) : P (x.entranceOpened u) :=
    tell.of_same ((x.setUnit_same u _).andThen (State.setAjar_same _ u _) (hs := [.units, .ajar])) hx
  simp only [State.decideOpened]
  repeat' split
  · exact opened (tell.concludeGrant u _ hs)
  · exact opened (tell.appendUnit u _ _ hs)
  · exact opened (tell.raise _ _ _ (tell.appendUnit u _ _ hs))

theorem Telling.tamper (u : UnitId) (hs : P s) : P (s.tamper u) :=
  tell.raise _ _ _ (tell.appendUnit u _ _ (tell.of_same (State.setRelock_same _ u) (tell.endSession u _ (tell.concludeGrant u _
    (tell.of_same (s.setUnit_same u _) hs)))))

theorem Telling.report (u : UnitId) (r : Report) (hs : P s) : P (s.report u r) := by
  simp only [State.report]
  split
  · exact tell.decideOpened u _ hs
  · exact tell.decideOpened u _ hs
  · exact tell.of_same (State.sessionOpened_same _ u) (tell.decideOpened u _ hs)
  · exact tell.of_same (s.decideClosed_same u) hs
  · exact tell.of_same (s.decideClosed_same u) hs
  · exact tell.sessionClosed u (tell.of_same (s.decideClosed_same u) hs)
  · exact tell.of_same (s.setPrivacy_same _ _) hs
  · exact tell.of_same (s.setPrivacy_same _ _) hs
  · exact hs
  · exact tell.tamper u hs
  · exact tell.reportItems u _ _ _ _ hs
  · exact hs

theorem Telling.misread (u : UnitId) (side : Side) (hs : P s) : P (s.misread u side) := by
  simp only [State.misread]
  split
  · exact tell.of_same (s.setMisreads_same u _) hs
  · exact tell.raise _ _ _ (tell.appendUnit u _ _ (tell.of_same (s.setMisreads_same u _) hs))

theorem Telling.carryOut (u : UnitId) (side : Side) (r : Ruling) (hs : P s) : P (s.carryOut u side r).1 := by
  have cleared : P (s.setMisreads u 0) := tell.of_same (s.setMisreads_same u 0) hs
  cases r with
  | reread => exact tell.misread u side hs
  | deny reason card slot lostCard =>
    have denied := tell.appendUnit u card (.denial reason side slot) cleared
    simp only [State.carryOut]
    split
    · exact tell.raise _ _ _ denied
    · exact denied
  | evacPass card =>
    simp only [State.carryOut]
    exact tell.appendUnit u _ _ (tell.createGrant u card false _ true cleared)
  | grant card guest =>
    simp only [State.carryOut]
    exact tell.createGrant u _ guest _ false cleared

theorem Telling.miss (u : UnitId) (hs : P s) : P (s.miss u) := by
  simp only [State.miss]
  repeat' split
  · exact hs
  · exact tell.raise _ _ _ (tell.appendUnit u _ _ (tell.of_same (s.setUnit_same u _) hs))
  · exact tell.of_same (s.setUnit_same u _) hs

theorem Telling.answered (u : UnitId) (hs : P s) : P (s.answered u) := by
  simp only [State.answered]
  split
  · exact tell.raise _ _ _ (tell.appendUnit u _ _ (tell.of_same (s.setUnit_same u _) hs))
  · exact tell.of_same (s.setUnit_same u _) hs

theorem Telling.frameKeeps : FrameKeeps P where
  bus := fun x line c hx => tell.of_same (x.setBus_same line c) hx
  miss := fun _ u hx => tell.miss u hx
  answered := fun _ u _ hx => tell.answered u hx
  relock := fun x u b _ hx => tell.of_same (x.deliverRelock_same u b) hx
  acknowledge := fun x u _ hx => tell.of_same (x.acknowledge_same u) hx
  take := fun x u _ _ _ _ hx => tell.of_same (x.setUnit_same u _) hx
  report := fun _ u r _ hx => tell.report u r hx
  present := fun _ u side _ _ hx => tell.carryOut u side _ hx

/-! ## The wing -/

theorem Telling.enterMode (source : Source) (m : WingMode) (hs : P s) : P (s.enterMode source m) :=
  tell.append _ _ _ _ _ (tell.of_same (s.setWing_same _) hs)

theorem Telling.announceMode (m : WingMode) (hs : P s) : P (s.announceMode m) :=
  tell.of_same (State.broadcastBoth_same _) (tell.raiseBoth _ hs)

theorem Telling.changeMode (source : Source) (m : WingMode) (hs : P s) : P (s.changeMode source m) := by
  have entered := tell.enterMode source m hs
  simp only [State.changeMode]
  split
  · exact tell.announceMode m (tell.of_same (State.setOutputs_same _) (tell.cutAll entered))
  · exact tell.announceMode m (tell.of_same (State.setOutputs_same _) entered)

theorem Telling.evacRises (hs : P s) : P s.evacRises := by
  have evacuated {x : State} (hx : P x) : P x.markEvac.stopPulses.endAllSessions.setOutputs :=
    tell.of_same (State.setOutputs_same _) (tell.endAllSessions (tell.of_same (x.markEvac_same.andThen (State.stopPulses_same _)
      (hs := [.grants, .gates])) hx))
  have appended := tell.append _ .evacLine none none (.evac s.wing.mode)
    (tell.of_same (s.setWing_same { s.wing with evacSampled := true }) hs)
  simp only [State.evacRises]
  split
  · exact tell.announceMode _ (tell.raiseBoth _ (evacuated (tell.enterMode _ _ appended)))
  · exact tell.raiseBoth _ (evacuated appended)

theorem Telling.evacFalls (hs : P s) : P s.evacFalls :=
  tell.raiseBoth _ (tell.append _ _ _ _ _ (tell.of_same (s.setWing_same { s.wing with evacSampled := false }) hs))

theorem Telling.evacEdge (asserted : Bool) (hs : P s) : P (evacEdge asserted s) := by
  have moved : P { s with wing := { s.wing with evacPin := asserted } } := tell.of_same (s.setWing_same _) hs
  simp only [Machine.evacEdge]
  repeat' split
  · exact hs
  · exact moved
  · exact tell.evacRises moved
  · exact tell.evacFalls moved

theorem Telling.takeLineDifference (hs : P s) : P s.takeLineDifference := by
  simp only [State.takeLineDifference]
  repeat' split
  · exact hs
  · exact tell.evacRises hs
  · exact tell.evacFalls hs

/-! ## Expiries -/

theorem Telling.expireLease (i : Slot) (hs : P s) : P (expireLease i s) := by
  simp only [Machine.expireLease]
  repeat' split
  · exact tell.raise _ _ _ (tell.of_same (s.setClaim_same i none) hs)
  · exact hs
  · exact hs

theorem Telling.expireGrant (u : UnitId) (hs : P s) : P (expireGrant u s) := by
  simp only [Machine.expireGrant]
  repeat' split
  · exact tell.endUnopened u (tell.concludeGrant u _ hs)
  · exact tell.concludeGrant u _ hs
  · exact hs
  · exact hs

theorem Telling.expireAjar (u : UnitId) (hs : P s) : P (expireAjar u s) := by
  simp only [Machine.expireAjar]
  repeat' split
  · exact tell.raise _ _ _ (tell.appendUnit u _ _ (tell.of_same ((s.setUnit_same u _).andThen (State.setAjar_same _ u none)
      (hs := [.units, .ajar])) hs))
  · exact hs
  · exact hs

theorem Telling.expireSession (u : UnitId) (hs : P s) : P (expireSession u s) := by
  simp only [Machine.expireSession]
  repeat' split
  · exact tell.endSession u _ hs
  · exact hs
  · exact hs

theorem Telling.expireTimer (t : Timer) (link : ∀ p, t ≠ .supervision p) (hs : P s) : P (expireTimer t s) := by
  cases t with
  | lease i => exact tell.expireLease i hs
  | grant u => exact tell.expireGrant u hs
  | ajar u => exact tell.expireAjar u hs
  | session u => exact tell.expireSession u hs
  | pulse g => exact tell.of_same (expirePulse_same s g) hs
  | supervision p => exact absurd rfl (link p)

/-! ## Requests -/

theorem Telling.logIssues (p : Port) (n : Nat) (cards : List Credential) (hs : P s) : P (logIssues p n cards s) := by
  induction cards generalizing n s with
  | nil => exact hs
  | cons c cards ih => exact ih 0 (tell.append _ _ _ _ _ hs)

theorem Telling.logSuperseded (p : Port) (old : Option Credential) (hs : P s) : P (logSuperseded p old s) := by
  simp only [Machine.logSuperseded]
  repeat' split
  · exact hs
  · exact tell.append _ _ _ _ _ hs
  · exact hs

theorem Telling.logRevokes (p : Port) (cards : List Credential) (hs : P s) : P (logRevokes p cards s) :=
  foldl_keeps (fun _ _ => tell.append _ _ _ _ _) cards hs

theorem Telling.endRoomSession (i : Slot) (hs : P s) : P (s.endRoomSession i) := by
  simp only [State.endRoomSession]
  split
  · exact tell.endSessionRelock _ _ hs
  · exact hs

theorem Telling.claimed {p : Port} {slot : Byte} {ok : Bool} {rule : Slot → State → Reply}
    (own : ∀ i x, P x → P (rule i x).1) (hs : P s) : P (claimed p slot ok rule s).1 :=
  claimed_keeps hs (fun i _ _ _ => own i s hs) fun i => tell.of_same (State.loadLease_same _ i p)

theorem Telling.checkIn (p : Port) (slot cls count : Byte) (arrival departure : DayMinute) (allowance : Triple) (hs : P s) :
    P (checkIn p slot cls count arrival departure allowance s).1 := by
  refine tell.claimed (fun i x hx => ?_) hs
  repeat' split
  all_goals first
    | exact hx
    | refine tell.logIssues p _ _ (tell.append _ _ _ _ _ (tell.of_same (State.issueBatch_same _ p i _ _ _) ?_))
      exact tell.of_same ((x.setRoom_same i _).andThen (State.setAccount_same _ i _) (hs := [.rooms, .generations, .accounts])) hx

theorem Telling.addCards (p : Port) (slot cls count : Byte) (hs : P s) : P (addCards p slot cls count s).1 := by
  refine tell.claimed (fun i x hx => ?_) hs
  repeat' split
  all_goals first | exact hx | exact tell.logIssues p _ _ (tell.of_same (State.issueBatch_same _ p i _ _ _) hx)

theorem Telling.changeStay (p : Port) (slot : Byte) (departure : DayMinute) (hs : P s) : P (changeStay p slot departure s).1 := by
  refine tell.claimed (fun i x hx => ?_) hs
  repeat' split
  all_goals first
    | exact hx
    | exact tell.append _ _ _ _ _ (tell.of_same ((x.setRoom_same i _).andThen (State.setTable_same _ _)
        (hs := [.rooms, .generations, .table, .site])) hx)

theorem Telling.checkOut (p : Port) (slot : Byte) (hs : P s) : P (checkOut p slot s).1 := by
  refine tell.claimed (fun i x hx => ?_) hs
  split
  · refine tell.endRoomSession i (tell.logRevokes p _ (tell.append _ _ _ _ _ (tell.of_same (State.setAccount_same _ i _) ?_)))
    exact tell.of_same ((x.setTable_same _).andThen (State.setRoom_same _ i _) (hs := [.rooms, .generations, .table, .site])) hx
  · exact hx

theorem Telling.settle (p : Port) (slot : Byte) (hs : P s) : P (settle p slot s).1 := by
  have settled (x : State) (hx : P x) (i : Slot) (interim : Bool) : P (settleRoom p i interim x).1 :=
    tell.append _ _ _ _ _ (tell.of_same (x.setAccount_same i _) hx)
  refine tell.claimed (fun i x hx => ?_) hs
  repeat' split
  all_goals first | exact hx | exact settled x hx i _

theorem Telling.readmitUnit (p : Port) (bus address : Byte) (hs : P s) : P (readmitUnit p bus address s).1 := by
  simp only [Machine.readmitUnit]
  repeat' split
  all_goals first | exact hs | exact tell.append _ _ _ _ _ (tell.of_same (s.setUnit_same _ _) hs)

theorem Telling.issueStaff (p : Port) (cls : Byte) (start stop : DayMinute) (replaced : Triple) (hs : P s) :
    P (issueStaff p cls start stop replaced s).1 := by
  simp only [Machine.issueStaff]
  repeat' split
  all_goals first
    | exact hs
    | exact tell.logSuperseded p _ (tell.append _ _ _ _ _ (tell.of_same (s.setTable_same _) hs))

theorem Telling.suspend (p : Port) (card : Triple) (hs : P s) : P (suspend p card s).1 := by
  simp only [Machine.suspend]
  repeat' split
  all_goals first | exact hs | exact tell.append _ _ _ _ _ (tell.of_same (s.setTable_same _) hs)

theorem Telling.resume (p : Port) (card : Triple) (hs : P s) : P (resume p card s).1 := by
  simp only [Machine.resume]
  repeat' split
  all_goals first | exact hs | exact tell.append _ _ _ _ _ (tell.of_same (s.setTable_same _) hs)

theorem Telling.setMode (p : Port) (mode : Byte) (hs : P s) : P (setMode p mode s).1 := by
  simp only [Machine.setMode]
  repeat' split
  all_goals first | exact hs | exact tell.changeMode _ _ hs

theorem Telling.restore (p : Port) (hs : P s) : P (restore p s).1 := by
  simp only [Machine.restore]
  repeat' split
  · exact hs
  · exact hs
  · exact tell.announceMode _ (tell.of_same (State.workLevels_same _) (tell.enterMode _ _ hs))

theorem Telling.claim (p : Port) (slot preempt : Byte) (hs : P s) : P (claim p slot preempt s).1 := by
  simp only [Machine.claim]
  split
  · exact hs
  · rename_i i _
    have taken (q : Port) : P (s.loadLease i q) := tell.of_same (s.loadLease_same i q) hs
    repeat' split
    · exact hs
    · exact taken p
    · exact taken p
    · exact tell.append _ _ _ _ _ (tell.raise _ _ _ (taken .se))
    · exact hs

theorem Telling.revokeRecord (p : Port) (c : Credential) (reason : RevokeReason) (hs : P s) :
    P (revokeRecord p c reason s).1 := by
  simp only [Machine.revokeRecord]
  split
  · exact hs
  · exact tell.append _ _ _ _ _ (tell.of_same (s.setTable_same _) hs)

theorem Telling.revoke (p : Port) (card : Triple) (reason : Byte) (hs : P s) : P (revoke p card reason s).1 := by
  simp only [Machine.revoke, revokeFromFo, renewing]
  repeat' split
  all_goals first
    | exact hs
    | exact tell.revokeRecord _ _ _ hs
    | exact tell.of_same (State.loadLease_same _ _ _) (tell.revokeRecord _ _ _ hs)

theorem Telling.setClock (p : Port) (reading : DayMinute) (hs : P s) : P (setClock p reading s).1 := by
  simp only [Machine.setClock]
  split
  · exact hs
  · exact tell.raise _ _ _ (tell.append _ _ _ _ _ (tell.of_same ((s.setClock_same _).andThen (State.workLevels_same _)
      (hs := [.clock, .clockSet, .gates])) hs))

end

/-- A request that reaches the log and the ports by records and events alone. -/
def tellsOnly : Request → Bool
  | .keepalive | .readLog | .setLogPolicy | .setLogThreshold | .readEvents | .setSupervision => false
  | _ => true

theorem Telling.rule {P : State → Prop} (tell : Telling P) {i : Instr} {p : Port} {rq : Request} {body : List Byte}
    (request : i.request? = some (p, rq, body)) (only : tellsOnly rq = true) {s : State} (hs : P s) : P (ruleOf i s).1 := by
  cases untouched : apart [.log, .ports] (touchedBy rq) with
  | true => exact tell.of_same (ruleOf_same request s) hs untouched
  | false =>
    cases i with
    | checkIn => exact tell.checkIn _ _ _ _ _ _ _ hs
    | addCards => exact tell.addCards _ _ _ _ hs
    | changeStay => exact tell.changeStay _ _ _ hs
    | checkOut => exact tell.checkOut _ _ hs
    | settle => exact tell.settle _ _ hs
    | readmitUnit => exact tell.readmitUnit _ _ _ hs
    | issueStaff => exact tell.issueStaff _ _ _ _ _ hs
    | suspend => exact tell.suspend _ _ hs
    | resume => exact tell.resume _ _ hs
    | setMode => exact tell.setMode _ _ hs
    | restore => exact tell.restore _ hs
    | claim => exact tell.claim _ _ _ hs
    | revoke => exact tell.revoke _ _ _ hs
    | setClock => exact tell.setClock _ _ hs
    | keepalive | readLog | setLogPolicy | setLogThreshold | readEvents | setSupervision =>
      cases request; exact Bool.noConfusion only
    | _ => cases request <;> exact Bool.noConfusion untouched

end Sys2Proof.Machine
end

section
/-! The entry log's own invariant (R168 to R175): sequence numbers counted with wrapping, a record handed to the log, and what each
step can do to the log: it grows by offered records, with a policy set to YIELD at most, or a reader is set on the same records. -/

namespace Sys2Proof.Machine

-- One theorem at a time: each check by the kernel then needs one stack.
set_option Elab.async false

open Sys2Proof

/-! ## Distances between sequence numbers (R168) -/

theorem nextSeq_lt (n : Nat) : nextSeq n < Config.seqModulus := Nat.mod_lt _ (by simp [Config.seqModulus])

@[simp] theorem seqDistance_self (n : Nat) : seqDistance n n = 0 := by simp [seqDistance]

section
variable {a b n : Nat} (ha : a < Config.seqModulus) (hn : n < Config.seqModulus)
include ha hn

/-- The distance is the difference with wrapping. -/
theorem seqDistance_eq_mod : seqDistance a n = (n + Config.seqModulus - a) % Config.seqModulus := by
  simp only [seqDistance, Config.seqModulus] at *
  split <;> omega

theorem seqDistance_nextSeq (small : seqDistance a n + 1 < Config.seqModulus) : seqDistance a (nextSeq n) = seqDistance a n + 1 := by
  rw [seqDistance_eq_mod ha hn] at small ⊢
  rw [seqDistance_eq_mod ha (nextSeq_lt n)]
  simp only [nextSeq, Config.seqModulus] at *
  omega

theorem seqDistance_add {k : Nat} (le : k ≤ seqDistance a n) :
    seqDistance ((a + k) % Config.seqModulus) n = seqDistance a n - k := by
  rw [seqDistance_eq_mod ha hn] at le ⊢
  rw [seqDistance_eq_mod (Nat.mod_lt _ (by simp [Config.seqModulus])) hn]
  simp only [Config.seqModulus] at *
  omega

theorem seqDistance_nextSeq_left (pos : 0 < seqDistance a n) : seqDistance (nextSeq a) n = seqDistance a n - 1 :=
  seqDistance_add ha hn pos

theorem eq_of_seqDistance_eq (hb : b < Config.seqModulus) (same : seqDistance a n = seqDistance b n) : a = b := by
  rw [seqDistance_eq_mod ha hn, seqDistance_eq_mod hb hn] at same
  simp only [Config.seqModulus] at *
  omega

theorem seqDistance_between (hb : b < Config.seqModulus) (le : seqDistance b n ≤ seqDistance a n) :
    seqDistance a b = seqDistance a n - seqDistance b n := by
  rw [seqDistance_eq_mod ha hn, seqDistance_eq_mod hb hn] at *
  rw [seqDistance_eq_mod ha hb]
  simp only [Config.seqModulus] at *
  omega

end

/-! ## Consecutive numbers -/

/-- Records numbered consecutively up to the one before `next`. -/
def Consecutive (records : List LogRecord) (next : Nat) : Prop :=
  ∀ (k : Nat) (h : k < records.length),
    records[k].seq < Config.seqModulus ∧ seqDistance records[k].seq next = records.length - k

theorem consecutive_iff {l : EntryLog} :
    Consecutive l.records l.next ↔ ∀ k : Fin l.records.length,
      l.records[k].seq < Config.seqModulus ∧ seqDistance l.records[k].seq l.next = l.records.length - k.val :=
  ⟨fun h k => h k.val k.isLt, fun h k hk => h ⟨k, hk⟩⟩

theorem Consecutive.head {r : LogRecord} {rest : List LogRecord} {next : Nat} (h : Consecutive (r :: rest) next) :
    r.seq < Config.seqModulus ∧ seqDistance r.seq next = rest.length + 1 := h 0 (Nat.succ_pos _)

theorem Consecutive.tail {r : LogRecord} {rest : List LogRecord} {next : Nat} (h : Consecutive (r :: rest) next) :
    Consecutive rest next := by
  intro k hk
  have shifted := h (k + 1) (Nat.succ_lt_succ hk)
  rwa [List.getElem_cons_succ, List.length_cons, Nat.add_sub_add_right] at shifted

theorem Consecutive.push {records : List LogRecord} {next : Nat} (h : Consecutive records next) (hn : next < Config.seqModulus)
    (room : records.length + 1 < Config.seqModulus) {r : LogRecord} (number : r.seq = next) :
    Consecutive (records ++ [r]) (nextSeq next) := by
  intro k hk
  rw [List.length_append, List.length_singleton] at hk ⊢
  rcases Nat.lt_or_eq_of_le (Nat.lt_succ_iff.mp hk) with old | new
  · obtain ⟨bound, distance⟩ := h k old
    rw [List.getElem_append_left old]
    exact ⟨bound, by rw [seqDistance_nextSeq bound hn (by omega), distance]; omega⟩
  · subst new
    rw [List.getElem_concat_length rfl, number]
    exact ⟨hn, by rw [seqDistance_nextSeq hn hn (by simp [Config.seqModulus]), seqDistance_self]; omega⟩

/-! ## A reader in a log of some length -/

/-- A reader's cursor stands within the last `length` numbers before `next`, and its counts are in range. -/
abbrev Reader.SoundIn (r : Reader) (next length : Nat) : Prop :=
  r.cursor < Config.seqModulus ∧ seqDistance r.cursor next ≤ length ∧ r.skipped ≤ 65535 ∧ 1 ≤ r.threshold ∧ r.threshold ≤ 4096

theorem countUp_le (n : Nat) : countUp n ≤ 65535 := Nat.min_le_left _ _

theorem Reader.skip_of_ne {r : Reader} {seq : Nat} (elsewhere : r.cursor ≠ seq) : r.skip seq = r := if_neg elsewhere

section
variable {r : Reader} {next length : Nat}

theorem Reader.SoundIn.store (h : r.SoundIn next length) (hn : next < Config.seqModulus) (room : length + 1 < Config.seqModulus) :
    r.SoundIn (nextSeq next) (length + 1) := by
  obtain ⟨cursor, unread, counts⟩ := h
  exact ⟨cursor, by rw [seqDistance_nextSeq cursor hn (by omega)]; omega, counts⟩

/-- A reader that skips the oldest record stands within the rest. -/
theorem Reader.SoundIn.skip (h : r.SoundIn next (length + 1)) (hn : next < Config.seqModulus) {seq : Nat}
    (hs : seq < Config.seqModulus) (oldest : seqDistance seq next = length + 1) : (r.skip seq).SoundIn next length := by
  obtain ⟨cursor, unread, skipped, threshold⟩ := h
  simp only [Reader.skip]
  split
  · rename_i here
    refine ⟨nextSeq_lt _, ?_, countUp_le _, threshold⟩
    rw [seqDistance_nextSeq_left hs hn (by omega), oldest]
    omega
  · rename_i elsewhere
    have passed : seqDistance r.cursor next ≠ length + 1 := fun same =>
      elsewhere (eq_of_seqDistance_eq cursor hn hs (same.trans oldest.symm))
    exact ⟨cursor, by omega, skipped, threshold⟩

end

/-! ## A record handed to the log (R170 to R173) -/

section
variable {l : EntryLog} (sound : l.Sound)
include sound

theorem EntryLog.Sound.setReader (p : Port) {r : Reader} (reader : r.SoundIn l.next l.records.length) : (l.setReader p r).Sound := by
  obtain ⟨length, next, lost, numbers, gaps, fo, se⟩ := sound
  cases p with
  | fo => exact ⟨length, next, lost, numbers, gaps, reader, se⟩
  | se => exact ⟨length, next, lost, numbers, gaps, fo, reader⟩

theorem EntryLog.Sound.reader (p : Port) : (l.reader p).SoundIn l.next l.records.length := by
  obtain ⟨-, -, -, -, -, fo, se⟩ := sound
  cases p with
  | fo => exact fo
  | se => exact se

theorem EntryLog.Sound.store (room : l.records.length < 4096) (r : Formed) : (l.store r).Sound := by
  obtain ⟨length, next, lost, numbers, gaps, fo, se⟩ := sound
  have small : l.records.length + 1 < Config.seqModulus := by simp only [Config.seqModulus]; omega
  have longer : (l.store r).records.length = l.records.length + 1 := by simp [EntryLog.store]
  refine ⟨longer ▸ room, nextSeq_lt _, Nat.zero_le _, consecutive_iff.mp ((consecutive_iff.mpr numbers).push next small rfl), ?_,
    ?_, ?_⟩
  · intro x hx n hn
    rcases List.mem_append.mp hx with old | new
    · exact gaps x old n hn
    · rw [List.mem_singleton.mp new] at hn
      revert hn
      dsimp only
      split
      · simp
      · rintro ⟨⟩
        exact ⟨by omega, lost⟩
  · have stored := Reader.SoundIn.store (r := l.fo) fo next small
    rw [← longer] at stored
    exact stored
  · have stored := Reader.SoundIn.store (r := l.se) se next small
    rw [← longer] at stored
    exact stored

theorem EntryLog.Sound.discard : l.discard.Sound := by
  match records : l.records with
  | [] => rwa [show l.discard = l by simp only [EntryLog.discard, records]]
  | oldest :: rest =>
    have discarded : l.discard = { l with records := rest, fo := l.fo.skip oldest.seq, se := l.se.skip oldest.seq } := by
      simp only [EntryLog.discard, records]
    have fo := sound.reader .fo
    have se := sound.reader .se
    obtain ⟨length, next, lost, numbers, gaps, -, -⟩ := sound
    have numbers := consecutive_iff.mpr numbers
    rw [records] at length numbers gaps fo se
    obtain ⟨bound, distance⟩ := numbers.head
    rw [discarded]
    exact ⟨(Nat.le_succ _).trans length, next, lost, consecutive_iff.mp numbers.tail,
      fun x hx => gaps x (List.mem_cons_of_mem _ hx), Reader.SoundIn.skip fo next bound distance,
      Reader.SoundIn.skip se next bound distance⟩

theorem EntryLog.discard_length (full : 4096 ≤ l.records.length) : l.discard.records.length < 4096 := by
  obtain ⟨length, -⟩ := sound
  match records : l.records with
  | [] => simp [records] at full
  | oldest :: rest =>
    rw [records, List.length_cons] at length
    simp only [EntryLog.discard, records]
    omega

theorem EntryLog.Sound.offer (r : Formed) : (l.offer r).Sound := by
  by_cases room : l.records.length < 4096
  · rw [l.offer_room r room]
    exact sound.store room r
  · cases blocked : l.blocked with
    | true =>
      rw [l.offer_blocked r (not_lt.mp room) blocked]
      obtain ⟨length, next, -, rest⟩ := sound
      exact ⟨length, next, countUp_le _, rest⟩
    | false =>
      rw [l.offer_full r (not_lt.mp room) blocked]
      exact sound.discard.store (EntryLog.discard_length sound (not_lt.mp room)) r

end

/-! ## How a step changes the log -/

/-- A log grown from another: records offered to it one by one, and a port's policy set to YIELD at most. -/
inductive EntryLog.Grows (l : EntryLog) : EntryLog → Prop where
  | refl : EntryLog.Grows l l
  | offer {m : EntryLog} (r : Formed) : EntryLog.Grows l m → EntryLog.Grows l (m.offer r)
  | yields {m : EntryLog} (p : Port) : EntryLog.Grows l m → EntryLog.Grows l (m.setReader p { m.reader p with policy := .yields })

theorem EntryLog.Grows.sound {l m : EntryLog} (grows : l.Grows m) (sound : l.Sound) : m.Sound := by
  induction grows with
  | refl => exact sound
  | offer r _ ih => exact ih.offer r
  | yields p _ ih => exact ih.setReader p (ih.reader p)

/-- The state's log has grown from `l`. -/
def State.LogFrom (l : EntryLog) (s : State) : Prop := l.Grows s.log

theorem State.LogFrom.dependsOn (l : EntryLog) : DependsOn [.log] (State.LogFrom l) := fun s t same grown => by
  rw [State.LogFrom, show t.log = s.log from same .log (List.mem_singleton_self _)]
  exact grown

theorem State.LogFrom.telling (l : EntryLog) : Telling (State.LogFrom l) where
  dep := (State.LogFrom.dependsOn l).weaken
  raise := fun s p e grown => by rwa [State.LogFrom, State.raise_log]
  append := fun s source card room detail grown => by
    rw [State.LogFrom, State.append_log]
    exact .offer _ grown

section
variable {l : EntryLog} {s : State}

theorem State.LogFrom.of_same {touched : List Field} {t : State} (grown : State.LogFrom l s) (same : State.SameBut touched s t)
    (other : apart [.log] touched = true := by rfl) : State.LogFrom l t := (State.LogFrom.dependsOn l).of_same same grown other

theorem State.LogFrom.superviseExpire (p : Port) (grown : State.LogFrom l s) : State.LogFrom l (s.superviseExpire p) := by
  have freed : State.LogFrom l ((s.setPort p { s.port p with linkLost := true, timer := none }).freeClaims p) :=
    grown.of_same ((s.setPort_same p _).andThen (State.freeClaims_same _ p) (hs := [.claims, .ports]))
  simp only [State.superviseExpire]
  exact (State.LogFrom.telling l).raise _ _ _ ((State.LogFrom.telling l).append _ _ _ _ _ (.yields p freed))

theorem State.LogFrom.expireSupervision (p : Port) (grown : State.LogFrom l s) : State.LogFrom l (expireSupervision p s) := by
  simp only [Machine.expireSupervision]
  split
  · exact grown.superviseExpire p
  · exact grown

theorem State.LogFrom.expireTimer (t : Timer) (grown : State.LogFrom l s) : State.LogFrom l (expireTimer t s) := by
  by_cases link : ∃ p, t = .supervision p
  · obtain ⟨p, rfl⟩ := link
    exact grown.expireSupervision p
  · exact (State.LogFrom.telling l).expireTimer t (fun p same => link ⟨p, same⟩) grown

theorem State.LogFrom.secondTick (grown : State.LogFrom l s) : State.LogFrom l (secondTick s) := by
  have levels (x : State) (minute : Bool) (hx : State.LogFrom l x) :
      State.LogFrom l (if minute then x.tickTimers.workLevels else x.tickTimers) := by
    split
    · exact hx.of_same (x.tickTimers_same.andThen (State.workLevels_same _) (hs := [.claims, .grants, .ajar, .sessions, .gates, .ports]))
    · exact hx.of_same x.tickTimers_same
  simp only [Machine.secondTick]
  split
  · exact grown
  · split
    · exact grown.of_same (s.setClock_same _)
    · exact State.expireTimers_keeps _ (fun t x hx => State.LogFrom.expireTimer t hx) _ _
        (levels _ _ (grown.of_same (s.setClock_same _)))

theorem State.LogFrom.crystalCycle (grown : State.LogFrom l s) : State.LogFrom l (crystalCycle s) := by
  simp only [Machine.crystalCycle]
  repeat' split
  · exact grown
  · exact grown.of_same (s.setClock_same _)
  · exact grown.secondTick

theorem State.LogFrom.endStart (grown : State.LogFrom l s) : State.LogFrom l (endStart s) := by
  simp only [Machine.endStart]
  split
  · rename_i start _
    refine (State.LogFrom.telling l).takeLineDifference ?_
    cases start with
    | warm mode record => exact .offer record grown
    | cold => exact grown
  · exact grown

theorem State.LogFrom.keepalive (p : Port) (token : Half) (grown : State.LogFrom l s) : State.LogFrom l (keepalive p token s).1 := by
  simp only [Machine.keepalive, keepaliveReply]
  repeat' split
  · exact grown
  · exact grown
  · exact grown.of_same (s.setPort_same p _)
  · exact grown
  · exact grown.superviseExpire p

end

/-- The requests that set a port's reader, whose records stay as they were. -/
def setsReader : Request → Bool
  | .readLog | .setLogPolicy | .setLogThreshold => true
  | _ => false

/-- The rule of a request other than those that set a reader lets the log grow. -/
theorem ruleOf_logFrom {i : Instr} {p : Port} {rq : Request} {body : List Byte} (request : i.request? = some (p, rq, body))
    (other : setsReader rq = false) (s : State) : s.log.Grows (ruleOf i s).1.log := by
  cases only : tellsOnly rq with
  | true => exact (State.LogFrom.telling s.log).rule request only .refl
  | false =>
    cases i with
    | keepalive => exact State.LogFrom.keepalive _ _ .refl
    | readEvents => exact State.LogFrom.of_same .refl (readEvents_same s _ _)
    | setSupervision => exact State.LogFrom.of_same .refl (setSupervision_same s _ _)
    | readLog | setLogPolicy | setLogThreshold => cases request; exact Bool.noConfusion other
    | _ => cases request <;> exact Bool.noConfusion only

/-! ## A reader set (R176, R178, R180) -/

/-- A reader set on the records that were there: the log is sound if it was. -/
def EntryLog.Reread (l m : EntryLog) : Prop := m.records = l.records ∧ (l.Sound → m.Sound)

theorem EntryLog.Reread.refl (l : EntryLog) : l.Reread l := ⟨rfl, id⟩

theorem EntryLog.setReader_records (l : EntryLog) (p : Port) (r : Reader) : (l.setReader p r).records = l.records := by
  cases p <;> rfl

theorem EntryLog.reread_setReader {l : EntryLog} {p : Port} {r : Reader}
    (reader : l.Sound → r.SoundIn l.next l.records.length) : l.Reread (l.setReader p r) :=
  ⟨l.setReader_records p r, fun sound => sound.setReader p (reader sound)⟩

/-- A cursor moves past no more records than are unread. -/
theorem EntryLog.readable_length_le {l : EntryLog} (sound : l.Sound) (p : Port) (count : Nat) :
    (l.readable p count).length ≤ l.unread p := by
  obtain ⟨cursor, unread, -⟩ := sound.reader p
  obtain ⟨-, next, -, numbers, -⟩ := sound
  have numbers := consecutive_iff.mpr numbers
  match records : l.records with
  | [] => simp [EntryLog.readable, records]
  | oldest :: rest =>
    rw [records] at numbers unread
    obtain ⟨bound, distance⟩ := numbers.head
    have between := seqDistance_between bound next cursor (by rw [distance]; exact unread)
    have first : l.oldest = oldest.seq := by simp [EntryLog.oldest, records]
    simp only [EntryLog.readable, List.length_take, List.length_drop, records, first, between, distance, List.length_cons,
      EntryLog.unread]
    omega

theorem readLog_reread (p : Port) (count : Byte) (s : State) : s.log.Reread (readLog p count s).1.log := by
  simp only [readLog]
  split
  · exact .refl _
  · refine EntryLog.reread_setReader fun sound => ?_
    obtain ⟨cursor, unread, -, threshold⟩ := sound.reader p
    have taken := EntryLog.readable_length_le sound p count.toNat
    obtain ⟨-, next, -⟩ := sound
    refine ⟨Nat.mod_lt _ (by simp [Config.seqModulus]), ?_, Nat.zero_le _, threshold⟩
    rw [seqDistance_add cursor next taken]
    omega

theorem setLogPolicy_reread (p : Port) (policy : Byte) (s : State) : s.log.Reread (setLogPolicy p policy s).1.log := by
  simp only [setLogPolicy]
  split
  · exact .refl _
  · exact EntryLog.reread_setReader fun sound => sound.reader p

theorem setLogThreshold_reread (p : Port) (threshold : Half) (s : State) : s.log.Reread (setLogThreshold p threshold s).1.log := by
  refine EntryLog.reread_setReader fun sound => ?_
  obtain ⟨cursor, unread, skipped, -⟩ := sound.reader p
  refine ⟨cursor, unread, skipped, ?_⟩
  simp only [clamp, Config.maxRecords]
  omega

theorem Reader.SoundIn.warm {r : Reader} {next length : Nat} (h : r.SoundIn next length) (policy : Policy) :
    (r.warm policy).SoundIn next length := by
  obtain ⟨cursor, unread, -⟩ := h
  exact ⟨cursor, unread, by simp [Reader.warm], by simp [Reader.warm, Config.startThreshold], by simp [Reader.warm, Config.startThreshold]⟩

theorem State.loseVolatile_reread (s : State) : s.log.Reread s.loseVolatile.log := by
  refine ⟨rfl, fun sound => ?_⟩
  have fo := (sound.reader .fo).warm .yields
  have se := (sound.reader .se).warm .hold
  exact (sound.setReader .fo fo).setReader .se se

theorem mainPowerFall_reread (s : State) : s.log.Reread (mainPowerFall s).log := by
  by_cases off : s.power.phase = .off
  · rw [mainPowerFall, if_pos off]
    exact .refl _
  · rw [mainPowerFall, if_neg off]
    exact s.loseVolatile_reread

theorem warmStart_reread (s : State) : s.log.Reread (if s.power.latch then s else beginWarm s).log := by
  by_cases lost : s.power.latch = true
  · rw [if_pos lost]
    exact .refl _
  · rw [if_neg lost]
    exact s.loseVolatile_reread

/-! ## Every command -/

theorem eventOf_log {c : Instr} (notCold : c ≠ .coldStart) (s : State) :
    s.log.Grows (eventOf c s).log ∨ s.log.Reread (eventOf c s).log := by
  have tell := State.LogFrom.telling s.log
  have start : State.LogFrom s.log s := .refl
  cases untouched : apart [.log] (touchedByEvent c) with
  | true => exact .inl (start.of_same (eventOf_same c s) untouched)
  | false =>
    cases c with
    | secondTick => exact .inl start.secondTick
    | crystalCycle => exact .inl start.crystalCycle
    | pendingGrantExpiry u => exact .inl (tell.expireGrant u start)
    | ajarTimerExpiry u => exact .inl (tell.expireAjar u start)
    | minibarSessionExpiry u => exact .inl (tell.expireSession u start)
    | supervisionTimerExpiry p => exact .inl (start.expireSupervision p)
    | pollTimeout line => exact .inl (tell.frameKeeps.pollTimeout line start)
    | verdictTimeout line => exact .inl (tell.frameKeeps.verdictTimeout line start)
    | answer line frame => exact .inl (tell.frameKeeps.frameClosed line frame start)
    | ack line frame => exact .inl (tell.frameKeeps.frameClosed line frame start)
    | evacRisingEdge => exact .inl (tell.evacEdge true start)
    | evacFallingEdge => exact .inl (tell.evacEdge false start)
    | startEnd => exact .inl start.endStart
    | mainPowerFall => exact .inr (mainPowerFall_reread s)
    | warmStart => exact .inr (warmStart_reread s)
    | coldStart => exact absurd rfl notCold
    | _ => exact Bool.noConfusion untouched

theorem ruleOf_log {i : Instr} {p : Port} {rq : Request} {body : List Byte} (request : i.request? = some (p, rq, body))
    (s : State) : s.log.Grows (ruleOf i s).1.log ∨ s.log.Reread (ruleOf i s).1.log := by
  cases sets : setsReader rq with
  | false => exact .inl (ruleOf_logFrom request sets s)
  | true =>
    refine .inr ?_
    cases i with
    | readLog => exact readLog_reread _ _ s
    | setLogPolicy => exact setLogPolicy_reread _ _ s
    | setLogThreshold => exact setLogThreshold_reread _ _ s
    | _ => cases request <;> exact Bool.noConfusion sets

/-- Every command but the beginning of a cold start lets the log grow, or sets a reader. -/
theorem exec_log {c : Instr} {s t : State} (h : exec c s = .next t) (notCold : c ≠ .coldStart) :
    s.log.Grows t.log ∨ s.log.Reread t.log := by
  rcases exec_cases h with ⟨i, p, rq, body, -, request, rfl⟩ | ⟨p, n, st, rfl⟩ | ⟨-, rfl⟩
  · rcases s.takeRequest_cases rq p (ruleOf i) with eq | eq | ⟨st, eq⟩ | ⟨-, eq⟩ <;> rw [eq]
    · exact .inl .refl
    · exact .inl (by simpa [State.overrun] using EntryLog.Grows.refl)
    · exact .inl (by simpa [State.respond] using EntryLog.Grows.refl)
    · have ruled := ruleOf_log request (s.sendZeros p (2 + rq.bodyLength))
      rw [State.sendZeros_log] at ruled
      simpa only [State.respond, State.setPort_log] using ruled
  · have same : (takeBad p n st s).log = s.log := by
      simp only [takeBad, State.overrun, State.respond]
      repeat' split
      all_goals simp
    rw [same]
    exact .inl .refl
  · exact eventOf_log notCold s

theorem EntryLog.cold_sound : EntryLog.cold.Sound := by
  refine ⟨by simp [EntryLog.cold], by simp [EntryLog.cold, Config.seqModulus], by simp [EntryLog.cold], ?_, ?_, ?_, ?_⟩
  · exact consecutive_iff.mp (Consecutive.push (records := []) (next := 0) (fun _ h => absurd h (Nat.not_lt_zero _))
      (by simp [Config.seqModulus]) (by simp [Config.seqModulus]) rfl)
  · simp [EntryLog.cold, LogRecord.startCold]
  · exact of_decide_eq_true rfl
  · exact of_decide_eq_true rfl

theorem exec_coldStart_log {s t : State} (h : exec .coldStart s = .next t) : t.log = s.log ∨ t.log = EntryLog.cold := by
  have h : Host.Outcome.next (if s.power.latch then beginCold s else s) = Host.Outcome.next t := h
  rw [← Host.Outcome.next.inj h]
  by_cases lost : s.power.latch = true
  · rw [if_pos lost]
    exact .inr rfl
  · rw [if_neg lost]
    exact .inl rfl

/-! ## A record that leaves the log under HOLD (R170) -/

/-- The record is held, or the port's HOLD cursor has passed it, by no more than a log's length. -/
def EntryLog.HeldOrPassed (l : EntryLog) (r : LogRecord) (p : Port) : Prop :=
  (l.reader p).policy = .hold → r ∈ l.records ∨
    (l.unread p < seqDistance r.seq l.next ∧ seqDistance r.seq l.next ≤ l.unread p + 4096)

@[simp] theorem EntryLog.offer_policy (l : EntryLog) (r : Formed) (p : Port) :
    ((l.offer r).reader p).policy = (l.reader p).policy := by
  cases p with
  | fo => exact l.offer_fo_policy r
  | se => exact l.offer_se_policy r

section
variable {l : EntryLog} {r : LogRecord} {p : Port}

/-- A record stored takes both distances one further. -/
theorem EntryLog.unread_store (sound : l.Sound) (room : l.records.length < 4096) (f : Formed) :
    (l.store f).unread p = l.unread p + 1 := by
  obtain ⟨cursor, unread, -⟩ := sound.reader p
  obtain ⟨-, next, -⟩ := sound
  have stored : ((l.store f).reader p).cursor = (l.reader p).cursor := by cases p <;> rfl
  rw [EntryLog.unread, stored]
  exact seqDistance_nextSeq cursor next (by simp only [Config.seqModulus]; omega)

theorem EntryLog.HeldOrPassed.store (sound : l.Sound) (room : l.records.length < 4096) (bound : r.seq < Config.seqModulus)
    (h : l.HeldOrPassed r p) (f : Formed) : (l.store f).HeldOrPassed r p := by
  intro hold
  have hold : (l.reader p).policy = .hold := by cases p <;> exact hold
  rcases h hold with held | ⟨passed, near⟩
  · exact .inl (List.mem_append_left _ held)
  · refine .inr ?_
    have unread : l.unread p ≤ l.records.length := (sound.reader p).2.1
    have further : seqDistance r.seq (l.store f).next = seqDistance r.seq l.next + 1 :=
      seqDistance_nextSeq bound sound.2.1 (by simp only [Config.seqModulus]; omega)
    rw [EntryLog.unread_store sound room, further]
    omega

/-- The record discarded from a full log is not one on which a HOLD cursor stands, so that cursor has passed it. -/
theorem EntryLog.HeldOrPassed.discard (sound : l.Sound) (full : 4096 ≤ l.records.length) (free : l.blocked = false)
    (h : l.HeldOrPassed r p) : l.discard.HeldOrPassed r p := by
  intro hold
  match records : l.records with
  | [] => simp [records] at full
  | oldest :: rest =>
    have hold : (l.reader p).policy = .hold := by
      have kept : (l.discard.reader p).policy = (l.reader p).policy := by
        cases p with
        | fo => exact l.discard_fo_policy
        | se => exact l.discard_se_policy
      rwa [kept] at hold
    have elsewhere : (l.reader p).cursor ≠ oldest.seq := fun here =>
      Bool.false_ne_true (free.symm.trans ((EntryLog.blocked_iff records full).mpr ⟨p, hold, here⟩))
    have discarded : l.discard = { l with records := rest, fo := l.fo.skip oldest.seq, se := l.se.skip oldest.seq } := by
      simp only [EntryLog.discard, records]
    have unmoved : l.discard.unread p = l.unread p := by
      have same : l.discard.reader p = l.reader p := by
        rw [discarded]
        cases p <;> exact Reader.skip_of_ne elsewhere
      rw [EntryLog.unread, same, discarded]
      rfl
    have next : l.discard.next = l.next := by rw [discarded]
    rcases h hold with held | passed
    · rw [records] at held
      rcases List.mem_cons.mp held with rfl | inRest
      · obtain ⟨cursor, unread, -⟩ := sound.reader p
        obtain ⟨length, bound, -, numbers, -⟩ := sound
        have numbers := consecutive_iff.mpr numbers
        rw [records] at numbers length unread full
        obtain ⟨seqBound, distance⟩ := numbers.head
        have different : l.unread p ≠ rest.length + 1 := fun same =>
          elsewhere (eq_of_seqDistance_eq cursor bound seqBound (Eq.trans same distance.symm))
        have unread : l.unread p ≤ rest.length + 1 := unread
        rw [List.length_cons] at length
        refine .inr ?_
        rw [unmoved, next, distance]
        omega
      · exact .inl (by rwa [discarded])
    · exact .inr (by rwa [unmoved, next])

theorem EntryLog.HeldOrPassed.offer (sound : l.Sound) (bound : r.seq < Config.seqModulus) (h : l.HeldOrPassed r p) (f : Formed) :
    (l.offer f).HeldOrPassed r p := by
  by_cases room : l.records.length < 4096
  · rw [l.offer_room f room]
    exact h.store sound room bound f
  · cases blocked : l.blocked with
    | true =>
      rw [l.offer_blocked f (not_lt.mp room) blocked]
      cases p <;> exact h
    | false =>
      rw [l.offer_full f (not_lt.mp room) blocked]
      exact (h.discard sound (not_lt.mp room) blocked).store sound.discard (EntryLog.discard_length sound (not_lt.mp room)) bound f

theorem EntryLog.HeldOrPassed.yields (h : l.HeldOrPassed r p) (q : Port) :
    (l.setReader q { l.reader q with policy := .yields }).HeldOrPassed r p := by
  cases p <;> cases q <;> intro hold <;> first | exact h hold | cases hold

theorem EntryLog.Grows.heldOrPassed {m : EntryLog} (grows : l.Grows m) (sound : l.Sound) (held : r ∈ l.records) :
    m.HeldOrPassed r p := by
  obtain ⟨k, hk, rfl⟩ := List.getElem_of_mem held
  have bound := (consecutive_iff.mpr sound.2.2.2.1 k hk).1
  induction grows with
  | refl => exact fun _ => .inl held
  | offer f grown ih => exact ih.offer (grown.sound sound) bound f
  | yields q _ ih => exact ih.yields q

end

end Sys2Proof.Machine

open Sys2Proof Sys2Proof.Machine

/-- Settles O52: a step offers records to the log, sets a reader within it, or begins a cold start. -/
theorem logInvariantIsKept : Obligations.LogInvariantIsKept := by
  intro s t sound h
  match front : s.pending with
  | [] =>
    simp only [step, front] at h
    cases h
    exact sound
  | c :: rest =>
    simp only [step, front] at h
    by_cases cold : c = .coldStart
    · subst cold
      rcases exec_coldStart_log h with same | same
      · rwa [LogInv, same]
      · rw [LogInv, same]
        exact EntryLog.cold_sound
    · rcases exec_log h cold with grows | reread
      · exact grows.sound sound
      · exact reread.2 sound

/-- Settles O13: a record leaves the log only as the oldest of a full log that is not blocked, and a HOLD cursor does not stand on it
then; records stored afterwards take the record and the cursor equally far. -/
theorem holdCursorKeepsItsRecords : Obligations.HoldCursorKeepsItsRecords := by
  intro s t r p sound h notCold held gone _ hold
  match front : s.pending with
  | [] =>
    simp only [step, front] at h
    cases h
    exact absurd held gone
  | c :: rest =>
    simp only [step, front] at h
    have other : c ≠ .coldStart := fun cold => notCold (by rw [front, cold]; rfl)
    rcases exec_log h other with grows | reread
    · rcases grows.heldOrPassed sound held hold with still | passed
      · exact absurd still gone
      · exact passed.1
    · exact absurd (reread.1 ▸ held) gone

end

section
/-! The station ports and the claims (R30, R36, R184, R186, R189, R191, R193): a port keeps its own invariant through records and
events, and a claim is only ever loaded for a port whose link is up. -/

namespace Sys2Proof.Machine

-- One theorem at a time: each check by the kernel then needs one stack.
set_option Elab.async false

open Sys2Proof

/-! ## One port -/

section
variable {q : PortState} (sound : q.Sound)
include sound

theorem PortState.Sound.withAttn (slot : Option Response) (overrun : Bool) : ({ q with slot := slot, overrun := overrun }.withAttn).Sound := by
  obtain ⟨events, -, interval, timer, lost⟩ := sound
  exact ⟨events, by simp [PortState.withAttn, PortState.attnLevel], interval, timer, lost⟩

theorem PortState.Sound.queue (e : Event) : (q.queue e).Sound := by
  obtain ⟨events, attn, interval, timer, lost⟩ := sound
  by_cases room : q.events.length < 16
  · rw [q.queue_room e room]
    exact ⟨by simpa using room, by simp, interval, timer, lost⟩
  · rw [q.queue_full e (not_lt.mp room)]
    exact ⟨events, attn, interval, timer, lost⟩

theorem PortState.Sound.takeEvents (k : Nat) : ({ q with events := q.events.drop k, eventsLost := false }.withAttn).Sound := by
  obtain ⟨events, -, interval, timer, lost⟩ := sound
  exact ⟨by simp [PortState.withAttn]; omega, by simp [PortState.withAttn, PortState.attnLevel], interval, timer, lost⟩

theorem PortState.Sound.readOut (f : Fixed) : (q.readOut f).Sound := by
  simp only [PortState.readOut]
  split
  · exact sound
  · exact sound.withAttn none _

theorem PortState.Sound.tick : ({ q with timer := q.timer.map fun n => n - 1 } : PortState).Sound := by
  obtain ⟨events, attn, interval, timer, lost⟩ := sound
  refine ⟨events, attn, interval, fun n hn => ?_, lost⟩
  obtain ⟨m, hm, rfl⟩ := Option.map_eq_some_iff.mp hn
  obtain ⟨supervised, up, le⟩ := timer m hm
  exact ⟨supervised, up, (Nat.sub_le _ _).trans le⟩

/-- A port under supervision whose link is lost has no timer. -/
theorem PortState.Sound.loseLink (supervised : q.supervised = true) : ({ q with linkLost := true, timer := none } : PortState).Sound := by
  obtain ⟨events, attn, interval, -, -⟩ := sound
  exact ⟨events, attn, interval, by simp, fun _ => supervised⟩

theorem PortState.Sound.renewLink (supervised : q.supervised = true) :
    ({ q with linkLost := false, timer := some q.interval } : PortState).Sound := by
  obtain ⟨events, attn, interval, -, -⟩ := sound
  exact ⟨events, attn, interval, by simpa using supervised, by simp⟩

theorem PortState.Sound.supervise (never : q.supervised = false) {n : Nat} (le : n ≤ 255) :
    ({ q with supervised := true, interval := n, timer := some n } : PortState).Sound := by
  obtain ⟨events, attn, -, -, lost⟩ := sound
  have up : q.linkLost = false := by
    cases link : q.linkLost with
    | false => rfl
    | true => exact absurd (lost link) (by simp [never])
  exact ⟨events, attn, le, by simpa using up, fun _ => rfl⟩

end

theorem PortState.start_sound : PortState.start.Sound := of_decide_eq_true rfl

/-! ## Both ports -/

theorem PortInv.port {s : State} (inv : PortInv s) (p : Port) : (s.port p).Sound := by
  cases p with
  | fo => exact inv.1
  | se => exact inv.2

theorem PortInv.setPort {s : State} (inv : PortInv s) (p : Port) {q : PortState} (sound : q.Sound) : PortInv (s.setPort p q) := by
  cases p with
  | fo => exact ⟨sound, inv.2⟩
  | se => exact ⟨inv.1, sound⟩

theorem State.setPort_linkLost {s : State} {p : Port} {q : PortState} (same : q.linkLost = (s.port p).linkLost) (r : Port) :
    ((s.setPort p q).port r).linkLost = (s.port r).linkLost := by
  cases p <;> cases r <;> first | exact same | rfl

/-- The ports meet their invariant, and each link is lost or up as in `lost`. -/
def State.PortsSound (lost : Port → Bool) (s : State) : Prop := PortInv s ∧ ∀ p, (s.port p).linkLost = lost p

theorem State.PortsSound.dependsOn (lost : Port → Bool) : DependsOn [.ports] (State.PortsSound lost) := fun s t same kept => by
  obtain ⟨fo, se⟩ : s.Agree t .ports := same .ports (List.mem_singleton_self _)
  obtain ⟨inv, link⟩ := kept
  have ports (p : Port) : t.port p = s.port p := by
    cases p with
    | fo => exact fo
    | se => exact se
  exact ⟨⟨by rw [fo]; exact inv.1, by rw [se]; exact inv.2⟩, fun p => by rw [ports, link]⟩

section
variable {lost : Port → Bool} {s : State} (kept : s.PortsSound lost)
include kept

theorem State.PortsSound.setPort (p : Port) {q : PortState} (sound : q.Sound) (same : q.linkLost = (s.port p).linkLost) :
    (s.setPort p q).PortsSound lost :=
  ⟨kept.1.setPort p sound, fun r => (State.setPort_linkLost same r).trans (kept.2 r)⟩

theorem State.PortsSound.raise (p : Port) (e : Event) : (s.raise p e).PortsSound lost :=
  kept.setPort p ((kept.1.port p).queue e) (PortState.queue_linkLost _ e)

theorem State.PortsSound.notify (before : EntryLog) (p : Port) : (s.notify before p).PortsSound lost := by
  rcases s.notify_cases before p with same | told
  · rwa [same]
  · rw [told]
    exact kept.raise p _

end

theorem State.PortsSound.telling (lost : Port → Bool) : Telling (State.PortsSound lost) where
  dep := (State.PortsSound.dependsOn lost).weaken
  raise := fun _ p e kept => kept.raise p e
  append := fun s _ _ _ _ kept =>
    (((State.PortsSound.dependsOn lost).of_same (s.setLog_same _) kept).notify s.log .fo).notify s.log .se

/-! ## Claims and ports together -/

/-- Claims off lost links, and both ports sound. -/
def State.LinksSound (s : State) : Prop := ClaimInv s ∧ PortInv s

theorem State.LinksSound.dependsOn : DependsOn [.claims, .ports] State.LinksSound := fun s t same inv => by
  obtain ⟨claims, ports⟩ := inv
  have claimsSame : t.claims = s.claims := same .claims (by simp)
  obtain ⟨sound, link⟩ := State.PortsSound.dependsOn (fun p => (s.port p).linkLost) s t (fun f hf => same f (by simp_all))
    ⟨ports, fun _ => rfl⟩
  refine ⟨fun i c hc => ?_, sound⟩
  rw [link]
  exact claims i c (by rwa [claimsSame] at hc)

/-- Each claim is one of `s`, or a full lease of a port that `fresh` names. -/
def State.ClaimsFrom (s : State) (fresh : Port → Prop) (t : State) : Prop :=
  ∀ i : Slot, ∀ c ∈ t.claims[i], c ∈ s.claims[i] ∨ (c.lease = 120 ∧ fresh c.holder)

theorem State.ClaimsFrom.of_eq {s t : State} {fresh : Port → Prop} (same : t.claims = s.claims) : s.ClaimsFrom fresh t :=
  fun i c hc => .inl (by rwa [same] at hc)

theorem State.LinksSound.portsSound {s : State} (inv : s.LinksSound) : s.PortsSound fun p => (s.port p).linkLost :=
  ⟨inv.2, fun _ => rfl⟩

/-- Claims that were there, or are fresh for ports whose link is up, meet the invariant while no link changes. -/
theorem State.LinksSound.keep {s t : State} (inv : s.LinksSound) (ports : t.PortsSound fun p => (s.port p).linkLost)
    {fresh : Port → Prop} (up : ∀ p, fresh p → (s.port p).linkLost = false) (claims : s.ClaimsFrom fresh t) : t.LinksSound := by
  refine ⟨fun i c hc => ?_, ports.1⟩
  rw [ports.2 c.holder]
  rcases claims i c hc with old | ⟨lease, new⟩
  · exact inv.1 i c old
  · exact ⟨by omega, up _ new⟩

theorem State.LinksSound.of_portsSound {s t : State} (inv : s.LinksSound) (ports : t.PortsSound fun p => (s.port p).linkLost)
    (same : t.claims = s.claims) : t.LinksSound := inv.keep ports (fresh := fun _ => False) (fun _ => False.elim) (.of_eq same)

theorem State.LinksSound.setPort {s : State} (inv : s.LinksSound) (p : Port) {q : PortState} (sound : q.Sound)
    (same : q.linkLost = (s.port p).linkLost) : (s.setPort p q).LinksSound :=
  inv.of_portsSound (inv.portsSound.setPort p sound same) (s.setPort_claims p q)

theorem State.LinksSound.requestFree : RequestFree State.LinksSound where
  zeros := fun _ p _ inv => inv.setPort p (inv.2.port p) rfl
  overrun := fun _ p inv => inv.setPort p (inv.2.port p) rfl
  respond := fun _ p r inv => inv.setPort p ((inv.2.port p).withAttn (some r) _) rfl

/-! ## What the requests make of the claims -/

theorem State.getElem_setClaim (s : State) (i j : Slot) (c : Option Claim) :
    (s.setClaim i c).claims[j] = if i = j then c else s.claims[j] := by
  simp [Vector.getElem_set, Fin.ext_iff]

theorem State.claimsFrom_setClaim {s t : State} (same : t.claims = s.claims) (i : Slot) {fresh : Port → Prop} {c : Option Claim}
    (new : ∀ x ∈ c, x.lease = 120 ∧ fresh x.holder) : s.ClaimsFrom fresh (t.setClaim i c) := by
  intro j x hx
  rw [t.getElem_setClaim] at hx
  split at hx
  · exact .inr (new x hx)
  · exact .inl (by rwa [same] at hx)

theorem State.claimsFrom_loadLease {s t : State} (same : t.claims = s.claims) (i : Slot) (p : Port) :
    s.ClaimsFrom (· = p) (t.loadLease i p) :=
  State.claimsFrom_setClaim same i fun x hx => by
    cases hx
    exact ⟨rfl, rfl⟩

theorem State.claimsFrom_free {s t : State} (same : t.claims = s.claims) (i : Slot) (fresh : Port → Prop) :
    s.ClaimsFrom fresh (t.setClaim i none) := State.claimsFrom_setClaim same i fun _ hx => nomatch hx

theorem claimed_claimsFrom {p : Port} {slot : Byte} {ok : Bool} {rule : Slot → State → Reply} {s : State}
    (own : ∀ i, (rule i s).1.claims = s.claims) : s.ClaimsFrom (· = p) (claimed p slot ok rule s).1 := by
  simp only [claimed, renewing]
  repeat' split
  · exact .of_eq rfl
  · exact .of_eq rfl
  · exact .of_eq rfl
  · exact State.claimsFrom_loadLease (own _) _ p
  · exact .of_eq (own _)

section
variable (s : State) (p : Port) (slot : Byte)

theorem checkIn_claimsFrom (cls count : Byte) (arrival departure : DayMinute) (allowance : Triple) :
    s.ClaimsFrom (· = p) (checkIn p slot cls count arrival departure allowance s).1 := by
  refine claimed_claimsFrom fun i => ?_
  repeat' split
  all_goals simp [refuse, checkInRoom, accept]

theorem addCards_claimsFrom (cls count : Byte) : s.ClaimsFrom (· = p) (addCards p slot cls count s).1 := by
  refine claimed_claimsFrom fun i => ?_
  repeat' split
  all_goals simp [refuse, addCardsTo, accept]

theorem changeStay_claimsFrom (departure : DayMinute) : s.ClaimsFrom (· = p) (changeStay p slot departure s).1 := by
  refine claimed_claimsFrom fun i => ?_
  repeat' split
  all_goals simp [refuse, changeStayOf, accept]

theorem checkOut_claimsFrom : s.ClaimsFrom (· = p) (checkOut p slot s).1 := by
  refine claimed_claimsFrom fun i => ?_
  split
  · have ended (t : State) : (t.endRoomSession i).claims = t.claims := (t.endRoomSession_same i).agree .claims
    have logged (t : State) : (logRevokes p (s.table.liveOf i) t).claims = t.claims := (logRevokes_same t p _).agree .claims
    simp [checkOutRoom, accept, ended, logged]
  · rfl

theorem settle_claimsFrom : s.ClaimsFrom (· = p) (settle p slot s).1 := by
  refine claimed_claimsFrom fun i => ?_
  repeat' split
  all_goals simp [refuse, settleRoom, accept]

theorem holdRoom_claimsFrom : s.ClaimsFrom (· = p) (holdRoom p slot s).1 := by
  refine claimed_claimsFrom fun i => ?_
  split
  all_goals simp [refuse, accept]

theorem freeRoom_claimsFrom : s.ClaimsFrom (· = p) (freeRoom p slot s).1 := by
  refine claimed_claimsFrom fun i => ?_
  split
  all_goals simp [refuse, accept]

theorem claim_claimsFrom (preempt : Byte) : s.ClaimsFrom (· = p) (claim p slot preempt s).1 := by
  simp only [claim]
  repeat' split
  · exact .of_eq rfl
  · exact .of_eq rfl
  · exact State.claimsFrom_loadLease rfl _ p
  · exact State.claimsFrom_loadLease rfl _ p
  · rename_i i _ _ _ _ _ _ se
    obtain ⟨rfl, -⟩ := se
    have taken := State.claimsFrom_loadLease (rfl : s.claims = s.claims) i .se
    exact fun j c hc => taken j c (by simpa [preemptClaim, accept] using hc)
  · exact .of_eq rfl

theorem releaseClaim_claimsFrom : s.ClaimsFrom (· = p) (releaseClaim p slot s).1 := by
  simp only [releaseClaim]
  repeat' split
  · exact .of_eq rfl
  · exact State.claimsFrom_free rfl _ _
  · exact .of_eq rfl

theorem revokeRecord_claims (c : Credential) (reason : RevokeReason) : (revokeRecord p c reason s).1.claims = s.claims := by
  simp only [revokeRecord]
  split <;> simp [accept, State.logRevoke]

theorem revoke_claimsFrom (card : Triple) (reason : Byte) : s.ClaimsFrom (· = p) (revoke p card reason s).1 := by
  simp only [revoke, revokeFromFo, renewing]
  repeat' split
  · exact .of_eq rfl
  · exact .of_eq rfl
  · exact .of_eq rfl
  · exact .of_eq rfl
  · exact .of_eq rfl
  · exact State.claimsFrom_loadLease (revokeRecord_claims s .fo _ _) _ .fo
  · exact .of_eq (revokeRecord_claims s .fo _ _)
  · exact .of_eq (revokeRecord_claims s .se _ _)

end

theorem ruleOf_claimsFrom {i : Instr} {p : Port} {rq : Request} {body : List Byte} (request : i.request? = some (p, rq, body))
    (only : tellsOnly rq = true) (s : State) : s.ClaimsFrom (· = p) (ruleOf i s).1 := by
  cases untouched : apart [.claims] (touchedBy rq) with
  | true => exact .of_eq ((ruleOf_same request s).agree .claims untouched)
  | false =>
    cases i with
    | checkIn => cases request; exact checkIn_claimsFrom s _ _ _ _ _ _ _
    | addCards => cases request; exact addCards_claimsFrom s _ _ _ _
    | changeStay => cases request; exact changeStay_claimsFrom s _ _ _
    | checkOut => cases request; exact checkOut_claimsFrom s _ _
    | settle => cases request; exact settle_claimsFrom s _ _
    | holdRoom => cases request; exact holdRoom_claimsFrom s _ _
    | freeRoom => cases request; exact freeRoom_claimsFrom s _ _
    | claim => cases request; exact claim_claimsFrom s _ _ _
    | releaseClaim => cases request; exact releaseClaim_claimsFrom s _ _
    | revoke => cases request; exact revoke_claimsFrom s _ _ _
    | keepalive => cases request; exact Bool.noConfusion only
    | _ => cases request <;> exact Bool.noConfusion untouched

/-! ## The expiry of a link (R36, R193) -/

theorem freeForLink_claims (s : State) (p : Port) (i j : Slot) :
    (freeForLink p s i).claims[j] = if i = j ∧ s.holder j = some p then none else s.claims[j] := by
  by_cases mine : s.holder i = some p
  · rw [freeForLink, if_pos mine, State.raise_claims, State.getElem_setClaim]
    by_cases same : i = j
    · subst same
      rw [if_pos rfl, if_pos ⟨rfl, mine⟩]
    · rw [if_neg same, if_neg fun both => same both.1]
  · rw [freeForLink, if_neg mine, if_neg]
    rintro ⟨rfl, held⟩
    exact mine held

theorem State.holder_of_claims {s t : State} {i : Slot} (same : t.claims[i] = s.claims[i]) : t.holder i = s.holder i := by
  rw [State.holder, same, State.holder]

/-- Every claim of the port is freed, and no other (R36). -/
theorem State.freeClaims_claims (s : State) (p : Port) (j : Slot) :
    (s.freeClaims p).claims[j] = if s.holder j = some p then none else s.claims[j] := by
  have freed (slots : List Slot) (x : State) :
      (slots.foldl (freeForLink p) x).claims[j] = if j ∈ slots ∧ x.holder j = some p then none else x.claims[j] := by
    induction slots generalizing x with
    | nil => simp
    | cons i rest ih =>
      rw [List.foldl_cons, ih, freeForLink_claims]
      by_cases here : i = j ∧ x.holder j = some p
      · have gone : (freeForLink p x i).holder j = none := by
          rw [State.holder, freeForLink_claims, if_pos here]
          rfl
        rw [gone, if_pos here, if_neg (by simp), if_pos ⟨by rw [here.1]; exact List.mem_cons_self .., here.2⟩]
      · have kept : (freeForLink p x i).holder j = x.holder j := by
          rw [State.holder, freeForLink_claims, if_neg here, State.holder]
        rw [kept, if_neg here]
        have others : (j ∈ i :: rest ∧ x.holder j = some p) ↔ (j ∈ rest ∧ x.holder j = some p) := by
          rw [List.mem_cons]
          constructor
          · rintro ⟨rfl | mem, held⟩
            · exact absurd ⟨rfl, held⟩ here
            · exact ⟨mem, held⟩
          · rintro ⟨mem, held⟩
            exact ⟨.inr mem, held⟩
        simp only [others]
  rw [State.freeClaims, freed]
  simp [allSlots]

theorem State.PortsSound.freeClaims {lost : Port → Bool} {s : State} (kept : s.PortsSound lost) (p : Port) :
    (s.freeClaims p).PortsSound lost := by
  refine foldl_keeps (fun x i hx => ?_) allSlots kept
  simp only [freeForLink]
  split
  · exact State.PortsSound.raise ((State.PortsSound.dependsOn lost).of_same (x.setClaim_same i none) hx) p _
  · exact hx

/-- The state with a port's link lost. -/
def State.loseLink (s : State) (p : Port) : State := s.setPort p { s.port p with linkLost := true, timer := none }

theorem State.superviseExpire_claims (s : State) (p : Port) (j : Slot) :
    (s.superviseExpire p).claims[j] = if s.holder j = some p then none else s.claims[j] := by
  have lost : (s.loseLink p).claims = s.claims := s.setPort_claims p _
  have freed := (s.loseLink p).freeClaims_claims p j
  rw [State.holder, lost] at freed
  simp only [State.superviseExpire, State.raise_claims, State.append_claims]
  exact freed

theorem State.LinksSound.superviseExpire {s : State} (inv : s.LinksSound) {p : Port} (supervised : (s.port p).supervised = true) :
    (s.superviseExpire p).LinksSound := by
  let lost : Port → Bool := fun r => ((s.loseLink p).port r).linkLost
  have kept : (s.loseLink p).PortsSound lost := ⟨inv.2.setPort p ((inv.2.port p).loseLink supervised), fun _ => rfl⟩
  have expired : (s.superviseExpire p).PortsSound lost := by
    have tell := State.PortsSound.telling lost
    simp only [State.superviseExpire]
    exact tell.raise _ _ _ (tell.append _ _ _ _ _ ((State.PortsSound.dependsOn lost).of_same (State.setLog_same _ _)
      (kept.freeClaims p)))
  refine ⟨fun i c hc => ?_, expired.1⟩
  rw [s.superviseExpire_claims] at hc
  split at hc
  · cases hc
  · rename_i other
    obtain ⟨lease, up⟩ := inv.1 i c hc
    have elsewhere : c.holder ≠ p := fun same => other (by rw [State.holder, hc, Option.map_some, same])
    refine ⟨lease, ?_⟩
    rw [expired.2]
    show ((s.setPort p _).port c.holder).linkLost = false
    generalize c.holder = r at *
    cases p <;> cases r <;> first | exact up | exact absurd rfl elsewhere

/-! ## The requests of a port on itself -/

theorem State.LinksSound.keepalive {s : State} (inv : s.LinksSound) (p : Port) (token : Half) : (keepalive p token s).1.LinksSound := by
  simp only [Machine.keepalive, keepaliveReply]
  by_cases supervised : (s.port p).supervised = true
  · simp only [supervised, Bool.not_true, Bool.false_eq_true, if_false]
    repeat' split
    · have renewed := (inv.2.port p).renewLink supervised
      simp only [supervised] at renewed
      refine ⟨fun i c hc => ?_, inv.2.setPort p renewed⟩
      rw [State.setPort_claims] at hc
      obtain ⟨lease, up⟩ := inv.1 i c hc
      refine ⟨lease, ?_⟩
      generalize c.holder = r at *
      cases p <;> cases r <;> first | exact up | rfl
    · exact inv
    · exact inv.superviseExpire supervised
  · simp only [Bool.eq_false_of_not_eq_true supervised, Bool.not_false, if_true]
    split <;> exact inv

theorem State.LinksSound.readEvents {s : State} (inv : s.LinksSound) (p : Port) (count : Byte) : (readEvents p count s).1.LinksSound := by
  simp only [Machine.readEvents]
  split
  · exact inv
  · exact inv.setPort p ((inv.2.port p).takeEvents _) rfl

theorem State.LinksSound.setSupervision {s : State} (inv : s.LinksSound) (p : Port) (interval : Byte) :
    (setSupervision p interval s).1.LinksSound := by
  simp only [Machine.setSupervision]
  split
  · exact inv
  · rename_i never
    exact inv.setPort p ((inv.2.port p).supervise (by simpa using never) (by simp [clamp])) rfl

theorem State.LinksSound.rule {i : Instr} {p : Port} {rq : Request} {body : List Byte} (request : i.request? = some (p, rq, body))
    (touched : apart [.claims, .ports] (touchedBy rq) = false) {s : State} (ready : s.Ready rq p) (inv : s.LinksSound) :
    (ruleOf i s).1.LinksSound := by
  obtain ⟨-, -, -, whenLost⟩ := ready
  cases only : tellsOnly rq with
  | true =>
    have up : (s.port p).linkLost = false := by
      have notTaken : rq.takenWhenLost = false := by cases rq <;> first | rfl | exact Bool.noConfusion only | exact Bool.noConfusion touched
      cases link : (s.port p).linkLost with
      | false => rfl
      | true => exact absurd (whenLost link) (by simp [notTaken])
    exact inv.keep ((State.PortsSound.telling _).rule request only inv.portsSound) (fun r (fresh : r = p) => fresh ▸ up)
      (ruleOf_claimsFrom request only s)
  | false =>
    cases i with
    | keepalive => exact inv.keepalive _ _
    | readEvents => exact inv.readEvents _ _
    | setSupervision => exact inv.setSupervision _ _
    | readLog | setLogPolicy | setLogThreshold => cases request; exact Bool.noConfusion touched
    | _ => cases request <;> exact Bool.noConfusion only

/-! ## The events -/

theorem State.LinksSound.expireTimer (t : Timer) {s : State} (inv : s.LinksSound) : (expireTimer t s).LinksSound := by
  have tell := State.PortsSound.telling fun p => (s.port p).linkLost
  cases t with
  | lease i =>
    refine inv.keep (tell.expireLease i inv.portsSound) (fresh := fun _ => False) (fun _ => False.elim) ?_
    simp only [Machine.expireTimer, expireLease]
    repeat' split
    · exact fun j c hc => State.claimsFrom_free rfl i (fun _ => False) j c (by simpa using hc)
    · exact .of_eq rfl
    · exact .of_eq rfl
  | supervision p =>
    simp only [Machine.expireTimer, expireSupervision]
    split
    · rename_i due
      simp only [Bool.and_eq_true, decide_eq_true_eq] at due
      obtain ⟨⟨-, timer⟩, -⟩ := due
      obtain ⟨-, -, -, timers, -⟩ := inv.2.port p
      exact inv.superviseExpire (timers 0 timer).1
    · exact inv
  | grant u => exact inv.of_portsSound (tell.expireGrant u inv.portsSound) ((expireGrant_same s u).agree .claims)
  | ajar u => exact inv.of_portsSound (tell.expireAjar u inv.portsSound) ((expireAjar_same s u).agree .claims)
  | session u => exact inv.of_portsSound (tell.expireSession u inv.portsSound) ((expireSession_same s u).agree .claims)
  | pulse g => exact State.LinksSound.dependsOn.of_same (expirePulse_same s g) inv

theorem State.LinksSound.tickTimers {s : State} (inv : s.LinksSound) : s.tickTimers.LinksSound := by
  have port (p : Port) : (s.tickTimers.port p).linkLost = (s.port p).linkLost := by cases p <;> rfl
  refine ⟨fun i c hc => ?_, (inv.2.port .fo).tick, (inv.2.port .se).tick⟩
  simp only [State.tickTimers, Fin.getElem_fin, Vector.getElem_map] at hc
  obtain ⟨old, hold, rfl⟩ := Option.map_eq_some_iff.mp hc
  obtain ⟨lease, up⟩ := inv.1 i old hold
  rw [port]
  exact ⟨(Nat.sub_le _ _).trans lease, up⟩

theorem State.LinksSound.secondTick {s : State} (inv : s.LinksSound) : (secondTick s).LinksSound := by
  simp only [Machine.secondTick]
  split
  · exact inv
  · have ticked := State.LinksSound.dependsOn.of_same (s.setClock_same s.clock.tick.1) inv
    split
    · exact ticked
    · refine State.expireTimers_keeps _ (fun t x hx => State.LinksSound.expireTimer t hx) _ _ ?_
      split
      · exact State.LinksSound.dependsOn.of_same (State.workLevels_same _) ticked.tickTimers
      · exact ticked.tickTimers

theorem State.LinksSound.crystalCycle {s : State} (inv : s.LinksSound) : (crystalCycle s).LinksSound := by
  simp only [Machine.crystalCycle]
  repeat' split
  · exact inv
  · exact State.LinksSound.dependsOn.of_same (s.setClock_same _) inv
  · exact inv.secondTick

theorem State.LinksSound.rspByteReceived {s : State} (inv : s.LinksSound) (p : Port) : (rspByteReceived p s).LinksSound := by
  simp only [Machine.rspByteReceived]
  split
  · exact inv
  · exact inv.setPort p (inv.2.port p) rfl

theorem State.LinksSound.responseTransaction {s : State} (inv : s.LinksSound) (p : Port) (n : Nat) :
    (responseTransaction p n s).LinksSound := by
  have link (f : Fixed) : ((s.port p).readOut f).linkLost = (s.port p).linkLost := by
    simp only [PortState.readOut]
    split <;> rfl
  simp only [Machine.responseTransaction]
  split
  · exact inv
  · split
    · exact inv.setPort p ((inv.2.port p).readOut _) (link _)
    · exact inv.setPort p (inv.2.port p) rfl

theorem State.LinksSound.assertReset {s : State} (inv : s.LinksSound) : (assertReset s).LinksSound := by
  by_cases off : s.power.phase = .off
  · rwa [Machine.assertReset, if_pos off]
  · rw [Machine.assertReset, if_neg off]
    refine ⟨fun i c hc => ?_, inv.2⟩
    obtain ⟨lease, up⟩ := inv.1 i c hc
    refine ⟨lease, ?_⟩
    generalize c.holder = r at *
    cases r <;> exact up

/-- With no claim and both ports at their start values the invariant holds. -/
theorem State.LinksSound.fresh {s : State} (claims : s.claims = .replicate 128 none) (fo : s.fo = PortState.start)
    (se : s.se = PortState.start) : s.LinksSound := by
  refine ⟨fun i c hc => ?_, by rw [fo]; exact PortState.start_sound, by rw [se]; exact PortState.start_sound⟩
  rw [claims] at hc
  simp at hc

theorem State.LinksSound.event (c : Instr) {s : State} (touched : apart [.claims, .ports] (touchedByEvent c) = false)
    (inv : s.LinksSound) : (eventOf c s).LinksSound := by
  have tell := State.PortsSound.telling fun p => (s.port p).linkLost
  have told (ports : (eventOf c s).PortsSound fun p => (s.port p).linkLost)
      (other : apart [.claims] (touchedByEvent c) = true) : (eventOf c s).LinksSound :=
    inv.of_portsSound ports ((eventOf_same c s).agree .claims other)
  cases c with
  | secondTick => exact inv.secondTick
  | crystalCycle => exact inv.crystalCycle
  | claimLeaseExpiry i => exact inv.expireTimer (.lease i)
  | supervisionTimerExpiry p => exact inv.expireTimer (.supervision p)
  | pendingGrantExpiry u => exact inv.expireTimer (.grant u)
  | ajarTimerExpiry u => exact inv.expireTimer (.ajar u)
  | minibarSessionExpiry u => exact inv.expireTimer (.session u)
  | rspByteReceived p => exact inv.rspByteReceived p
  | responseTransaction p n => exact inv.responseTransaction p n
  | pollTimeout line => exact told (tell.frameKeeps.pollTimeout line inv.portsSound) rfl
  | verdictTimeout line => exact told (tell.frameKeeps.verdictTimeout line inv.portsSound) rfl
  | answer line frame => exact told (tell.frameKeeps.frameClosed line frame inv.portsSound) rfl
  | ack line frame => exact told (tell.frameKeeps.frameClosed line frame inv.portsSound) rfl
  | evacRisingEdge => exact told (tell.evacEdge true inv.portsSound) rfl
  | evacFallingEdge => exact told (tell.evacEdge false inv.portsSound) rfl
  | startEnd =>
    refine told ?_ rfl
    show (endStart s).PortsSound _
    simp only [endStart]
    split
    · exact tell.takeLineDifference ((State.PortsSound.dependsOn _).of_same (s.commitStart_same _) inv.portsSound)
    · exact inv.portsSound
  | rstAsserted => exact inv.assertReset
  | mainPowerFall =>
    show (mainPowerFall s).LinksSound
    by_cases off : s.power.phase = .off
    · rwa [mainPowerFall, if_pos off]
    · rw [mainPowerFall, if_neg off]
      exact State.LinksSound.fresh rfl rfl rfl
  | warmStart =>
    show (if s.power.latch then s else beginWarm s).LinksSound
    by_cases lost : s.power.latch = true
    · rwa [if_pos lost]
    · rw [if_neg lost]
      exact State.LinksSound.fresh rfl rfl rfl
  | coldStart =>
    show (if s.power.latch then beginCold s else s).LinksSound
    by_cases lost : s.power.latch = true
    · rw [if_pos lost]
      exact State.LinksSound.fresh rfl rfl rfl
    · rwa [if_neg lost]
  | _ => exact Bool.noConfusion touched

end Sys2Proof.Machine

open Sys2Proof Sys2Proof.Machine

/-- Settles O58: ports change by records and events, by their own requests and by the expiry of their link, which frees every claim the
port holds; a claim is loaded only for a port whose request is taken with its link up. -/
theorem portInvariantIsKept : Obligations.PortInvariantIsKept := by
  intro s t claims ports
  exact step_keeps_of State.LinksSound.dependsOn rfl State.LinksSound.requestFree
    (fun _ _ _ _ request touched _ ready inv => inv.rule request touched ready)
    (fun c _ touched inv => inv.event c touched) s t ⟨claims, ports⟩

end

section
/-! The gates (R149, R156): the schedule stays sorted under its edits, and whatever changes what the output function reads sets the
outputs again. -/

namespace Sys2Proof.Machine

-- One theorem at a time: each check by the kernel then needs one stack.
set_option Elab.async false

open Sys2Proof

/-! ## The schedule (R149 to R151) -/

/-- A schedule of at most 32 entries, sorted by minute, each with a minute of day and a gate. -/
abbrev ScheduleSound (schedule : List ScheduleEntry) : Prop :=
  schedule.length ≤ 32 ∧ schedule.Pairwise (fun a b => a.minute ≤ b.minute) ∧ ∀ e ∈ schedule, e.minute ≤ 1439 ∧ e.gates ≠ 0

theorem insertEntry_length (schedule : List ScheduleEntry) (e : ScheduleEntry) :
    (insertEntry schedule e).length = schedule.length + 1 := by
  have whole := congrArg List.length (List.takeWhile_append_dropWhile (p := fun x => decide (x.minute ≤ e.minute)) (l := schedule))
  rw [List.length_append] at whole
  simp only [insertEntry, List.length_append, List.length_cons]
  omega

theorem mem_insertEntry {schedule : List ScheduleEntry} {e x : ScheduleEntry} :
    x ∈ insertEntry schedule e ↔ x = e ∨ x ∈ schedule := by
  conv_rhs => rw [← List.takeWhile_append_dropWhile (p := fun x => decide (x.minute ≤ e.minute)) (l := schedule)]
  simp only [insertEntry, List.mem_append, List.mem_cons]
  tauto

/-- The entries a new one is put before are all later than it. -/
theorem lt_of_mem_dropWhile {schedule : List ScheduleEntry} (sorted : schedule.Pairwise fun a b => a.minute ≤ b.minute) {m : Nat}
    {x : ScheduleEntry} (mem : x ∈ schedule.dropWhile fun x => decide (x.minute ≤ m)) : m < x.minute := by
  induction schedule with
  | nil => cases mem
  | cons y rest ih =>
    obtain ⟨first, restSorted⟩ := List.pairwise_cons.mp sorted
    rw [List.dropWhile_cons] at mem
    split at mem
    · exact ih restSorted mem
    · rename_i later
      have later : m < y.minute := by simpa using later
      rcases List.mem_cons.mp mem with rfl | mem
      · exact later
      · exact later.trans_le (first x mem)

theorem insertEntry_sorted {schedule : List ScheduleEntry} (sorted : schedule.Pairwise fun a b => a.minute ≤ b.minute)
    (e : ScheduleEntry) : (insertEntry schedule e).Pairwise fun a b => a.minute ≤ b.minute := by
  have before : ∀ x ∈ schedule.takeWhile (fun x => decide (x.minute ≤ e.minute)), x.minute ≤ e.minute :=
    fun x mem => by simpa using List.mem_takeWhile_imp mem
  have after : ∀ x ∈ schedule.dropWhile (fun x => decide (x.minute ≤ e.minute)), e.minute < x.minute :=
    fun x => lt_of_mem_dropWhile sorted
  refine List.pairwise_append.mpr ⟨sorted.sublist (List.takeWhile_sublist _), List.pairwise_cons.mpr ⟨fun x mem => (after x mem).le,
    sorted.sublist (List.dropWhile_sublist _)⟩, fun x hx y hy => ?_⟩
  rcases List.mem_cons.mp hy with rfl | hy
  · exact before x hx
  · exact (before x hx).trans (after y hy).le

theorem ScheduleSound.insert {schedule : List ScheduleEntry} (sound : ScheduleSound schedule) (room : schedule.length < 32)
    {e : ScheduleEntry} (minute : e.minute ≤ 1439) (gates : e.gates ≠ 0) : ScheduleSound (insertEntry schedule e) := by
  obtain ⟨-, sorted, fields⟩ := sound
  refine ⟨by rw [insertEntry_length]; exact room, insertEntry_sorted sorted e, fun x hx => ?_⟩
  rcases mem_insertEntry.mp hx with rfl | old
  · exact ⟨minute, gates⟩
  · exact fields x old

theorem ScheduleSound.erase {schedule : List ScheduleEntry} (sound : ScheduleSound schedule) (k : Nat) :
    ScheduleSound (schedule.eraseIdx k) := by
  obtain ⟨length, sorted, fields⟩ := sound
  have sub := List.eraseIdx_sublist schedule k
  exact ⟨sub.length_le.trans length, sorted.sublist sub, fun x hx => fields x (sub.subset hx)⟩

/-! ## Outputs set while the part runs -/

/-- The part runs with a sound schedule. -/
def State.ScheduleLive (s : State) : Prop := s.running = true ∧ ScheduleSound s.gates.schedule

/-- The part runs with a sound schedule and every output as the output function gives it. -/
def State.GatesLive (s : State) : Prop :=
  s.ScheduleLive ∧ ∀ g : Gate, s.gates.outputs[g] = outputLevel s.gates s.wing.mode g

/-- The schedule and the outputs as the invariant has them, in any phase. -/
def State.GatesSound (s : State) : Prop := ScheduleInv s ∧ OutputInv s

theorem State.outputMode_running {s : State} (running : s.running = true) : s.outputMode = some s.wing.mode := by
  simp only [State.outputMode, (s.running_iff).mp running]

theorem State.GatesSound.live {s : State} (sound : s.GatesSound) (running : s.running = true) : s.GatesLive :=
  ⟨⟨running, sound.1⟩, sound.2 s.wing.mode (State.outputMode_running running)⟩

theorem State.GatesLive.sound {s : State} (live : s.GatesLive) : s.GatesSound := by
  obtain ⟨⟨running, schedule⟩, outputs⟩ := live
  refine ⟨schedule, fun m hm => ?_⟩
  rw [State.outputMode_running running] at hm
  cases hm
  exact outputs

theorem State.ScheduleLive.dependsOn : DependsOn [.phase, .gates] State.ScheduleLive := fun s t same live => by
  have phase : t.power.phase = s.power.phase := same .phase (by simp)
  have gates : t.gates = s.gates := same .gates (by simp)
  rwa [State.ScheduleLive, t.running_iff, phase, gates, ← s.running_iff]

theorem State.GatesLive.dependsOn : DependsOn [.phase, .gates, .wing] State.GatesLive := fun s t same live => by
  have gates : t.gates = s.gates := same .gates (by simp)
  have wing : t.wing = s.wing := same .wing (by simp)
  obtain ⟨schedule, outputs⟩ := live
  refine ⟨State.ScheduleLive.dependsOn s t (fun f hf => same f (by simp_all; tauto)) schedule, ?_⟩
  rwa [gates, wing]

theorem State.GatesSound.dependsOn : DependsOn [.phase, .gates, .wing] State.GatesSound := fun s t same sound => by
  have phase : t.power.phase = s.power.phase := same .phase (by simp)
  have gates : t.gates = s.gates := same .gates (by simp)
  have wing : t.wing = s.wing := same .wing (by simp)
  have mode : t.outputMode = s.outputMode := by simp only [State.outputMode, phase, wing]
  obtain ⟨schedule, outputs⟩ := sound
  refine ⟨by rwa [ScheduleInv, gates], fun m hm => ?_⟩
  rw [gates]
  exact outputs m (mode ▸ hm)

section
variable {s t : State}

theorem State.ScheduleLive.of_same {touched : List Field} (live : s.ScheduleLive) (same : State.SameBut touched s t)
    (other : apart [.phase, .gates] touched = true := by rfl) : t.ScheduleLive :=
  State.ScheduleLive.dependsOn.of_same same live other

theorem State.GatesLive.of_same {touched : List Field} (live : s.GatesLive) (same : State.SameBut touched s t)
    (other : apart [.phase, .gates, .wing] touched = true := by rfl) : t.GatesLive :=
  State.GatesLive.dependsOn.of_same same live other

/-- Gates with the same schedule leave it sound. -/
theorem State.ScheduleLive.setGates (live : s.ScheduleLive) {g : Gates} (same : g.schedule = s.gates.schedule) :
    ({ s with gates := g } : State).ScheduleLive := ⟨live.1, by rw [same]; exact live.2⟩

theorem State.ScheduleLive.setOutputs (live : s.ScheduleLive) : s.setOutputs.GatesLive :=
  ⟨live.setGates rfl, s.setOutputs_outputs⟩

theorem State.ScheduleLive.workLevels (live : s.ScheduleLive) : s.workLevels.GatesLive :=
  (live.setGates (g := s.gates.work s.clock.minute) rfl).setOutputs

/-- A new schedule changes no output: the output function reads the scheduled levels. -/
theorem State.GatesLive.setSchedule (live : s.GatesLive) {schedule : List ScheduleEntry} (sound : ScheduleSound schedule) :
    ({ s with gates := { s.gates with schedule := schedule } } : State).GatesLive := ⟨⟨live.1.1, sound⟩, live.2⟩

theorem State.GatesLive.loadPulse (live : s.GatesLive) (g : Gate) (unlock : Nat) (evac : Bool) :
    (s.loadPulse g unlock evac).1.GatesLive := by
  simp only [State.loadPulse]
  split
  · exact (live.1.setGates (g := { s.gates with pulses := s.gates.pulses.set g (some unlock) }) rfl).setOutputs
  · exact live

theorem State.GatesLive.createGrant (live : s.GatesLive) (u : UnitId) (card : Option Nat) (guest : Bool) (unlock : Nat) (evac : Bool) :
    (s.createGrant u card guest unlock evac).GatesLive := by
  have pulsed {x : State} (hx : x.GatesLive) :
      (match x.unitGate u with | some g => x.loadPulse g unlock evac | none => (x, false)).1.GatesLive := by
    split
    · exact hx.loadPulse _ unlock evac
    · exact hx
  have held {x : State} (g : Grant) (hx : x.GatesLive) :
      ({ x.setGrant u (some g) with power := { x.power with grantTally := x.power.grantTally + 1 } } : State).GatesLive :=
    hx.of_same ((x.setGrant_same u _).andThen (State.setTallies_same _ _ _) (hs := [.grants, .tallies]))
  have replaced : (s.concludeReplaced u).GatesLive := live.of_same (s.concludeGrant_same u _)
  simp only [State.createGrant]
  split
  · exact (held _ (pulsed replaced)).of_same (State.grantSession_same _ _ _ _ _ _)
  · exact held _ (pulsed replaced)

theorem State.GatesLive.carryOut (live : s.GatesLive) (u : UnitId) (side : Side) (r : Ruling) : (s.carryOut u side r).1.GatesLive := by
  have cleared : (s.setMisreads u 0).GatesLive := live.of_same (s.setMisreads_same u 0)
  cases r with
  | reread => exact live.of_same (s.misread_same u side)
  | deny reason card slot lostCard =>
    have denied := cleared.of_same (State.appendUnit_same _ u card (.denial reason side slot))
    simp only [State.carryOut]
    split
    · exact denied.of_same (State.raise_same _ _ _)
    · exact denied
  | evacPass card =>
    simp only [State.carryOut]
    exact (cleared.createGrant u card false _ true).of_same (State.appendUnit_same _ u _ _)
  | grant card guest =>
    simp only [State.carryOut]
    exact cleared.createGrant u _ guest _ false

theorem State.GatesLive.frameKeeps : FrameKeeps State.GatesLive :=
  State.GatesLive.dependsOn.frameKeeps (fun _ u r live => live.of_same (State.report_same _ u r))
    fun _ u side _ live => live.carryOut u side _

/-! ## The wing -/

theorem State.GatesLive.announceMode (live : s.GatesLive) (m : WingMode) : (s.announceMode m).GatesLive :=
  live.of_same (s.announceMode_same m)

theorem State.ScheduleLive.enterMode (live : s.ScheduleLive) (source : Source) (m : WingMode) : (s.enterMode source m).ScheduleLive :=
  live.of_same (s.enterMode_same source m)

theorem State.ScheduleLive.changeMode (live : s.ScheduleLive) (source : Source) (m : WingMode) : (s.changeMode source m).GatesLive := by
  simp only [State.changeMode]
  split
  · exact ((live.enterMode source m).of_same (State.cutAll_same _)).setOutputs.announceMode m
  · exact (live.enterMode source m).setOutputs.announceMode m

theorem State.ScheduleLive.evacRises (live : s.ScheduleLive) : s.evacRises.GatesLive := by
  have evacuated {x : State} (hx : x.ScheduleLive) : x.markEvac.stopPulses.endAllSessions.setOutputs.GatesLive := by
    have marked := hx.of_same x.markEvac_same
    have stopped : x.markEvac.stopPulses.ScheduleLive := marked.setGates rfl
    exact (stopped.of_same (State.endAllSessions_same _)).setOutputs
  have appended := (live.of_same (s.setWing_same { s.wing with evacSampled := true })).of_same
    (State.append_same _ .evacLine none none (.evac s.wing.mode))
  simp only [State.evacRises]
  split
  · exact ((evacuated (appended.enterMode _ _)).of_same (State.raiseBoth_same _ _)).announceMode _
  · exact (evacuated appended).of_same (State.raiseBoth_same _ _)

/-- A pin or a sampled level changes no output. -/
theorem State.GatesLive.setLine (live : s.GatesLive) {w : Wing} (mode : w.mode = s.wing.mode) :
    ({ s with wing := w } : State).GatesLive := ⟨live.1, fun g => by rw [mode]; exact live.2 g⟩

theorem State.GatesLive.evacFalls (live : s.GatesLive) : s.evacFalls.GatesLive := by
  have cleared : ({ s with wing := { s.wing with evacSampled := false } } : State).GatesLive := live.setLine rfl
  exact (cleared.of_same (State.append_same _ _ _ _ _)).of_same (State.raiseBoth_same _ _)

theorem State.GatesLive.takeLineDifference (live : s.GatesLive) : s.takeLineDifference.GatesLive := by
  simp only [State.takeLineDifference]
  repeat' split
  · exact live
  · exact live.1.evacRises
  · exact live.evacFalls

theorem State.GatesSound.setPin (sound : s.GatesSound) (pin : Bool) :
    ({ s with wing := { s.wing with evacPin := pin } } : State).GatesSound := sound

theorem State.GatesSound.evacEdge (sound : s.GatesSound) (asserted : Bool) : (evacEdge asserted s).GatesSound := by
  simp only [Machine.evacEdge]
  split
  · exact sound
  · split
    · exact sound.setPin asserted
    · rename_i running
      have live := (sound.setPin asserted).live (by simpa using running)
      split
      · exact live.1.evacRises.sound
      · exact live.evacFalls.sound

/-! ## Requests -/

theorem State.GatesLive.setGate (live : s.GatesLive) (enabled exposed : Byte) : (setGate enabled exposed s).1.GatesLive := by
  simp only [Machine.setGate]
  split
  · rename_i en ex _ _
    exact (live.1.setGates (g := { s.gates with enabled := en, exposed := ex, pulses := _ }) rfl).setOutputs
  · exact live

theorem State.GatesLive.addScheduleEntry (live : s.GatesLive) (minute : Half) (gates level : Byte) :
    (addScheduleEntry minute gates level s).1.GatesLive := by
  simp only [Machine.addScheduleEntry]
  repeat' split
  · exact live
  · exact live
  · rename_i gs lv _ _ fields room
    rw [not_or, not_lt] at fields
    exact live.setSchedule (live.1.2.insert (not_le.mp room) fields.1 fields.2)
  · exact live

theorem State.GatesLive.removeScheduleEntry (live : s.GatesLive) (position : Byte) : (removeScheduleEntry position s).1.GatesLive := by
  simp only [Machine.removeScheduleEntry]
  repeat' split
  · exact live
  · exact live
  · exact live.setSchedule (live.1.2.erase _)

theorem State.GatesLive.clearSchedule (live : s.GatesLive) : (clearSchedule s).1.GatesLive :=
  live.setSchedule ⟨Nat.zero_le _, .nil, fun _ mem => nomatch mem⟩

theorem State.GatesLive.setMode (live : s.GatesLive) (p : Port) (mode : Byte) : (setMode p mode s).1.GatesLive := by
  simp only [Machine.setMode]
  repeat' split
  · exact live
  · exact live
  · exact live
  · exact live.1.changeMode _ _

theorem State.GatesLive.restore (live : s.GatesLive) (p : Port) : (restore p s).1.GatesLive := by
  simp only [Machine.restore]
  repeat' split
  · exact live
  · exact live
  · exact (live.1.enterMode _ _).workLevels.announceMode _

theorem State.GatesLive.setClock (live : s.GatesLive) (p : Port) (reading : DayMinute) : (setClock p reading s).1.GatesLive := by
  simp only [Machine.setClock]
  split
  · exact live
  · have worked := (live.1.of_same (s.setClock_same (s.clock.setTo (momentOf reading)))).workLevels
    exact (worked.of_same (State.append_same _ _ _ _ _)).of_same (State.raise_same _ _ _)

theorem State.GatesLive.rule {i : Instr} {p : Port} {rq : Request} {body : List Byte} (request : i.request? = some (p, rq, body))
    (touched : apart [.phase, .gates, .wing] (touchedBy rq) = false) (live : s.GatesLive) : (ruleOf i s).1.GatesLive := by
  cases i with
  | setGate => exact live.setGate _ _
  | addScheduleEntry => exact live.addScheduleEntry _ _ _
  | removeScheduleEntry => exact live.removeScheduleEntry _
  | clearSchedule => exact live.clearSchedule
  | setMode => exact live.setMode _ _
  | restore => exact live.restore _
  | setClock => exact live.setClock _ _
  | _ => cases request <;> exact Bool.noConfusion touched

/-! ## Ticks, frames and starts -/

theorem State.GatesLive.expirePulse (live : s.GatesLive) (g : Gate) : (expirePulse g s).GatesLive := by
  simp only [Machine.expirePulse]
  split
  · exact (live.1.setGates (g := { s.gates with pulses := s.gates.pulses.set g none }) rfl).setOutputs
  · exact live

theorem State.GatesLive.expireTimer (live : s.GatesLive) (t : Timer) : (expireTimer t s).GatesLive := by
  cases t with
  | lease i => exact live.of_same (expireLease_same s i)
  | grant u => exact live.of_same (expireGrant_same s u)
  | ajar u => exact live.of_same (expireAjar_same s u)
  | session u => exact live.of_same (expireSession_same s u)
  | pulse g => exact live.expirePulse g
  | supervision p => exact live.of_same (expireSupervision_same s p)

/-- A pulse lowered still runs, so no output changes. -/
theorem State.GatesLive.tickTimers (live : s.GatesLive) : s.tickTimers.GatesLive := by
  refine ⟨live.1, fun g => ?_⟩
  have pulse : (s.tickTimers.gates.pulses[g]).isSome = (s.gates.pulses[g]).isSome := by simp [State.tickTimers]
  have same : outputLevel s.tickTimers.gates s.tickTimers.wing.mode g = outputLevel s.gates s.wing.mode g := by
    simp only [outputLevel, pulse]
    rfl
  rw [same]
  exact live.2 g

theorem State.GatesSound.secondTick (sound : s.GatesSound) : (secondTick s).GatesSound := by
  simp only [Machine.secondTick]
  split
  · exact sound
  · have ticked := State.GatesSound.dependsOn.of_same (s.setClock_same s.clock.tick.1) sound
    split
    · exact ticked
    · rename_i running
      have running : s.running = true := by simpa using running
      have live := (ticked.live running).tickTimers
      refine State.GatesLive.sound (State.expireTimers_keeps State.GatesLive (fun t _ hx => hx.expireTimer t) _ _ ?_)
      split
      · exact live.1.workLevels
      · exact live

theorem State.GatesSound.crystalCycle (sound : s.GatesSound) : (crystalCycle s).GatesSound := by
  simp only [Machine.crystalCycle]
  repeat' split
  · exact sound
  · exact State.GatesSound.dependsOn.of_same (s.setClock_same _) sound
  · exact sound.secondTick

theorem State.GatesSound.frameClosed (sound : s.GatesSound) (line : Bus) (frame : List Byte) : (frameClosed line frame s).GatesSound := by
  by_cases running : s.running = true
  · exact State.GatesLive.sound (State.GatesLive.frameKeeps.frameClosed line frame (sound.live running))
  · rwa [Machine.frameClosed, if_pos (by simpa using running)]

/-- A start that ends runs in the mode its outputs were set against. -/
theorem State.GatesSound.commitStart (sound : s.GatesSound) {start : Start} (phase : s.power.phase = .starting start) :
    (s.commitStart start).GatesLive := by
  obtain ⟨schedule, outputs⟩ := sound
  cases start with
  | warm mode record => exact ⟨⟨rfl, schedule⟩, outputs mode (by simp [State.outputMode, phase])⟩
  | cold => exact ⟨⟨rfl, schedule⟩, outputs s.wing.mode (by simp [State.outputMode, phase])⟩

theorem State.GatesSound.endStart (sound : s.GatesSound) : (endStart s).GatesSound := by
  simp only [Machine.endStart]
  split
  · rename_i start phase
    exact (sound.commitStart phase).takeLineDifference.sound
  · exact sound

theorem State.GatesSound.undriven (schedule : ScheduleInv s) (undriven : s.outputMode = none) : s.GatesSound :=
  ⟨schedule, fun m hm => by rw [undriven] at hm; cases hm⟩

theorem State.GatesSound.assertReset (sound : s.GatesSound) : (assertReset s).GatesSound := by
  by_cases off : s.power.phase = .off
  · rwa [Machine.assertReset, if_pos off]
  · rw [Machine.assertReset, if_neg off]
    exact .undriven sound.1 rfl

theorem State.GatesSound.mainPowerFall (sound : s.GatesSound) : (mainPowerFall s).GatesSound := by
  by_cases off : s.power.phase = .off
  · rwa [Machine.mainPowerFall, if_pos off]
  · rw [Machine.mainPowerFall, if_neg off]
    exact .undriven sound.1 rfl

theorem Gates.applyOutputs_outputs (gates : Gates) (mode : WingMode) (g : Gate) :
    (gates.applyOutputs mode).outputs[g] = outputLevel (gates.applyOutputs mode) mode g := by
  simp [Gates.applyOutputs]
  rfl

theorem State.GatesSound.beginWarm (sound : s.GatesSound) : (beginWarm s).GatesSound := by
  refine ⟨sound.1, fun m hm g => ?_⟩
  have mode : (Machine.beginWarm s).outputMode = some s.startMode := rfl
  rw [mode] at hm
  cases hm
  exact Gates.applyOutputs_outputs _ _ g

theorem State.GatesSound.beginCold (s : State) : (beginCold s).GatesSound := by
  refine ⟨⟨Nat.zero_le _, .nil, fun _ mem => nomatch mem⟩, fun m _ g => ?_⟩
  have gates : (Machine.beginCold s).gates = Gates.cold := rfl
  rw [gates]
  simp [Gates.cold, outputLevel, hasGate]

theorem State.GatesSound.event (c : Instr) (touched : apart [.phase, .gates, .wing] (touchedByEvent c) = false)
    (sound : s.GatesSound) : (eventOf c s).GatesSound := by
  cases c with
  | secondTick => exact sound.secondTick
  | crystalCycle => exact sound.crystalCycle
  | gatePulseExpiry g =>
    show (expirePulse g s).GatesSound
    by_cases running : s.running = true
    · exact ((sound.live running).expirePulse g).sound
    · rwa [expirePulse, if_neg (by simp [running])]
  | answer line frame => exact sound.frameClosed line frame
  | ack line frame => exact sound.frameClosed line frame
  | evacRisingEdge => exact sound.evacEdge true
  | evacFallingEdge => exact sound.evacEdge false
  | rstAsserted => exact sound.assertReset
  | mainPowerFall => exact sound.mainPowerFall
  | warmStart =>
    show (if s.power.latch then s else Machine.beginWarm s).GatesSound
    by_cases lost : s.power.latch = true
    · rwa [if_pos lost]
    · rw [if_neg lost]
      exact sound.beginWarm
  | coldStart =>
    show (if s.power.latch then Machine.beginCold s else s).GatesSound
    by_cases lost : s.power.latch = true
    · rw [if_pos lost]
      exact .beginCold s
    · rwa [if_neg lost]
  | startEnd => exact sound.endStart
  | _ => exact Bool.noConfusion touched

end

end Sys2Proof.Machine

open Sys2Proof Sys2Proof.Machine

/-- Settles O55: while the part runs every change of mode, enable set, pulse or scheduled level ends by setting the outputs, and a start
sets them against the mode it decides. -/
theorem gateInvariantIsKept : Obligations.GateInvariantIsKept := by
  intro s t schedule outputs
  exact step_keeps State.GatesSound.dependsOn
    (fun _ _ _ _ request touched _ ready sound => ((sound.live ready.1).rule request touched).sound)
    (fun c _ touched sound => sound.event c touched) rfl rfl s t ⟨schedule, outputs⟩

end

section
/-! Rooms and the locks bound to them (R20, R21, R72, R143): every command but four leaves each slot its room number and each unit
its kind. -/

namespace Sys2Proof.Machine

-- One theorem at a time: each check by the kernel then needs one stack.
set_option Elab.async false

open Sys2Proof

/-! ## What stays in its place -/

theorem Occupancy.number?_eq_none {o : Occupancy} : o.number? = none ↔ o = .unused := by
  cases o <;> simp [Occupancy.number?]

/-- Every slot has the room number it had. -/
def State.SameNumbers (s t : State) : Prop := ∀ i : Slot, t.rooms[i].occupancy.number? = s.rooms[i].occupancy.number?

/-- Every slot has the room number it had, and every unit the kind it had. -/
def State.SamePlaces (s t : State) : Prop := s.SameNumbers t ∧ s.SameKinds t

theorem State.getElem_setRoom (s : State) (i j : Slot) (r : Room) :
    (s.setRoom i r).rooms[j] = if i = j then r else s.rooms[j] := by
  simp [Vector.getElem_set, Fin.ext_iff]

theorem State.SamePlaces.refl (s : State) : s.SamePlaces s := ⟨fun _ => rfl, fun _ => rfl⟩

section
variable {s t : State}

theorem State.SamePlaces.trans {x : State} (h : s.SamePlaces t) (k : t.SamePlaces x) : s.SamePlaces x :=
  ⟨fun i => (k.1 i).trans (h.1 i), h.2.trans k.2⟩

theorem State.SameBut.samePlaces {touched : List Field} (h : SameBut touched s t)
    (other : apart [.rooms, .units] touched = true := by rfl) : s.SamePlaces t := by
  have rooms : t.rooms = s.rooms := h .rooms (apart_iff.mp other _ (by simp))
  have units : t.units = s.units := h .units (apart_iff.mp other _ (by simp))
  exact ⟨fun i => by rw [rooms], fun v => by rw [units]⟩

theorem State.SamePlaces.then {x : State} (h : s.SamePlaces t) {touched : List Field} (k : State.SameBut touched t x)
    (other : apart [.rooms, .units] touched = true := by rfl) : s.SamePlaces x := h.trans (k.samePlaces other)

theorem State.setRoom_samePlaces {i : Slot} {r : Room} (same : r.occupancy.number? = s.rooms[i].occupancy.number?) :
    s.SamePlaces (s.setRoom i r) := by
  refine ⟨fun j => ?_, fun _ => rfl⟩
  rw [s.getElem_setRoom]
  split
  · rename_i eq
    rw [same, eq]
  · rfl

theorem State.setUnit_samePlaces {u : UnitId} {r : UnitRec} (same : r.kind = s.units[u].kind) : s.SamePlaces (s.setUnit u r) :=
  ⟨fun _ => rfl, State.setUnit_kinds same⟩

theorem State.foldl_samePlaces {α : Type} {op : State → α → State} (each : ∀ (x : State) a, x.SamePlaces (op x a)) (xs : List α) (s : State) :
    s.SamePlaces (xs.foldl op s) :=
  foldl_keeps (P := s.SamePlaces) (fun x a hx => hx.trans (each x a)) xs (.refl s)

/-- The invariant speaks of room numbers and kinds alone. -/
theorem RoomInv.of_samePlaces (inv : RoomInv s) (same : s.SamePlaces t) : RoomInv t := by
  obtain ⟨range, distinct, bound, single⟩ := inv
  obtain ⟨numbers, kinds⟩ := same
  refine ⟨fun i n hn => range i n (numbers i ▸ hn), fun i j eq used => distinct i j (by rwa [numbers, numbers] at eq) ?_,
    fun u i hi => ?_, fun u v eq lock => single u v (by rwa [kinds, kinds] at eq) (by rwa [kinds] at lock)⟩
  · rw [Ne, ← Occupancy.number?_eq_none, numbers] at used
    rwa [Ne, ← Occupancy.number?_eq_none]
  · rw [kinds] at hi
    rw [Ne, ← Occupancy.number?_eq_none, numbers, Occupancy.number?_eq_none]
    exact bound u i hi

end

theorem RoomInv.dependsOn : DependsOn [.rooms, .units] RoomInv := fun s t same inv => by
  have rooms : t.rooms = s.rooms := same .rooms (by simp)
  have units : t.units = s.units := same .units (by simp)
  exact inv.of_samePlaces ⟨fun i => by rw [rooms], fun v => by rw [units]⟩

/-! ## The operations -/

section
variable (s : State)

theorem State.setRelock_samePlaces (u : UnitId) : s.SamePlaces (s.setRelock u) := State.setUnit_samePlaces rfl

theorem State.endSessionRelock_samePlaces (u : UnitId) (reason : EndReason) : s.SamePlaces (s.endSessionRelock u reason) := by
  simp only [State.endSessionRelock]
  split
  · exact (s.setRelock_samePlaces u).then (State.endSession_same _ u reason)
  · exact .refl s

theorem State.endRoomSession_samePlaces (i : Slot) : s.SamePlaces (s.endRoomSession i) := by
  simp only [State.endRoomSession]
  split
  · exact s.endSessionRelock_samePlaces _ _
  · exact .refl s

theorem State.cutForLockdown_samePlaces (u : UnitId) : s.SamePlaces (s.cutForLockdown u) := by
  simp only [State.cutForLockdown]
  split
  · exact (s.concludeGrant_same u _).samePlaces.trans (State.setRelock_samePlaces _ u)
  · exact .refl s

theorem State.changeMode_samePlaces (source : Source) (m : WingMode) : s.SamePlaces (s.changeMode source m) := by
  have entered := (s.enterMode_same source m).samePlaces
  simp only [State.changeMode]
  split
  · exact ((entered.trans (State.foldl_samePlaces State.cutForLockdown_samePlaces allUnits _)).then (State.setOutputs_same _)).then
      (State.announceMode_same _ m)
  · exact (entered.then (State.setOutputs_same _)).then (State.announceMode_same _ m)

theorem State.evacRises_samePlaces : s.SamePlaces s.evacRises := by
  have evacuated (x : State) : x.SamePlaces x.markEvac.stopPulses.endAllSessions.setOutputs :=
    ((x.markEvac_same.samePlaces.then (State.stopPulses_same _)).trans
      (State.foldl_samePlaces (fun y u => y.endSessionRelock_samePlaces u _) allUnits _)).then (State.setOutputs_same _)
  have appended := (s.setWing_same { s.wing with evacSampled := true }).samePlaces.then
    (State.append_same _ .evacLine none none (.evac s.wing.mode))
  simp only [State.evacRises]
  split
  · exact (((appended.then (State.enterMode_same _ _ _)).trans (evacuated _)).then (State.raiseBoth_same _ _)).then
      (State.announceMode_same _ _)
  · exact (appended.trans (evacuated _)).then (State.raiseBoth_same _ _)

theorem State.evacFalls_samePlaces : s.SamePlaces s.evacFalls := s.evacFalls_same.samePlaces

theorem State.miss_samePlaces (u : UnitId) : s.SamePlaces (s.miss u) := by
  simp only [State.miss]
  repeat' split
  · exact .refl s
  · exact ((State.setUnit_samePlaces (by rfl)).then (State.appendUnit_same _ u _ _)).then (State.raise_same _ _ _)
  · exact State.setUnit_samePlaces rfl

theorem State.answered_samePlaces (u : UnitId) : s.SamePlaces (s.answered u) :=
  ⟨fun i => by rw [show (s.answered u).rooms = s.rooms from (s.answered_same u).agree .rooms], s.answered_kinds u⟩

theorem State.deliverRelock_samePlaces (u : UnitId) (relock : Bool) : s.SamePlaces (s.deliverRelock u relock) :=
  ⟨fun i => by rw [show (s.deliverRelock u relock).rooms = s.rooms from (s.deliverRelock_same u relock).agree .rooms],
    s.deliverRelock_kinds u relock⟩

theorem State.report_samePlaces (u : UnitId) (r : Report) : s.SamePlaces (s.report u r) := by
  have privacy (j : Slot) (x : Privacy) : s.SameNumbers (s.setPrivacy j x) := (State.setRoom_samePlaces (by rfl)).1
  have kept {t : State} {touched : List Field} (same : State.SameBut touched s t)
      (other : apart [.rooms] touched = true := by rfl) : s.SameNumbers t := fun i => by
    rw [show t.rooms = s.rooms from same.agree .rooms other]
  refine ⟨?_, s.report_kinds u r⟩
  simp only [State.report]
  split
  · exact kept (s.decideOpened_same u _)
  · exact kept (s.decideOpened_same u _)
  · exact kept ((s.decideOpened_same u _).andThen (State.sessionOpened_same _ u)
      (hs := [.units, .grants, .ajar, .tallies, .sessions, .log, .ports]))
  · exact kept (s.decideClosed_same u)
  · exact kept (s.decideClosed_same u)
  · exact kept ((s.decideClosed_same u).andThen (State.sessionClosed_same _ u)
      (hs := [.units, .ajar, .tallies, .sessions, .log, .ports]))
  · exact privacy _ _
  · exact privacy _ _
  · exact fun _ => rfl
  · exact kept (s.tamper_same u)
  · exact kept (s.reportItems_same u _ _ _ _)
  · exact fun _ => rfl

theorem State.setMisreads_samePlaces (u : UnitId) (n : Nat) : s.SamePlaces (s.setMisreads u n) := State.setUnit_samePlaces rfl

theorem State.carryOut_samePlaces (u : UnitId) (side : Side) (r : Ruling) : s.SamePlaces (s.carryOut u side r).1 := by
  have cleared := s.setMisreads_samePlaces u 0
  cases r with
  | reread =>
    simp only [State.carryOut, State.misread]
    split
    · exact s.setMisreads_samePlaces u _
    · exact (cleared.then (State.appendUnit_same _ u _ _)).then (State.raise_same _ _ _)
  | deny reason card slot lostCard =>
    have denied := cleared.then (State.appendUnit_same _ u card (.denial reason side slot))
    simp only [State.carryOut]
    split
    · exact denied.then (State.raise_same _ _ _)
    · exact denied
  | evacPass card =>
    simp only [State.carryOut]
    exact (cleared.then (State.createGrant_same _ u card false _ true)).then (State.appendUnit_same _ u _ _)
  | grant card guest =>
    simp only [State.carryOut]
    exact cleared.then (State.createGrant_same _ u _ guest _ false)

theorem State.SamePlaces.frameKeeps : FrameKeeps s.SamePlaces where
  bus := fun x line c hx => hx.then (x.setBus_same line c)
  miss := fun x u hx => hx.trans (x.miss_samePlaces u)
  answered := fun x u _ hx => hx.trans (x.answered_samePlaces u)
  relock := fun x u b _ hx => hx.trans (x.deliverRelock_samePlaces u b)
  acknowledge := fun x u _ hx => hx.then (x.acknowledge_same u)
  take := fun _ _ _ _ _ _ hx => hx.trans (State.setUnit_samePlaces (by rfl))
  report := fun x u r _ hx => hx.trans (x.report_samePlaces u r)
  present := fun x u side _ _ hx => hx.trans (x.carryOut_samePlaces u side _)

theorem issueCards_samePlaces (p : Port) (i : Slot) (cls : Fin 8) (w : Window) (n left : Nat) :
    s.SamePlaces (issueCards p i cls w n left s).1 := by
  induction left generalizing s with
  | zero => exact .refl s
  | succ left ih =>
    exact ((State.setRoom_samePlaces (i := i) (by rfl)).then (State.setTable_same _ _)).trans (ih _)

theorem State.issueBatch_samePlaces (p : Port) (i : Slot) (cls : Fin 8) (w : Window) (n : Nat) :
    s.SamePlaces (s.issueBatch p i cls w n).1 :=
  (s.setTable_same (s.table.reclaim n)).samePlaces.trans (issueCards_samePlaces _ p i cls w n n)

theorem State.forgetPrivacy_samePlaces (kind : UnitKind) : s.SamePlaces (s.forgetPrivacy kind) := by
  simp only [State.forgetPrivacy]
  split
  · exact State.setRoom_samePlaces rfl
  · exact .refl s

/-! ## The requests that leave everything in its place -/

theorem claimed_samePlaces {s : State} {p : Port} {slot : Byte} {ok : Bool} {rule : Slot → State → Reply}
    (own : ∀ i, s.SamePlaces (rule i s).1) : s.SamePlaces (claimed p slot ok rule s).1 :=
  claimed_keeps (.refl s) (fun i _ _ _ => own i) fun i kept => kept.then (State.loadLease_same _ i p)

theorem checkInRoom_samePlaces {s : State} {i : Slot} {number : Nat} (vacant : s.rooms[i].occupancy = .vacant number) (p : Port)
    (cls : Fin 8) (n : Nat) (stay : Stay) (allowance : Nat) : s.SamePlaces (checkInRoom p i number cls n stay allowance s).1 := by
  have moved : s.SamePlaces (s.setRoom i { s.rooms[i] with
      generation := (s.rooms[i].generation + 1) % 256, occupancy := .letTo number stay }) :=
    State.setRoom_samePlaces (congrArg Occupancy.number? vacant).symm
  exact (((moved.then (State.setAccount_same _ i _)).trans (State.issueBatch_samePlaces _ p i cls stay.window n)).then
    (State.append_same _ _ _ _ _)).then (logIssues_same _ p _ _)

theorem checkIn_samePlaces (p : Port) (slot cls count : Byte) (arrival departure : DayMinute) (allowance : Triple) :
    s.SamePlaces (checkIn p slot cls count arrival departure allowance s).1 := by
  refine claimed_samePlaces fun i => ?_
  split
  · rename_i number vacant
    repeat' split
    · exact .refl s
    · exact .refl s
    · exact .refl s
    · exact .refl s
    · exact checkInRoom_samePlaces vacant p _ _ _ _
  · exact .refl s

theorem addCards_samePlaces (p : Port) (slot cls count : Byte) : s.SamePlaces (addCards p slot cls count s).1 := by
  refine claimed_samePlaces fun i => ?_
  repeat' split
  · exact .refl s
  · exact .refl s
  · exact .refl s
  · exact (s.issueBatch_samePlaces p i _ _ _).then (logIssues_same _ p _ _)
  · exact .refl s

theorem changeStay_samePlaces (p : Port) (slot : Byte) (departure : DayMinute) : s.SamePlaces (changeStay p slot departure s).1 := by
  refine claimed_samePlaces fun i => ?_
  split
  · rename_i number stay occupied
    repeat' split
    · exact .refl s
    · exact .refl s
    · exact ((State.setRoom_samePlaces (congrArg Occupancy.number? occupied).symm).then (State.setTable_same _ _)).then
        (State.append_same _ _ _ _ _)
  · exact .refl s

theorem checkOut_samePlaces (p : Port) (slot : Byte) : s.SamePlaces (checkOut p slot s).1 := by
  refine claimed_samePlaces fun i => ?_
  split
  · rename_i number stay occupied
    have tabled := (s.setTable_same (s.table.revokeAll (s.table.liveOf i))).samePlaces
    have vacated := (tabled.trans (State.setRoom_samePlaces (i := i) (r := { s.rooms[i] with occupancy := .vacant number })
      (congrArg Occupancy.number? occupied).symm)).then (State.setAccount_same _ i { s.accounts[i] with blocked := true })
    exact ((vacated.then (State.append_same _ _ _ _ _)).then (logRevokes_same _ p _)).trans (State.endRoomSession_samePlaces _ i)
  · exact .refl s

theorem holdRoom_samePlaces (p : Port) (slot : Byte) : s.SamePlaces (holdRoom p slot s).1 := by
  refine claimed_samePlaces fun i => ?_
  split
  · rename_i number vacant
    exact State.setRoom_samePlaces (congrArg Occupancy.number? vacant).symm
  · exact .refl s

theorem freeRoom_samePlaces (p : Port) (slot : Byte) : s.SamePlaces (freeRoom p slot s).1 := by
  refine claimed_samePlaces fun i => ?_
  split
  · rename_i number held
    exact State.setRoom_samePlaces (congrArg Occupancy.number? held).symm
  · exact .refl s

theorem readmitUnit_samePlaces (p : Port) (bus address : Byte) : s.SamePlaces (readmitUnit p bus address s).1 := by
  simp only [readmitUnit]
  repeat' split
  · exact .refl s
  · exact .refl s
  · exact (State.setUnit_samePlaces (by rfl)).then (State.append_same _ _ _ _ _)
  · exact .refl s

theorem setMode_samePlaces (p : Port) (mode : Byte) : s.SamePlaces (setMode p mode s).1 := by
  simp only [setMode]
  repeat' split
  · exact .refl s
  · exact .refl s
  · exact .refl s
  · exact s.changeMode_samePlaces _ _

end

/-! ## The four requests on rooms and units -/

section
variable {s : State} (inv : RoomInv s)
include inv

/-- A room record may be replaced by one with a free number, or by an unused one if no lock is bound to the slot. -/
theorem RoomInv.setRoom {i : Slot} {r : Room} (number : ∀ n ∈ r.occupancy.number?, 1 ≤ n ∧ n ≤ 9999)
    (free : ∀ j, j ≠ i → ∀ n ∈ r.occupancy.number?, s.rooms[j].occupancy.number? ≠ some n)
    (lock : ∀ u : UnitId, s.units[u].kind.slot? = some i → r.occupancy ≠ .unused) : RoomInv (s.setRoom i r) := by
  obtain ⟨range, distinct, bound, single⟩ := inv
  refine ⟨fun j n hn => ?_, fun j k eq used => ?_, fun u j hj => ?_, single⟩
  · rw [s.getElem_setRoom] at hn
    split at hn
    · exact number n hn
    · exact range j n hn
  · rw [s.getElem_setRoom, s.getElem_setRoom] at eq
    rw [s.getElem_setRoom] at used
    have other {o : Occupancy} (live : o ≠ .unused) : ∃ n, o.number? = some n :=
      Option.ne_none_iff_exists'.mp fun none => live (Occupancy.number?_eq_none.mp none)
    by_cases here : i = j <;> by_cases there : i = k
    · exact here.symm.trans there
    · rw [if_pos here, if_neg there] at eq
      rw [if_pos here] at used
      obtain ⟨n, hn⟩ := other used
      exact absurd (eq.symm.trans hn) (free k (Ne.symm there) n hn)
    · rw [if_neg here, if_pos there] at eq
      rw [if_neg here] at used
      obtain ⟨n, hn⟩ := other used
      exact absurd hn (free j (Ne.symm here) n (eq.symm.trans hn))
    · rw [if_neg here, if_neg there] at eq
      rw [if_neg here] at used
      exact distinct j k eq used
  · rw [s.getElem_setRoom]
    split
    · rename_i here
      exact lock u (here ▸ hj)
    · exact bound u j hj

theorem RoomInv.configureRoom (slot : Byte) (number : Half) : RoomInv (configureRoom slot number s).1 := by
  simp only [Machine.configureRoom]
  repeat' split
  · exact inv
  · exact inv
  · exact inv
  · exact inv
  · exact inv
  · rename_i i _ fields _ _ _ free
    rw [not_or, not_lt] at fields
    refine inv.setRoom (fun n hn => ?_) (fun j other n hn same => ?_) (fun _ _ => nofun)
    · cases hn
      exact ⟨Nat.pos_of_ne_zero fields.1, fields.2⟩
    · cases hn
      exact free ((s.numberTaken_iff i _).mpr ⟨j, other, same⟩)

theorem RoomInv.removeRoom (slot : Byte) : RoomInv (removeRoom slot s).1 := by
  simp only [Machine.removeRoom]
  repeat' split
  · exact inv
  · exact inv
  · exact inv
  · rename_i i _ _ n vacant unbound settled
    refine RoomInv.dependsOn.of_same (State.setAccount_same _ i _) (inv.setRoom (fun _ hn => nomatch hn) (fun _ _ _ hn => nomatch hn)
      fun u hu => absurd ((s.lockBound_iff i).mpr ⟨u, ?_⟩) unbound)
    revert hu
    cases s.units[u].kind <;> simp [UnitKind.slot?]
  · exact inv

/-- A unit may take a kind bound to no slot, or to a used slot to which no other unit of that kind is bound. -/
theorem RoomInv.setKind {t : State} {u : UnitId} {kind : UnitKind}
    (numbers : ∀ i : Slot, t.rooms[i].occupancy.number? = s.rooms[i].occupancy.number?)
    (here : t.units[u].kind = kind) (others : ∀ v, v ≠ u → t.units[v].kind = s.units[v].kind)
    (used : ∀ i ∈ kind.slot?, s.rooms[i].occupancy ≠ .unused)
    (alone : kind.slot?.isSome = true → ∀ v, v ≠ u → s.units[v].kind ≠ kind) : RoomInv t := by
  obtain ⟨range, distinct, bound, single⟩ := inv
  refine ⟨fun i n hn => range i n (numbers i ▸ hn), fun i j eq live => distinct i j (by rwa [numbers, numbers] at eq) ?_,
    fun v i hi => ?_, fun v w eq lock => ?_⟩
  · rw [Ne, ← Occupancy.number?_eq_none, numbers] at live
    rwa [Ne, ← Occupancy.number?_eq_none]
  · rw [Ne, ← Occupancy.number?_eq_none, numbers, Occupancy.number?_eq_none]
    by_cases same : v = u
    · subst same
      exact used i (here ▸ hi)
    · exact bound v i (others v same ▸ hi)
  · by_cases left : v = u <;> by_cases right : w = u
    · exact left.trans right.symm
    · subst left
      rw [here, others w right] at eq
      rw [here] at lock
      exact absurd eq.symm (alone lock w right)
    · subst right
      rw [here, others v left] at eq
      rw [others v left, eq] at lock
      exact absurd eq (alone lock v left)
    · rw [others v left, others w right] at eq
      rw [others v left] at lock
      exact single v w eq lock

theorem RoomInv.configureUnit (bus address kind cls slot gate : Byte) :
    RoomInv (configureUnit bus address kind cls slot gate s).1 := by
  simp only [Machine.configureUnit]
  split
  · rename_i u k ec _ _ _
    repeat' split
    any_goals exact inv
    rename_i used alone
    have same : ((s.setUnit u (s.units[u].configured k ec)).setAjar u none).SamePlaces (configureUnitAs u k ec s).1 :=
      (State.forgetPrivacy_samePlaces _ _).trans (State.forgetPrivacy_samePlaces _ _)
    have kinds (v : UnitId) : (configureUnitAs u k ec s).1.units[v].kind = if u = v then k else s.units[v].kind := by
      rw [same.2 v]
      show ((s.setUnit u (s.units[u].configured k ec)).units[v]).kind = _
      rw [s.getElem_setUnit]
      split <;> rfl
    refine inv.setKind (u := u) (kind := k) (fun i => same.1 i) (by rw [kinds, if_pos rfl])
      (fun v other => by rw [kinds, if_neg (Ne.symm other)]) (fun i hi unused => used ?_) fun lock v other taken => alone ?_
    · simp only [State.slotUnused, Option.mem_def.mp hi, unused, decide_true]
    · simp only [State.boundElsewhere, Bool.and_eq_true, List.any_eq_true, decide_eq_true_eq, beq_iff_eq]
      exact ⟨lock, v, List.mem_finRange v, other, taken⟩
  · exact inv

theorem RoomInv.removeUnit (bus address : Byte) : RoomInv (removeUnit bus address s).1 := by
  simp only [Machine.removeUnit]
  repeat' split
  any_goals exact inv
  rename_i u _ _ _
  have same : s.SamePlaces ((s.setAjar u none).forgetPrivacy s.units[u].kind) :=
    (s.setAjar_same u none).samePlaces.trans (State.forgetPrivacy_samePlaces _ _)
  refine inv.setKind (u := u) (kind := .absent) (fun i => same.1 i) ?_ (fun v other => ?_) (fun _ hi => nomatch hi)
    fun lock => nomatch lock
  · simp only [accept, State.getElem_setUnit, if_pos]
    rfl
  · simp only [accept, State.getElem_setUnit, if_neg (Ne.symm other)]
    exact same.2 v

end

theorem RoomInv.rule {i : Instr} {p : Port} {rq : Request} {body : List Byte} (request : i.request? = some (p, rq, body))
    (touched : apart [.rooms, .units] (touchedBy rq) = false) {s : State} (inv : RoomInv s) : RoomInv (ruleOf i s).1 := by
  cases i with
  | configureRoom => exact inv.configureRoom _ _
  | removeRoom => exact inv.removeRoom _
  | configureUnit => exact inv.configureUnit _ _ _ _ _ _
  | removeUnit => exact inv.removeUnit _ _
  | checkIn => exact inv.of_samePlaces (checkIn_samePlaces s _ _ _ _ _ _ _)
  | addCards => exact inv.of_samePlaces (addCards_samePlaces s _ _ _ _)
  | changeStay => exact inv.of_samePlaces (changeStay_samePlaces s _ _ _)
  | checkOut => exact inv.of_samePlaces (checkOut_samePlaces s _ _)
  | holdRoom => exact inv.of_samePlaces (holdRoom_samePlaces s _ _)
  | freeRoom => exact inv.of_samePlaces (freeRoom_samePlaces s _ _)
  | readmitUnit => exact inv.of_samePlaces (readmitUnit_samePlaces s _ _ _)
  | setMode => exact inv.of_samePlaces (setMode_samePlaces s _ _)
  | _ => cases request <;> exact Bool.noConfusion touched

/-! ## The events -/

section
variable (s : State)

theorem expireAjar_samePlaces (u : UnitId) : s.SamePlaces (expireAjar u s) := by
  simp only [expireAjar]
  repeat' split
  · exact (((State.setUnit_samePlaces (by rfl)).then (State.setAjar_same _ u none)).then (State.appendUnit_same _ u _ _)).then
      (State.raise_same _ _ _)
  · exact .refl s
  · exact .refl s

theorem expireTimer_samePlaces (t : Timer) : s.SamePlaces (expireTimer t s) := by
  cases t with
  | lease i => exact (expireLease_same s i).samePlaces
  | grant u => exact (expireGrant_same s u).samePlaces
  | ajar u => exact expireAjar_samePlaces s u
  | session u => exact (expireSession_same s u).samePlaces
  | pulse g => exact (expirePulse_same s g).samePlaces
  | supervision p => exact (expireSupervision_same s p).samePlaces

theorem secondTick_samePlaces : s.SamePlaces (secondTick s) := by
  simp only [secondTick]
  split
  · exact .refl s
  · have ticked := (s.setClock_same s.clock.tick.1).samePlaces
    split
    · exact ticked
    · refine ticked.trans (State.SamePlaces.trans ?_ (State.foldl_samePlaces (fun x t => expireTimer_samePlaces x t) _ _))
      split
      · exact (State.tickTimers_same _).samePlaces.then (State.workLevels_same _)
      · exact (State.tickTimers_same _).samePlaces

theorem evacEdge_samePlaces (asserted : Bool) : s.SamePlaces (evacEdge asserted s) := by
  have moved := (s.setWing_same { s.wing with evacPin := asserted }).samePlaces
  simp only [evacEdge]
  repeat' split
  · exact .refl s
  · exact moved
  · exact moved.trans (State.evacRises_samePlaces _)
  · exact moved.trans (State.evacFalls_samePlaces _)

theorem State.takeLineDifference_samePlaces : s.SamePlaces s.takeLineDifference := by
  simp only [State.takeLineDifference]
  repeat' split
  · exact .refl s
  · exact s.evacRises_samePlaces
  · exact s.evacFalls_samePlaces

theorem endStart_samePlaces : s.SamePlaces (endStart s) := by
  simp only [endStart]
  split
  · rename_i start _
    exact (s.commitStart_same start).samePlaces.trans (State.takeLineDifference_samePlaces _)
  · exact .refl s

theorem State.loseVolatile_samePlaces : s.SamePlaces s.loseVolatile :=
  ⟨fun _ => rfl, fun v => by simp [State.loseVolatile, UnitRec.warm]⟩

theorem beginWarm_samePlaces : s.SamePlaces (beginWarm s) := by
  refine ⟨fun i => ?_, s.loseVolatile_samePlaces.2⟩
  have rooms : (beginWarm s).rooms = s.rooms.map fun r => { r with privacy := .unknown } := rfl
  rw [rooms]
  simp

end

theorem RoomInv.cold (s : State) : RoomInv (beginCold s) := by
  have rooms (i : Slot) : (beginCold s).rooms[i].occupancy = .unused := by
    have replicated : (beginCold s).rooms = .replicate 128 Room.cold := rfl
    rw [replicated]
    simp [Room.cold]
  have units (u : UnitId) : (beginCold s).units[u].kind = .absent := by
    have replicated : (beginCold s).units = .replicate 240 UnitRec.cold := rfl
    rw [replicated]
    simp [UnitRec.cold]
  refine ⟨fun i n hn => ?_, fun i j _ used => absurd (rooms i) used, fun u i hi => ?_, fun u v _ lock => ?_⟩
  · rw [rooms] at hn
    cases hn
  · rw [units] at hi
    cases hi
  · rw [units] at lock
    cases lock

theorem RoomInv.event (c : Instr) {s : State} (touched : apart [.rooms, .units] (touchedByEvent c) = false) (inv : RoomInv s) :
    RoomInv (eventOf c s) := by
  cases c with
  | secondTick => exact inv.of_samePlaces (secondTick_samePlaces s)
  | crystalCycle =>
    refine inv.of_samePlaces ?_
    show s.SamePlaces (crystalCycle s)
    simp only [crystalCycle]
    repeat' split
    · exact .refl s
    · exact (s.setClock_same _).samePlaces
    · exact secondTick_samePlaces s
  | ajarTimerExpiry u => exact inv.of_samePlaces (expireAjar_samePlaces s u)
  | pollTimeout line => exact inv.of_samePlaces ((State.SamePlaces.frameKeeps s).pollTimeout line (.refl s))
  | verdictTimeout line => exact inv.of_samePlaces ((State.SamePlaces.frameKeeps s).verdictTimeout line (.refl s))
  | answer line frame => exact inv.of_samePlaces ((State.SamePlaces.frameKeeps s).frameClosed line frame (.refl s))
  | ack line frame => exact inv.of_samePlaces ((State.SamePlaces.frameKeeps s).frameClosed line frame (.refl s))
  | evacRisingEdge => exact inv.of_samePlaces (evacEdge_samePlaces s true)
  | evacFallingEdge => exact inv.of_samePlaces (evacEdge_samePlaces s false)
  | startEnd => exact inv.of_samePlaces (endStart_samePlaces s)
  | mainPowerFall =>
    show RoomInv (mainPowerFall s)
    by_cases off : s.power.phase = .off
    · rwa [mainPowerFall, if_pos off]
    · rw [mainPowerFall, if_neg off]
      exact inv.of_samePlaces s.loseVolatile_samePlaces
  | warmStart =>
    show RoomInv (if s.power.latch then s else beginWarm s)
    by_cases lost : s.power.latch = true
    · rwa [if_pos lost]
    · rw [if_neg lost]
      exact inv.of_samePlaces (beginWarm_samePlaces s)
  | coldStart =>
    show RoomInv (if s.power.latch then beginCold s else s)
    by_cases lost : s.power.latch = true
    · rw [if_pos lost]
      exact RoomInv.cold s
    · rwa [if_neg lost]
  | _ => exact Bool.noConfusion touched

end Sys2Proof.Machine

open Sys2Proof Sys2Proof.Machine

/-- Settles O57: four requests change a room number or a unit's kind, each after the check that keeps them distinct; every other command
leaves both in their places. -/
theorem roomInvariantIsKept : Obligations.RoomInvariantIsKept :=
  step_keeps RoomInv.dependsOn (fun _ _ _ _ request touched _ _ inv => inv.rule request touched)
    fun c _ touched inv => inv.event c touched

end

section
/-! Units, grants and sessions (R87, R97, R113, R133, R198): an operation on one unit keeps what is said of that unit, and the start
tallies move with the grant and the session it gives or takes. -/

namespace Sys2Proof.Machine

-- One theorem at a time: each check by the kernel then needs one stack.
set_option Elab.async false

open Sys2Proof

/-! ## One unit -/

/-- What is said of one unit record beside whether the unit has a grant and an ajar timer, and the slot of its session. -/
def UnitSound (r : UnitRec) (grant ajar : Bool) (session : Option Slot) : Prop :=
  (r.quarantined = true → grant = false ∧ session = none)
  ∧ (∀ i ∈ session, r.kind = .minibarLock i)
  ∧ (r.kind = .absent → grant = false ∧ ajar = false ∧ r = UnitRec.cold)
  ∧ r.misses ≤ 3 ∧ r.misreads ≤ 2
  ∧ (r.misses = 3 ↔ r.link = .silent)
  ∧ (r.link = .silent → r.expected = none)

/-- What is said of the unit `u`. -/
def State.UnitSoundAt (s : State) (u : UnitId) : Prop :=
  UnitSound s.units[u] s.grants[u].isSome s.ajar[u].isSome (s.sessions[u].map Session.slot)

theorem unitInv_iff (s : State) : UnitInv s ↔ ∀ u, s.UnitSoundAt u := by
  refine forall_congr' fun u => ?_
  cases grant : s.grants[u] <;> cases ajar : s.ajar[u] <;> cases session : s.sessions[u] <;>
    simp [State.UnitSoundAt, UnitSound, grant, ajar, session]

section
variable {r : UnitRec} {grant ajar : Bool} {session : Option Slot} (sound : UnitSound r grant ajar session)
include sound

/-- Without its session a unit is sound still. -/
theorem UnitSound.noSession : UnitSound r grant ajar none := by
  obtain ⟨quarantine, -, absent, rest⟩ := sound
  exact ⟨fun q => ⟨(quarantine q).1, rfl⟩, nofun, absent, rest⟩

/-- Without its grant a unit is sound still. -/
theorem UnitSound.noGrant : UnitSound r false ajar session := by
  obtain ⟨quarantine, own, absent, rest⟩ := sound
  exact ⟨fun q => ⟨rfl, (quarantine q).2⟩, own, fun k => ⟨rfl, (absent k).2⟩, rest⟩

/-- Without its ajar timer a unit is sound still. -/
theorem UnitSound.noAjar : UnitSound r grant false session := by
  obtain ⟨quarantine, own, absent, rest⟩ := sound
  exact ⟨quarantine, own, fun k => ⟨(absent k).1, rfl, (absent k).2.2⟩, rest⟩

theorem UnitSound.present_of_session (open' : session.isSome = true) : r.kind ≠ .absent := by
  obtain ⟨-, own, -⟩ := sound
  obtain ⟨i, rfl⟩ := Option.isSome_iff_exists.mp open'
  rw [own i rfl]
  exact nofun

theorem UnitSound.present_of_grant (held : grant = true) : r.kind ≠ .absent := fun k => by
  obtain ⟨-, -, absent, -⟩ := sound
  exact Bool.false_ne_true ((absent k).1.symm.trans held)

theorem UnitSound.present_of_ajar (runs : ajar = true) : r.kind ≠ .absent := fun k => by
  obtain ⟨-, -, absent, -⟩ := sound
  exact Bool.false_ne_true ((absent k).2.1.symm.trans runs)

/-- A record of a present unit may be replaced by one of its kind, no more quarantined, with its link fields in step. -/
theorem UnitSound.replace (present : r.kind ≠ .absent) {q : UnitRec}
    (link : q.misses ≤ 3 ∧ (q.misses = 3 ↔ q.link = .silent) ∧ (q.link = .silent → q.expected = none)) (newAjar : Bool)
    (misreads : q.misreads ≤ 2 ∨ q.misreads = r.misreads := by exact .inr rfl) (kind : q.kind = r.kind := by rfl)
    (quarantined : q.quarantined = true → r.quarantined = true := by exact id) : UnitSound q grant newAjar session := by
  obtain ⟨quarantine, own, -, -, few, -⟩ := sound
  obtain ⟨misses, step, silent⟩ := link
  exact ⟨fun h => quarantine (quarantined h), fun i hi => kind.trans (own i hi), fun k => absurd (kind.symm.trans k) present, misses,
    misreads.elim id fun same => same ▸ few, step, silent⟩

/-- A record of a present unit whose link fields stay is sound with any entrance, relock, status and timer. -/
theorem UnitSound.touch (present : r.kind ≠ .absent) {q : UnitRec} (newAjar : Bool)
    (misreads : q.misreads ≤ 2 ∨ q.misreads = r.misreads := by exact .inr rfl)
    (quarantined : q.quarantined = true → r.quarantined = true := by exact id) (kind : q.kind = r.kind := by rfl)
    (link : q.misses = r.misses ∧ q.link = r.link ∧ q.expected = r.expected := by exact ⟨rfl, rfl, rfl⟩) :
    UnitSound q grant newAjar session := by
  have kept := sound
  obtain ⟨-, -, -, misses, -, step, silent⟩ := sound
  obtain ⟨sameMisses, sameLink, sameExpected⟩ := link
  exact kept.replace present (by rw [sameMisses, sameLink, sameExpected]; exact ⟨misses, step, silent⟩) newAjar misreads kind quarantined

end

theorem UnitSound.cold : UnitSound UnitRec.cold false false none :=
  ⟨nofun, nofun, fun _ => ⟨rfl, rfl, rfl⟩, by simp [UnitRec.cold], by simp [UnitRec.cold], by simp [UnitRec.cold], nofun⟩

/-! ## Counting over all units -/

theorem countP_update {α : Type} [DecidableEq α] {u : α} {p q : α → Bool} (agree : ∀ v, v ≠ u → p v = q v) {xs : List α}
    (nodup : xs.Nodup) (mem : u ∈ xs) : xs.countP p + (q u).toNat = xs.countP q + (p u).toNat := by
  induction xs with
  | nil => cases mem
  | cons x xs ih =>
    obtain ⟨fresh, nodup⟩ := List.nodup_cons.mp nodup
    rw [List.countP_cons, List.countP_cons]
    by_cases here : x = u
    · subst here
      have rest : xs.countP p = xs.countP q := List.countP_congr fun v hv => by
        rw [agree v fun same => fresh (same ▸ hv)]
      rw [rest]
      cases p x <;> cases q x <;> simp
    · have rest := ih nodup ((List.mem_cons.mp mem).resolve_left (Ne.symm here))
      rw [agree x here]
      omega

/-- How many units have an entry. -/
def countSome {α : Type} (v : Vector (Option α) 240) : Nat := allUnits.countP fun u => v[u].isSome

/-- An entry set leaves the others. -/
theorem getElem_set_other {α : Type} {n : Nat} (v : Vector α n) {i j : Fin n} (x : α) (other : j ≠ i) : (v.set i x)[j] = v[j] := by
  simp [Fin.val_ne_of_ne (Ne.symm other)]

theorem getElem_set_same {α : Type} {n : Nat} (v : Vector α n) (i : Fin n) (x : α) : (v.set i x)[i] = x := by simp

theorem countSome_update {α : Type} {v w : Vector (Option α) 240} {u : UnitId} (others : ∀ x, x ≠ u → w[x].isSome = v[x].isSome) :
    countSome w = countSome v + (w[u].isSome).toNat - (v[u].isSome).toNat := by
  have update : countSome w + (v[u].isSome).toNat = countSome v + (w[u].isSome).toNat :=
    countP_update others (List.nodup_finRange 240) (List.mem_finRange u)
  omega

theorem countSome_congr {α β : Type} {v : Vector (Option α) 240} {w : Vector (Option β) 240}
    (same : ∀ u : UnitId, w[u].isSome = v[u].isSome) : countSome w = countSome v :=
  List.countP_congr fun u _ => by rw [same u]

/-! ## The whole part while it runs -/

/-- The part runs, each unit is sound, and the tallies count the grants and the sessions held. -/
structure State.UnitsLive (s : State) : Prop where
  running : s.running = true
  unit : ∀ u, s.UnitSoundAt u
  grants : s.power.grantTally = countSome s.grants
  sessions : s.power.sessionTally = countSome s.sessions

/-- The units and the tallies as the two invariants have them, in any phase. -/
def State.UnitsSound (s : State) : Prop := UnitInv s ∧ TallyInv s

section
variable {s t : State}

theorem State.UnitsSound.live (sound : s.UnitsSound) (running : s.running = true) : s.UnitsLive := by
  obtain ⟨units, tallies⟩ := sound
  have phase := s.running_iff.mp running
  simp only [TallyInv, State.talliesAgree, phase, Bool.and_eq_true, beq_iff_eq] at tallies
  exact ⟨running, (unitInv_iff s).mp units, tallies.1, tallies.2⟩

theorem State.UnitsLive.sound (live : s.UnitsLive) : s.UnitsSound := by
  obtain ⟨running, units, grants, sessions⟩ := live
  have phase := s.running_iff.mp running
  refine ⟨(unitInv_iff s).mpr units, ?_⟩
  simp only [TallyInv, State.talliesAgree, phase, Bool.and_eq_true, beq_iff_eq]
  exact ⟨grants, sessions⟩

theorem State.UnitsLive.dependsOn : DependsOn [.phase, .tallies, .units, .grants, .ajar, .sessions] State.UnitsLive :=
  fun s t same live => by
    have phase : t.power.phase = s.power.phase := same .phase (by simp)
    obtain ⟨grantTally, sessionTally⟩ : s.Agree t .tallies := same .tallies (by simp)
    have units : t.units = s.units := same .units (by simp)
    have grants : t.grants = s.grants := same .grants (by simp)
    have ajar : t.ajar = s.ajar := same .ajar (by simp)
    have sessions : t.sessions = s.sessions := same .sessions (by simp)
    refine ⟨?_, fun u => ?_, ?_, ?_⟩
    · rw [t.running_iff, phase]
      exact s.running_iff.mp live.running
    · rw [State.UnitSoundAt, units, grants, ajar, sessions]
      exact live.unit u
    · rw [grantTally, grants, live.grants]
    · rw [sessionTally, sessions, live.sessions]

theorem State.UnitsSound.dependsOn : DependsOn [.phase, .tallies, .units, .grants, .ajar, .sessions] State.UnitsSound :=
  fun s t same sound => by
    have phase : t.power.phase = s.power.phase := same .phase (by simp)
    obtain ⟨grantTally, sessionTally⟩ : s.Agree t .tallies := same .tallies (by simp)
    have units : t.units = s.units := same .units (by simp)
    have grants : t.grants = s.grants := same .grants (by simp)
    have ajar : t.ajar = s.ajar := same .ajar (by simp)
    have sessions : t.sessions = s.sessions := same .sessions (by simp)
    obtain ⟨inv, tallies⟩ := sound
    refine ⟨fun u => ?_, ?_⟩
    · rw [units, grants, ajar, sessions]
      exact inv u
    · simp only [TallyInv, State.talliesAgree, phase, grantTally, sessionTally, grants, sessions] at tallies ⊢
      exact tallies

theorem State.UnitsLive.of_same {touched : List Field} (live : s.UnitsLive) (same : State.SameBut touched s t)
    (other : apart [.phase, .tallies, .units, .grants, .ajar, .sessions] touched = true := by rfl) : t.UnitsLive :=
  State.UnitsLive.dependsOn.of_same same live other

/-- What an operation on one unit has to show: the other units are untouched, the unit is sound, and each tally moves with what the
unit gains or loses. -/
theorem State.UnitsLive.update (live : s.UnitsLive) (u : UnitId) (phase : t.power.phase = s.power.phase)
    (others : ∀ v : UnitId, v ≠ u →
      t.units[v] = s.units[v] ∧ t.grants[v] = s.grants[v] ∧ t.ajar[v] = s.ajar[v] ∧ t.sessions[v] = s.sessions[v])
    (sound : t.UnitSoundAt u) {g g' x x' : Bool} (oldGrant : s.grants[u].isSome = g) (newGrant : t.grants[u].isSome = g')
    (grants : t.power.grantTally = s.power.grantTally + g'.toNat - g.toNat)
    (oldSession : s.sessions[u].isSome = x) (newSession : t.sessions[u].isSome = x')
    (sessions : t.power.sessionTally = s.power.sessionTally + x'.toNat - x.toNat) : t.UnitsLive := by
  refine ⟨?_, fun v => ?_, ?_, ?_⟩
  · rw [t.running_iff, phase]
    exact s.running_iff.mp live.running
  · by_cases here : v = u
    · rwa [here]
    · obtain ⟨units, grants, ajar, sessions⟩ := others v here
      rw [State.UnitSoundAt, units, grants, ajar, sessions]
      exact live.unit v
  · rw [grants, live.grants, countSome_update (v := s.grants) (w := t.grants) (u := u) fun v hv => by rw [(others v hv).2.1], newGrant,
      oldGrant]
  · rw [sessions, live.sessions,
      countSome_update (v := s.sessions) (w := t.sessions) (u := u) fun v hv => by rw [(others v hv).2.2.2], newSession, oldSession]

/-- Timers and other contents of grants and sessions may change together on all units. -/
theorem State.UnitsLive.reshape (live : s.UnitsLive) (power : t.power = s.power) (units : t.units = s.units)
    (grants : ∀ u : UnitId, t.grants[u].isSome = s.grants[u].isSome) (ajar : ∀ u : UnitId, t.ajar[u].isSome = s.ajar[u].isSome)
    (sessions : ∀ u : UnitId, t.sessions[u].map Session.slot = s.sessions[u].map Session.slot) : t.UnitsLive := by
  have running : t.running = s.running := by simp only [State.running, power]
  refine ⟨running.trans live.running, fun u => ?_, ?_, ?_⟩
  · rw [State.UnitSoundAt, units, grants, ajar, sessions]
    exact live.unit u
  · rw [power, countSome_congr grants, live.grants]
  · have held (u : UnitId) : t.sessions[u].isSome = s.sessions[u].isSome := by
      simpa using congrArg Option.isSome (sessions u)
    rw [power, countSome_congr held, live.sessions]

theorem State.UnitsLive.setUnit (live : s.UnitsLive) {u : UnitId} {r : UnitRec}
    (sound : UnitSound r s.grants[u].isSome s.ajar[u].isSome (s.sessions[u].map Session.slot)) : (s.setUnit u r).UnitsLive := by
  refine live.update u rfl (fun v other => ?_) ?_ rfl rfl (Nat.add_sub_cancel ..).symm rfl rfl (Nat.add_sub_cancel ..).symm
  · exact ⟨by rw [s.getElem_setUnit, if_neg (Ne.symm other)], rfl, rfl, rfl⟩
  · rw [State.UnitSoundAt, s.getElem_setUnit, if_pos rfl]
    exact sound

/-! ## Grants and sessions taken and given -/

/-- A unit's grant removed and counted off. -/
def State.dropGrant (s : State) (u : UnitId) : State :=
  if s.grants[u].isSome then { s.setGrant u none with power := { s.power with grantTally := s.power.grantTally - 1 } } else s

/-- A unit's session removed and counted off. -/
def State.dropSession (s : State) (u : UnitId) : State :=
  if s.sessions[u].isSome then { s.setSession u none with power := { s.power with sessionTally := s.power.sessionTally - 1 } } else s

theorem State.dropGrant_of_none {u : UnitId} (free : s.grants[u] = none) : s.dropGrant u = s :=
  if_neg (by rw [free]; exact nofun)

theorem State.dropGrant_of_some {u : UnitId} {g : Grant} (held : s.grants[u] = some g) :
    s.dropGrant u = { s.setGrant u none with power := { s.power with grantTally := s.power.grantTally - 1 } } :=
  if_pos (by rw [held]; rfl)

theorem State.dropSession_of_none {u : UnitId} (free : s.sessions[u] = none) : s.dropSession u = s :=
  if_neg (by rw [free]; exact nofun)

theorem State.dropSession_of_some {u : UnitId} {x : Session} (held : s.sessions[u] = some x) :
    s.dropSession u = { s.setSession u none with power := { s.power with sessionTally := s.power.sessionTally - 1 } } :=
  if_pos (by rw [held]; rfl)

theorem State.concludeGrant_drops (s : State) (u : UnitId) (detail : Grant → Detail) :
    SameBut [.log, .ports] (s.dropGrant u) (s.concludeGrant u detail) := by
  simp only [State.concludeGrant]
  split
  · rename_i free
    rw [State.dropGrant_of_none free]
    exact .refl s
  · rename_i g held
    rw [State.dropGrant_of_some held]
    exact State.appendUnit_same _ u _ _

theorem State.endSession_drops (s : State) (u : UnitId) (reason : EndReason) :
    SameBut [.log, .ports] (s.dropSession u) (s.endSession u reason) := by
  simp only [State.endSession]
  split
  · rename_i free
    rw [State.dropSession_of_none free]
    exact .refl s
  · rename_i x held
    rw [State.dropSession_of_some held]
    exact State.append_same _ _ _ _ _

theorem State.UnitsLive.dropGrant (live : s.UnitsLive) (u : UnitId) : (s.dropGrant u).UnitsLive := by
  cases held : s.grants[u] with
  | none => rwa [State.dropGrant_of_none held]
  | some g =>
    have without : (s.setGrant u none).grants[u] = none := getElem_set_same _ _ _
    rw [State.dropGrant_of_some held]
    refine live.update u rfl (fun v other => ⟨rfl, getElem_set_other _ _ other, rfl, rfl⟩) ?_ (by rw [held]) (by rw [without])
      rfl rfl rfl (Nat.add_sub_cancel ..).symm
    rw [State.UnitSoundAt, without]
    exact (live.unit u).noGrant

theorem State.UnitsLive.dropSession (live : s.UnitsLive) (u : UnitId) : (s.dropSession u).UnitsLive := by
  cases held : s.sessions[u] with
  | none => rwa [State.dropSession_of_none held]
  | some x =>
    have without : (s.setSession u none).sessions[u] = none := getElem_set_same _ _ _
    rw [State.dropSession_of_some held]
    refine live.update u rfl (fun v other => ⟨rfl, rfl, rfl, getElem_set_other _ _ other⟩) ?_ rfl rfl (Nat.add_sub_cancel ..).symm
      (by rw [held]) (by rw [without]) rfl
    rw [State.UnitSoundAt, without]
    exact (live.unit u).noSession

theorem State.UnitsLive.concludeGrant (live : s.UnitsLive) (u : UnitId) (detail : Grant → Detail) :
    (s.concludeGrant u detail).UnitsLive := (live.dropGrant u).of_same (s.concludeGrant_drops u detail)

theorem State.UnitsLive.endSession (live : s.UnitsLive) (u : UnitId) (reason : EndReason) : (s.endSession u reason).UnitsLive :=
  (live.dropSession u).of_same (s.endSession_drops u reason)

theorem State.UnitsLive.setRelock (live : s.UnitsLive) {u : UnitId} (present : s.units[u].kind ≠ .absent) :
    (s.setRelock u).UnitsLive := by
  have sound := live.unit u
  exact (State.UnitsLive.setUnit live (by exact sound.touch present _))

theorem State.UnitsLive.endSessionRelock (live : s.UnitsLive) (u : UnitId) (reason : EndReason) :
    (s.endSessionRelock u reason).UnitsLive := by
  simp only [State.endSessionRelock]
  split
  · rename_i held
    exact (live.setRelock ((live.unit u).present_of_session (by simpa using held))).endSession u reason
  · exact live

theorem State.UnitsLive.endUnopened (live : s.UnitsLive) (u : UnitId) : (s.endUnopened u).UnitsLive := by
  simp only [State.endUnopened]
  repeat' split
  · exact live
  · exact live.endSession u _
  · exact live

/-- The contents of a session may change, but not its slot. -/
theorem State.UnitsLive.setSession (live : s.UnitsLive) {u : UnitId} {x y : Session} (held : s.sessions[u] = some x)
    (slot : y.slot = x.slot) : (s.setSession u (some y)).UnitsLive := by
  refine live.reshape rfl rfl (fun _ => rfl) (fun _ => rfl) fun v => ?_
  by_cases here : v = u
  · subst here
    rw [State.setSession_sessions, getElem_set_same, held, Option.map_some, Option.map_some, slot]
  · rw [State.setSession_sessions, getElem_set_other _ _ here]

theorem State.UnitsLive.sessionOpened (live : s.UnitsLive) (u : UnitId) : (s.sessionOpened u).UnitsLive := by
  simp only [State.sessionOpened]
  split
  · rename_i x held
    exact live.setSession held rfl
  · exact live

theorem State.UnitsLive.sessionClosed (live : s.UnitsLive) (u : UnitId) : (s.sessionClosed u).UnitsLive := by
  simp only [State.sessionClosed]
  repeat' split
  · exact live.endSession u _
  · exact live
  · exact live

theorem State.UnitsLive.grantSession (live : s.UnitsLive) {u : UnitId} {slot : Slot} (lock : s.units[u].kind = .minibarLock slot)
    (trusted : s.units[u].quarantined = false) (card : Nat) (guest : Bool) (expiry : Nat) :
    (s.grantSession u card guest slot expiry).UnitsLive := by
  simp only [State.grantSession]
  split
  · rename_i free
    have opened (x : Session) (y : State) : (y.setSession u (some x)).sessions[u] = some x := getElem_set_same _ _ _
    refine live.update u rfl (fun v other => ⟨rfl, rfl, rfl, getElem_set_other _ _ other⟩) ?_ rfl rfl (Nat.add_sub_cancel ..).symm
      (by rw [free]) (by rw [opened]) rfl
    obtain ⟨-, -, absent, rest⟩ := live.unit u
    rw [State.UnitSoundAt, opened]
    exact ⟨fun q => absurd (trusted.symm.trans q) Bool.false_ne_true, fun i hi => by cases hi; exact lock, absent, rest⟩
  · rename_i x held
    split
    · exact live.setSession held rfl
    · exact live

/-- A grant given to a unit that is present, not quarantined, and has none. -/
theorem State.UnitsLive.giveGrant (live : s.UnitsLive) {u : UnitId} (free : s.grants[u] = none)
    (present : s.units[u].kind ≠ .absent) (trusted : s.units[u].quarantined = false) (g : Grant) :
    ({ s.setGrant u (some g) with power := { s.power with grantTally := s.power.grantTally + 1 } } : State).UnitsLive := by
  have given : (s.setGrant u (some g)).grants[u] = some g := getElem_set_same _ _ _
  refine live.update u rfl (fun v other => ⟨rfl, getElem_set_other _ _ other, rfl, rfl⟩) ?_ (by rw [free]) (by rw [given])
    rfl rfl rfl (Nat.add_sub_cancel ..).symm
  obtain ⟨-, own, -, rest⟩ := live.unit u
  rw [State.UnitSoundAt, given]
  exact ⟨fun q => absurd (trusted.symm.trans q) Bool.false_ne_true, own, fun k => absurd k present, rest⟩

theorem State.dropGrant_none (s : State) (u : UnitId) : (s.dropGrant u).grants[u] = none := by
  cases held : s.grants[u] with
  | none => rwa [State.dropGrant_of_none held]
  | some g =>
    rw [State.dropGrant_of_some held]
    exact getElem_set_same _ _ _

theorem State.dropSession_none (s : State) (u : UnitId) : (s.dropSession u).sessions[u] = none := by
  cases held : s.sessions[u] with
  | none => rwa [State.dropSession_of_none held]
  | some x =>
    rw [State.dropSession_of_some held]
    exact getElem_set_same _ _ _

theorem State.concludeGrant_grants_self (s : State) (u : UnitId) (detail : Grant → Detail) :
    (s.concludeGrant u detail).grants[u] = none := by
  rw [(s.concludeGrant_drops u detail).agree .grants]
  exact s.dropGrant_none u

theorem State.UnitsLive.createGrant (live : s.UnitsLive) {u : UnitId} (present : s.units[u].kind ≠ .absent)
    (trusted : s.units[u].quarantined = false) (card : Option Nat) (guest : Bool) (unlock : Nat) (evac : Bool) :
    (s.createGrant u card guest unlock evac).UnitsLive := by
  have pulsed (x : State) : State.SameBut [.gates] x
      (match x.unitGate u with | some g => x.loadPulse g unlock evac | none => (x, false)).1 := by
    split
    · exact x.loadPulse_same _ unlock evac
    · exact .refl x
  have replaced : (s.concludeReplaced u).UnitsLive := live.concludeGrant u _
  have units : (s.concludeReplaced u).units = s.units := (s.concludeGrant_same u _).agree .units
  have free : (s.concludeReplaced u).grants[u] = none := s.concludeGrant_grants_self u _
  have given (g : Grant) := (replaced.of_same (pulsed _)).giveGrant (u := u)
    (by rw [(pulsed (s.concludeReplaced u)).agree .grants]; exact free)
    (by rw [(pulsed (s.concludeReplaced u)).agree .units, units]; exact present)
    (by rw [(pulsed (s.concludeReplaced u)).agree .units, units]; exact trusted) g
  simp only [State.createGrant]
  split
  · rename_i slot lock
    refine (given _).grantSession lock ?_ _ guest _
    have kept := Eq.trans ((pulsed (s.concludeReplaced u)).agree .units) units
    exact (congrArg (fun rs : Vector UnitRec 240 => rs[u].quarantined) kept).trans trusted
  · exact given _

/-! ## The lockdown, the evacuation and the tamper -/

theorem State.UnitsLive.cutForLockdown (live : s.UnitsLive) (u : UnitId) : (s.cutForLockdown u).UnitsLive := by
  simp only [State.cutForLockdown]
  split
  · rename_i held
    refine (live.concludeGrant u _).setRelock ?_
    rw [show (s.concludeGrant u _).units = s.units from (s.concludeGrant_same u _).agree .units]
    exact (live.unit u).present_of_grant held
  · exact live

theorem State.UnitsLive.changeMode (live : s.UnitsLive) (source : Source) (m : WingMode) : (s.changeMode source m).UnitsLive := by
  have entered := live.of_same (s.enterMode_same source m)
  simp only [State.changeMode]
  split
  · exact ((foldl_keeps (fun x u (hx : x.UnitsLive) => hx.cutForLockdown u) allUnits entered).of_same
      (State.setOutputs_same _)).of_same (State.announceMode_same _ m)
  · exact (entered.of_same (State.setOutputs_same _)).of_same (State.announceMode_same _ m)

theorem State.UnitsLive.markEvac (live : s.UnitsLive) : s.markEvac.UnitsLive :=
  live.reshape rfl rfl (fun u => by simp [State.markEvac]) (fun _ => rfl) (fun _ => rfl)

theorem State.UnitsLive.evacRises (live : s.UnitsLive) : s.evacRises.UnitsLive := by
  have evacuated {x : State} (hx : x.UnitsLive) : x.markEvac.stopPulses.endAllSessions.setOutputs.UnitsLive :=
    (foldl_keeps (fun y u (hy : y.UnitsLive) => hy.endSessionRelock u .evacuation) allUnits
      (hx.markEvac.of_same (State.stopPulses_same _))).of_same (State.setOutputs_same _)
  have appended := (live.of_same (s.setWing_same { s.wing with evacSampled := true })).of_same
    (State.append_same _ .evacLine none none (.evac s.wing.mode))
  simp only [State.evacRises]
  split
  · exact ((evacuated (appended.of_same (State.enterMode_same _ _ _))).of_same (State.raiseBoth_same _ _)).of_same
      (State.announceMode_same _ _)
  · exact (evacuated appended).of_same (State.raiseBoth_same _ _)

theorem State.UnitsLive.takeLineDifference (live : s.UnitsLive) : s.takeLineDifference.UnitsLive := by
  simp only [State.takeLineDifference]
  repeat' split
  · exact live
  · exact live.evacRises
  · exact live.of_same s.evacFalls_same

theorem State.setUnit_dropGrant (s : State) (u : UnitId) (r : UnitRec) :
    (s.setUnit u r).dropGrant u = (s.dropGrant u).setUnit u r := by
  cases held : s.grants[u] with
  | none => rw [State.dropGrant_of_none held, State.dropGrant_of_none (s := s.setUnit u r) held]
  | some g => rw [State.dropGrant_of_some held, State.dropGrant_of_some (s := s.setUnit u r) held]; rfl

theorem State.setUnit_dropSession (s : State) (u : UnitId) (r : UnitRec) :
    (s.setUnit u r).dropSession u = (s.dropSession u).setUnit u r := by
  cases held : s.sessions[u] with
  | none => rw [State.dropSession_of_none held, State.dropSession_of_none (s := s.setUnit u r) held]
  | some x => rw [State.dropSession_of_some held, State.dropSession_of_some (s := s.setUnit u r) held]; rfl

@[simp] theorem State.dropGrant_units (s : State) (u : UnitId) : (s.dropGrant u).units = s.units := by
  simp only [State.dropGrant]; split <;> rfl

@[simp] theorem State.dropSession_units (s : State) (u : UnitId) : (s.dropSession u).units = s.units := by
  simp only [State.dropSession]; split <;> rfl

@[simp] theorem State.dropGrant_sessions (s : State) (u : UnitId) : (s.dropGrant u).sessions = s.sessions := by
  simp only [State.dropGrant]; split <;> rfl

@[simp] theorem State.dropSession_grants (s : State) (u : UnitId) : (s.dropSession u).grants = s.grants := by
  simp only [State.dropSession]; split <;> rfl

/-- A tampered unit loses its grant and its session, so it may be quarantined. -/
theorem State.UnitsLive.quarantine (live : s.UnitsLive) {u : UnitId} (present : s.units[u].kind ≠ .absent) :
    (((s.dropGrant u).dropSession u).setUnit u { s.units[u] with quarantined := true }).UnitsLive := by
  have dropped := (live.dropGrant u).dropSession u
  refine dropped.setUnit ?_
  obtain ⟨-, own, -, rest⟩ := live.unit u
  rw [State.dropSession_grants, State.dropGrant_none, State.dropSession_none]
  exact ⟨fun _ => ⟨rfl, rfl⟩, nofun, fun k => absurd k present, rest⟩

theorem State.UnitsLive.tamper (live : s.UnitsLive) {u : UnitId} (present : s.units[u].kind ≠ .absent) : (s.tamper u).UnitsLive := by
  let marked := s.setUnit u { s.units[u] with quarantined := true }
  have cut : ((marked.concludeCut u .quarantine).endSession u .quarantine).UnitsLive := by
    refine State.UnitsLive.of_same (live.quarantine present) (touched := [.log, .ports]) ?_
    have first := marked.concludeGrant_drops u fun g => .grantCut g.items .quarantine
    rw [State.setUnit_dropGrant] at first
    have congr {x y : State} (same : State.SameBut [.log, .ports] x y) : State.SameBut [.log, .ports] (x.dropSession u) (y.dropSession u) := by
      have sessions : y.sessions = x.sessions := same.agree .sessions
      obtain ⟨grantTally, sessionTally⟩ : x.Agree y .tallies := same.agree .tallies
      simp only [State.dropSession, sessions]
      split
      · intro f hf
        have agree := same f hf
        cases f <;> simp_all [State.Agree]
      · exact same
    have second := congr first
    rw [State.setUnit_dropSession] at second
    exact second.trans (State.endSession_drops _ u .quarantine)
  refine (((cut.setRelock ?_).of_same (State.appendUnit_same _ u _ _)).of_same (State.raise_same _ _ _))
  have units : ((marked.concludeCut u .quarantine).endSession u .quarantine).units = marked.units :=
    ((marked.concludeGrant_same u _).andThen (State.endSession_same _ u _)
      (hs := [.grants, .sessions, .tallies, .log, .ports])).agree .units
  rw [units]
  simpa [marked, s.getElem_setUnit] using present

/-! ## Reports, presentations and frames -/

theorem State.UnitsLive.setEntrance (live : s.UnitsLive) {u : UnitId} (present : s.units[u].kind ≠ .absent) (e : Entrance)
    (x : Option AjarTimer) : ((s.setUnit u { s.units[u] with entrance := e }).setAjar u x).UnitsLive := by
  have sound := live.unit u
  refine live.update u rfl (fun v other => ?_) ?_ rfl rfl (Nat.add_sub_cancel ..).symm rfl rfl (Nat.add_sub_cancel ..).symm
  · exact ⟨by rw [State.setAjar_units, s.getElem_setUnit, if_neg (Ne.symm other)], rfl,
      getElem_set_other s.ajar _ other, rfl⟩
  · simp only [State.UnitSoundAt, State.setAjar_units, s.getElem_setUnit, if_pos, State.setAjar_grants, State.setUnit_grants,
      State.setAjar_sessions, State.setUnit_sessions]
    exact sound.touch present _

theorem State.UnitsLive.decideOpened (live : s.UnitsLive) {u : UnitId} (present : s.units[u].kind ≠ .absent) (released : Bool) :
    (s.decideOpened u released).UnitsLive := by
  have opened {x : State} (hx : x.UnitsLive) (units : x.units = s.units) : (x.entranceOpened u).UnitsLive :=
    hx.setEntrance (by rwa [units]) .opened _
  simp only [State.decideOpened]
  repeat' split
  · exact opened (live.concludeGrant u _) ((s.concludeGrant_same u _).agree .units)
  · exact opened (live.of_same (s.appendUnit_same u _ _)) ((s.appendUnit_same u _ _).agree .units)
  · exact opened ((live.of_same (s.appendUnit_same u _ _)).of_same (State.raise_same _ _ _))
      (((s.appendUnit_same u _ _).andThen (State.raise_same _ _ _) (hs := [.log, .ports])).agree .units)

theorem State.UnitsLive.reportItems (live : s.UnitsLive) (u : UnitId) (i : Slot) (item : Fin 12) (removed returned : Nat) :
    (s.reportItems u i item removed returned).UnitsLive := by
  have logged (x : State) (cond : Prop) [Decidable cond] (source : Source) (card : Option Nat) (room : Option Slot) (detail : Detail)
      (hx : x.UnitsLive) : (if cond then x.append source card room detail else x).UnitsLive := by
    split
    · exact hx.of_same (x.append_same _ _ _ _)
    · exact hx
  cases session : s.sessions[u] with
  | none =>
    rw [State.reportItems_noSession session]
    by_cases counts : 0 < removed ∨ 0 < returned
    · rw [s.looseItems_eq u item removed returned i counts]
      exact ((logged _ _ _ _ _ _ ((live.of_same (s.setAccount_same i _)).of_same (State.append_same _ _ _ _ _))).of_same
        (State.raise_same _ _ _)).of_same (State.raiseOverdraft_same _ _ _)
    · rwa [State.looseItems, if_neg counts]
  | some x =>
    cases kind : x.kind with
    | guest =>
      rw [State.reportItems_guest session kind, State.guestItems_eq]
      refine State.UnitsLive.of_same (logged _ _ _ _ _ _ (logged _ _ _ _ _ _ ?_)) (State.raiseOverdraft_same _ _ _)
      exact (live.of_same (s.setAccount_same x.slot _)).setSession session rfl
    | restock =>
      rw [State.reportItems_restock session kind]
      exact logged _ _ _ _ _ _ live

theorem State.UnitsLive.report (live : s.UnitsLive) {u : UnitId} (present : s.units[u].kind ≠ .absent) (r : Report) :
    (s.report u r).UnitsLive := by
  have closed : (s.decideClosed u).UnitsLive := live.setEntrance present .closed none
  simp only [State.report]
  split
  · exact live.decideOpened present _
  · exact live.decideOpened present _
  · exact (live.decideOpened present _).sessionOpened u
  · exact closed
  · exact closed
  · exact closed.sessionClosed u
  · exact live.of_same (s.setPrivacy_same _ _)
  · exact live.of_same (s.setPrivacy_same _ _)
  · exact live
  · exact live.tamper present
  · exact live.reportItems u _ _ _ _
  · exact live

theorem State.UnitsLive.setMisreads (live : s.UnitsLive) {u : UnitId} (present : s.units[u].kind ≠ .absent) {n : Nat} (le : n ≤ 2) :
    (s.setMisreads u n).UnitsLive := by
  have sound := live.unit u
  exact (State.UnitsLive.setUnit live (by exact sound.touch present _ (by exact .inl le)))

/-- A ruling gives a grant only at a unit that is not quarantined (R97). -/
theorem State.rule_quarantined {u : UnitId} (quarantined : s.units[u].quarantined = true) (image : CardImage) :
    s.rule u image = .deny .quarantine none none false := by rw [State.rule, if_pos quarantined]

theorem State.UnitsLive.misread (live : s.UnitsLive) {u : UnitId} (present : s.units[u].kind ≠ .absent) (side : Side) :
    (s.misread u side).UnitsLive := by
  simp only [State.misread]
  split
  · exact live.setMisreads present (by omega)
  · exact ((live.setMisreads present (by omega)).of_same (State.appendUnit_same _ u _ _)).of_same (State.raise_same _ _ _)

theorem State.UnitsLive.carryOut (live : s.UnitsLive) {u : UnitId} (present : s.units[u].kind ≠ .absent) (side : Side) {r : Ruling}
    (trusted : s.units[u].quarantined = true → ∃ reason card slot lost, r = .deny reason card slot lost) :
    (s.carryOut u side r).1.UnitsLive := by
  have cleared := live.setMisreads present (Nat.zero_le 2)
  have kind : (s.setMisreads u 0).units[u].kind ≠ .absent := by
    simpa [State.setMisreads, s.getElem_setUnit] using present
  have trusting (other : ∀ reason card slot lost, r ≠ .deny reason card slot lost) : (s.setMisreads u 0).units[u].quarantined = false := by
    simp only [State.setMisreads, s.getElem_setUnit, if_pos]
    refine Bool.eq_false_of_not_eq_true fun quarantined => ?_
    obtain ⟨reason, card, slot, lost, rfl⟩ := trusted quarantined
    exact other _ _ _ _ rfl
  cases r with
  | reread => exact live.misread present side
  | deny reason card slot lostCard =>
    have denied := cleared.of_same (State.appendUnit_same _ u card (.denial reason side slot))
    simp only [State.carryOut]
    split
    · exact denied.of_same (State.raise_same _ _ _)
    · exact denied
  | evacPass card =>
    simp only [State.carryOut]
    exact (cleared.createGrant kind (trusting fun _ _ _ _ => nofun) card false _ true).of_same (State.appendUnit_same _ u _ _)
  | grant card guest =>
    simp only [State.carryOut]
    exact cleared.createGrant kind (trusting fun _ _ _ _ => nofun) _ guest _ false

theorem State.UnitsLive.miss (live : s.UnitsLive) (u : UnitId) : (s.miss u).UnitsLive := by
  have sound := live.unit u
  obtain ⟨-, -, -, -, -, step, silent⟩ := sound
  simp only [State.miss]
  repeat' split
  · exact live
  · rename_i present _
    refine (((State.UnitsLive.setUnit live ?_).of_same (State.appendUnit_same _ u _ _)).of_same (State.raise_same _ _ _))
    exact UnitSound.replace (live.unit u) present ⟨Nat.le_refl 3, by simp, fun _ => rfl⟩ _
  · rename_i present third
    refine State.UnitsLive.setUnit live ?_
    refine UnitSound.replace (live.unit u) present ?_ _
    refine ⟨Nat.min_le_left _ _, ?_, silent⟩
    rw [← step]
    have below := (live.unit u).2.2.2.1
    have second : s.units[u].misses = 3 ∨ s.units[u].misses + 1 < 3 := by
      by_cases lost : s.units[u].link = .silent
      · exact .inl (step.mpr lost)
      · exact .inr (Nat.lt_of_not_le fun le => third ⟨le, lost⟩)
    show min 3 (s.units[u].misses + 1) = 3 ↔ _
    omega

theorem State.UnitsLive.answered (live : s.UnitsLive) {u : UnitId} (present : s.units[u].kind ≠ .absent) : (s.answered u).UnitsLive := by
  have sound := live.unit u
  have stored : (s.setUnit u { s.units[u] with misses := 0, link := .online }).UnitsLive :=
    (State.UnitsLive.setUnit live (by exact sound.replace present (by simp) _))
  simp only [State.answered]
  split
  · exact (stored.of_same (State.appendUnit_same _ u _ _)).of_same (State.raise_same _ _ _)
  · exact stored

theorem State.UnitsLive.acknowledge (live : s.UnitsLive) (u : UnitId) : (s.acknowledge u).UnitsLive := by
  simp only [State.acknowledge]
  split
  · rename_i g held
    refine live.reshape rfl rfl (fun v => ?_) (fun _ => rfl) (fun _ => rfl)
    by_cases here : v = u
    · subst here
      rw [State.setGrant_grants, getElem_set_same, held, Option.isSome_some, Option.isSome_some]
    · rw [State.setGrant_grants, getElem_set_other _ _ here]
  · exact live

theorem State.UnitsLive.frameKeeps : FrameKeeps State.UnitsLive where
  bus := fun x line c live => live.of_same (x.setBus_same line c)
  miss := fun _ u live => live.miss u
  answered := fun _ _ present live => live.answered present
  relock := fun x u b present live => by
    have sound := live.unit u
    simp only [State.deliverRelock]
    split
    · exact (State.UnitsLive.setUnit live (by exact sound.touch present _))
    · exact live
  acknowledge := fun _ u _ live => live.acknowledge u
  take := fun x u bit status present online live => by
    have sound := live.unit u
    obtain ⟨-, -, -, misses, -, step, -⟩ := sound
    refine State.UnitsLive.setUnit live ?_
    refine UnitSound.replace (live.unit u) present ?_ _
    exact ⟨misses, step, fun silent => absurd (online.symm.trans silent) nofun⟩
  report := fun _ _ r present live => live.report present r
  present := fun x u side image present live =>
    live.carryOut present side fun quarantined => ⟨_, _, _, _, x.rule_quarantined quarantined image⟩

/-! ## Expiries and ticks -/

theorem State.UnitsLive.expireTimer (live : s.UnitsLive) (t : Timer) : (expireTimer t s).UnitsLive := by
  cases t with
  | lease i => exact live.of_same (expireLease_same s i)
  | grant u =>
    simp only [Machine.expireTimer, expireGrant]
    repeat' split
    · exact (live.concludeGrant u _).endUnopened u
    · exact live.concludeGrant u _
    · exact live
    · exact live
  | ajar u =>
    simp only [Machine.expireTimer, expireAjar]
    repeat' split
    · rename_i runs _
      have present := (live.unit u).present_of_ajar (by simp [runs])
      exact ((live.setEntrance present .ajar none).of_same (State.appendUnit_same _ u _ _)).of_same (State.raise_same _ _ _)
    · exact live
    · exact live
  | session u =>
    simp only [Machine.expireTimer, expireSession]
    repeat' split
    · exact live.endSession u _
    · exact live
    · exact live
  | pulse g => exact live.of_same (expirePulse_same s g)
  | supervision p => exact live.of_same (expireSupervision_same s p)

theorem State.UnitsLive.tickTimers (live : s.UnitsLive) : s.tickTimers.UnitsLive := by
  refine live.reshape rfl rfl (fun u => by simp [State.tickTimers]) (fun u => by simp [State.tickTimers]) fun u => ?_
  simp only [State.tickTimers, Fin.getElem_fin, Vector.getElem_map, Option.map_map]
  refine Option.map_congr fun x _ => ?_
  simp only [Function.comp]
  split <;> rfl

theorem State.UnitsSound.of_same {touched : List Field} (sound : s.UnitsSound) (same : State.SameBut touched s t)
    (other : apart [.phase, .tallies, .units, .grants, .ajar, .sessions] touched = true := by rfl) : t.UnitsSound :=
  State.UnitsSound.dependsOn.of_same same sound other

theorem State.UnitsSound.secondTick (sound : s.UnitsSound) : (secondTick s).UnitsSound := by
  simp only [Machine.secondTick]
  split
  · exact sound
  · split
    · exact sound.of_same (s.setClock_same _)
    · rename_i running
      have live := ((sound.live (by simpa using running)).of_same (s.setClock_same s.clock.tick.1)).tickTimers
      refine State.UnitsLive.sound (State.expireTimers_keeps State.UnitsLive (fun t _ hx => hx.expireTimer t) _ _ ?_)
      split
      · exact live.of_same (State.workLevels_same _)
      · exact live

theorem State.UnitsSound.crystalCycle (sound : s.UnitsSound) : (crystalCycle s).UnitsSound := by
  simp only [Machine.crystalCycle]
  repeat' split
  · exact sound
  · exact sound.of_same (s.setClock_same _)
  · exact sound.secondTick

/-- An expiry takes effect only while the part runs. -/
theorem expireTimer_stopped (stopped : s.running = false) (t : Timer) : expireTimer t s = s := by
  cases t with
  | lease i => simp only [expireTimer, expireLease, stopped]; split <;> rfl
  | grant u => simp only [expireTimer, expireGrant, stopped]; split <;> rfl
  | ajar u => simp only [expireTimer, expireAjar, stopped]; split <;> rfl
  | session u => simp only [expireTimer, expireSession, stopped]; split <;> rfl
  | pulse g => simp [expireTimer, expirePulse, stopped]
  | supervision p => simp [expireTimer, expireSupervision, stopped]

theorem State.UnitsSound.expireTimer (sound : s.UnitsSound) (t : Timer) : (expireTimer t s).UnitsSound := by
  cases running : s.running with
  | true => exact ((sound.live running).expireTimer t).sound
  | false => rwa [expireTimer_stopped running]

/-! ## Requests -/

theorem State.UnitsLive.endRoomSession (live : s.UnitsLive) (i : Slot) : (s.endRoomSession i).UnitsLive := by
  simp only [State.endRoomSession]
  split
  · exact live.endSessionRelock _ _
  · exact live

theorem State.UnitsLive.checkOut (live : s.UnitsLive) (p : Port) (slot : Byte) : (checkOut p slot s).1.UnitsLive := by
  refine claimed_keeps live (fun i _ _ _ => ?_) fun i kept => kept.of_same (State.loadLease_same _ i p)
  split
  · exact (((((live.of_same (s.setTable_same _)).of_same (State.setRoom_same _ i _)).of_same (State.setAccount_same _ i _)).of_same
      (State.append_same _ _ _ _ _)).of_same (logRevokes_same _ p _)).endRoomSession i
  · exact live

theorem State.UnitsLive.setMode (live : s.UnitsLive) (p : Port) (mode : Byte) : (setMode p mode s).1.UnitsLive := by
  simp only [Machine.setMode]
  repeat' split
  · exact live
  · exact live
  · exact live
  · exact live.changeMode _ _

theorem State.UnitsLive.readmitUnit (live : s.UnitsLive) (p : Port) (bus address : Byte) : (readmitUnit p bus address s).1.UnitsLive := by
  simp only [Machine.readmitUnit]
  repeat' split
  · exact live
  · exact live
  · rename_i u _ present _
    have sound := live.unit u
    exact ((State.UnitsLive.setUnit live (by exact sound.touch present _ (quarantined := by exact nofun))).of_same (State.append_same _ _ _ _ _))
  · exact live

theorem State.unitBusy_eq_false {u : UnitId} (idle : ¬ s.unitBusy u = true) : s.grants[u] = none ∧ s.sessions[u] = none := by
  simpa [State.unitBusy] using idle

/-- An idle unit's record replaced, with its ajar timer stopped. -/
theorem State.UnitsLive.replaceIdle (live : s.UnitsLive) {u : UnitId} (idle : ¬ s.unitBusy u = true) {r : UnitRec}
    (sound : UnitSound r false false none) : ((s.setUnit u r).setAjar u none).UnitsLive := by
  obtain ⟨grant, session⟩ := State.unitBusy_eq_false idle
  refine live.update u rfl (fun v other => ?_) ?_ rfl rfl (Nat.add_sub_cancel ..).symm rfl rfl (Nat.add_sub_cancel ..).symm
  · exact ⟨by rw [State.setAjar_units, s.getElem_setUnit, if_neg (Ne.symm other)], rfl,
      getElem_set_other s.ajar _ other, rfl⟩
  · simp only [State.UnitSoundAt, State.setAjar_units, s.getElem_setUnit, if_pos, State.setAjar_grants, State.setUnit_grants,
      State.setAjar_sessions, State.setUnit_sessions, grant, session]
    simpa using sound

theorem kindOf?_ne_absent {kind slot gate : Byte} {k : UnitKind} (named : kindOf? kind slot gate = some k) : k ≠ .absent := by
  rintro rfl
  simp only [kindOf?] at named
  split at named <;> simp at named

theorem UnitSound.configured (r : UnitRec) {kind : UnitKind} (present : kind ≠ .absent) (ec : Fin 8) :
    UnitSound (r.configured kind ec) false false none :=
  ⟨fun _ => ⟨rfl, rfl⟩, nofun, fun k => absurd k present, by simp [UnitRec.configured, UnitRec.cold],
    by simp [UnitRec.configured, UnitRec.cold], by simp [UnitRec.configured, UnitRec.cold], nofun⟩

theorem State.UnitsLive.configureUnit (live : s.UnitsLive) (bus address kind cls slot gate : Byte) :
    (configureUnit bus address kind cls slot gate s).1.UnitsLive := by
  simp only [Machine.configureUnit]
  split
  · rename_i u k ec _ named _
    repeat' split
    · exact live
    · exact live
    · exact live
    · rename_i idle _ _
      exact ((live.replaceIdle idle (.configured _ (kindOf?_ne_absent named) ec)).of_same (State.forgetPrivacy_same _ _)).of_same
        (State.forgetPrivacy_same _ _)
  · exact live

theorem State.UnitsLive.removeUnit (live : s.UnitsLive) (bus address : Byte) : (removeUnit bus address s).1.UnitsLive := by
  simp only [Machine.removeUnit]
  repeat' split
  · exact live
  · exact live
  · exact live
  · rename_i u _ _ idle
    have removed := (live.replaceIdle idle .cold).of_same (State.forgetPrivacy_same _ s.units[u].kind)
    refine State.UnitsLive.dependsOn _ _ (fun f hf => ?_) removed
    have commutes : (((s.setUnit u UnitRec.cold).setAjar u none).forgetPrivacy s.units[u].kind)
        = ((s.setAjar u none).forgetPrivacy s.units[u].kind).setUnit u UnitRec.cold := by
      simp only [State.forgetPrivacy]
      split <;> rfl
    rw [commutes]
    exact State.SameBut.refl _ f (List.not_mem_nil)

theorem State.UnitsLive.rule {i : Instr} {p : Port} {rq : Request} {body : List Byte} (request : i.request? = some (p, rq, body))
    (touched : apart [.phase, .tallies, .units, .grants, .ajar, .sessions] (touchedBy rq) = false) (live : s.UnitsLive) :
    (ruleOf i s).1.UnitsLive := by
  cases i with
  | checkOut => exact live.checkOut _ _
  | setMode => exact live.setMode _ _
  | readmitUnit => exact live.readmitUnit _ _ _
  | configureUnit => exact live.configureUnit _ _ _ _ _ _
  | removeUnit => exact live.removeUnit _ _
  | _ => cases request <;> exact Bool.noConfusion touched

/-! ## Starts -/

theorem State.UnitsSound.frameClosed (sound : s.UnitsSound) (line : Bus) (frame : List Byte) : (frameClosed line frame s).UnitsSound := by
  by_cases running : s.running = true
  · exact State.UnitsLive.sound (State.UnitsLive.frameKeeps.frameClosed line frame (sound.live running))
  · rwa [Machine.frameClosed, if_pos (by simpa using running)]

theorem State.UnitsSound.pollTimeout (sound : s.UnitsSound) (line : Bus) : (pollTimeout line s).UnitsSound := by
  by_cases running : s.running = true
  · exact State.UnitsLive.sound (State.UnitsLive.frameKeeps.pollTimeout line (sound.live running))
  · simp only [Machine.pollTimeout, if_neg running]
    split <;> exact sound

theorem State.UnitsSound.verdictTimeout (sound : s.UnitsSound) (line : Bus) : (verdictTimeout line s).UnitsSound := by
  by_cases running : s.running = true
  · exact State.UnitsLive.sound (State.UnitsLive.frameKeeps.verdictTimeout line (sound.live running))
  · simp only [Machine.verdictTimeout, if_neg running]
    split <;> exact sound

theorem State.UnitsSound.evacEdge (sound : s.UnitsSound) (asserted : Bool) : (evacEdge asserted s).UnitsSound := by
  have moved := sound.of_same (s.setWing_same { s.wing with evacPin := asserted })
  simp only [Machine.evacEdge]
  split
  · exact sound
  · split
    · exact moved
    · rename_i running
      have running : State.running { s with wing := { s.wing with evacPin := asserted } } = true :=
        Bool.eq_false_or_eq_true _ |>.resolve_right (fun h => running (by simp [h]))
      split
      · exact (moved.live running).evacRises.sound
      · exact ((moved.live running).of_same (State.evacFalls_same _)).sound

/-- Volatile state lost: no grant, no session and no timer, and each record at its start values. -/
theorem State.loseVolatile_unitSound (units : UnitInv s) (u : UnitId) : s.loseVolatile.UnitSoundAt u := by
  obtain ⟨-, -, absent, -⟩ := units u
  simp only [State.UnitSoundAt, State.loseVolatile, Fin.getElem_fin, Vector.getElem_map, Vector.getElem_replicate, Option.isSome_none,
    Option.map_none]
  refine ⟨fun _ => ⟨rfl, rfl⟩, nofun, fun k => ⟨rfl, rfl, ?_⟩, by simp [UnitRec.warm, UnitRec.cold], by simp [UnitRec.warm, UnitRec.cold],
    by simp [UnitRec.warm, UnitRec.cold], nofun⟩
  have cold : s.units[u] = UnitRec.cold := (absent k).2.2
  show UnitRec.warm s.units[u] = UnitRec.cold
  rw [cold]
  rfl

/-- Without a grant and without a session on any unit. -/
def State.Idle (s : State) : Prop := ∀ u : UnitId, s.grants[u] = none ∧ s.sessions[u] = none

theorem State.idle_iff (s : State) : (allUnits.all fun u => s.grants[u].isNone && s.sessions[u].isNone) = true ↔ s.Idle := by
  simp [allUnits, State.Idle]

theorem State.loseVolatile_idle (s : State) : s.loseVolatile.Idle := fun u => by simp [State.loseVolatile]

theorem countSome_none {α : Type} {v : Vector (Option α) 240} (empty : ∀ u : UnitId, v[u] = none) : countSome v = 0 := by
  rw [countSome, List.countP_eq_zero]
  intro u _
  simp [empty u]

theorem State.UnitsSound.assertReset (sound : s.UnitsSound) : (assertReset s).UnitsSound := by
  by_cases off : s.power.phase = .off
  · rwa [Machine.assertReset, if_pos off]
  · rw [Machine.assertReset, if_neg off]
    exact ⟨sound.1, rfl⟩

theorem State.UnitsSound.mainPowerFall (sound : s.UnitsSound) : (mainPowerFall s).UnitsSound := by
  by_cases off : s.power.phase = .off
  · rwa [Machine.mainPowerFall, if_pos off]
  · rw [Machine.mainPowerFall, if_neg off]
    exact ⟨(unitInv_iff _).mpr (State.loseVolatile_unitSound sound.1), rfl⟩

theorem State.UnitsSound.beginWarm (sound : s.UnitsSound) : (beginWarm s).UnitsSound := by
  refine ⟨(unitInv_iff _).mpr (State.loseVolatile_unitSound sound.1), ?_⟩
  have idle : (Machine.beginWarm s).Idle := s.loseVolatile_idle
  exact (State.idle_iff _).mpr idle

theorem State.UnitsSound.beginCold (s : State) : (beginCold s).UnitsSound := by
  have units : (Machine.beginCold s).units = .replicate 240 UnitRec.cold := rfl
  have grants : (Machine.beginCold s).grants = .replicate 240 none := rfl
  have ajar : (Machine.beginCold s).ajar = .replicate 240 none := rfl
  have sessions : (Machine.beginCold s).sessions = .replicate 240 none := rfl
  refine ⟨(unitInv_iff _).mpr fun u => ?_, ?_⟩
  · rw [State.UnitSoundAt, units, grants, ajar, sessions]
    simpa using UnitSound.cold
  · have idle : (Machine.beginCold s).Idle := fun u => by
      rw [grants, sessions]
      simp
    have tallies := (State.idle_iff _).mpr idle
    have phase : (Machine.beginCold s).power.phase = .starting .cold := rfl
    have grantTally : (Machine.beginCold s).power.grantTally = 0 := rfl
    have sessionTally : (Machine.beginCold s).power.sessionTally = 0 := rfl
    simp only [TallyInv, State.talliesAgree, phase, grantTally, sessionTally, tallies, BEq.rfl, Bool.and_self]

/-- A start that ends has given no grant and opened no session. -/
theorem State.UnitsSound.commitStart (sound : s.UnitsSound) {start : Start} (phase : s.power.phase = .starting start) :
    (s.commitStart start).UnitsLive := by
  obtain ⟨units, tallies⟩ := sound
  have units := (unitInv_iff s).mp units
  cases start with
  | warm mode record =>
    simp only [TallyInv, State.talliesAgree, phase] at tallies
    have idle := (State.idle_iff s).mp tallies
    exact ⟨rfl, units, (countSome_none fun u => (idle u).1).symm, (countSome_none fun u => (idle u).2).symm⟩
  | cold =>
    simp only [TallyInv, State.talliesAgree, phase, Bool.and_eq_true, beq_iff_eq] at tallies
    obtain ⟨⟨grants, sessions⟩, idle⟩ := tallies
    have idle := (State.idle_iff s).mp idle
    exact ⟨rfl, units, grants.trans (countSome_none fun u => (idle u).1).symm,
      sessions.trans (countSome_none fun u => (idle u).2).symm⟩

theorem State.UnitsSound.endStart (sound : s.UnitsSound) : (endStart s).UnitsSound := by
  simp only [Machine.endStart]
  split
  · rename_i start phase
    exact (sound.commitStart phase).takeLineDifference.sound
  · exact sound

theorem State.UnitsSound.event (c : Instr)
    (touched : apart [.phase, .tallies, .units, .grants, .ajar, .sessions] (touchedByEvent c) = false) (sound : s.UnitsSound) :
    (eventOf c s).UnitsSound := by
  cases c with
  | secondTick => exact sound.secondTick
  | crystalCycle => exact sound.crystalCycle
  | pendingGrantExpiry u => exact sound.expireTimer (.grant u)
  | ajarTimerExpiry u => exact sound.expireTimer (.ajar u)
  | minibarSessionExpiry u => exact sound.expireTimer (.session u)
  | pollTimeout line => exact sound.pollTimeout line
  | verdictTimeout line => exact sound.verdictTimeout line
  | answer line frame => exact sound.frameClosed line frame
  | ack line frame => exact sound.frameClosed line frame
  | evacRisingEdge => exact sound.evacEdge true
  | evacFallingEdge => exact sound.evacEdge false
  | rstAsserted => exact sound.assertReset
  | mainPowerFall => exact sound.mainPowerFall
  | warmStart =>
    show (if s.power.latch then s else Machine.beginWarm s).UnitsSound
    by_cases lost : s.power.latch = true
    · rwa [if_pos lost]
    · rw [if_neg lost]
      exact sound.beginWarm
  | coldStart =>
    show (if s.power.latch then Machine.beginCold s else s).UnitsSound
    by_cases lost : s.power.latch = true
    · rw [if_pos lost]
      exact .beginCold s
    · rwa [if_neg lost]
  | startEnd => exact sound.endStart
  | _ => exact Bool.noConfusion touched

end

end Sys2Proof.Machine

open Sys2Proof Sys2Proof.Machine

/-- Settles O56: each operation touches one unit's record, grant, timer or session at a time and moves the tallies with it; a start ends
with none of them held. -/
theorem unitInvariantIsKept : Obligations.UnitInvariantIsKept := by
  intro s t units tallies
  exact step_keeps State.UnitsSound.dependsOn
    (fun _ _ _ _ request touched _ ready sound => ((sound.live ready.1).rule request touched).sound)
    (fun c _ touched sound => sound.event c touched) rfl rfl s t ⟨units, tallies⟩

end

section
/-! The settings that few commands change (R6, R17, R44, R110 to R112, R129, R130, R150, R151), and how the wing leaves EVACUATION (R158,
R159, R164). -/

namespace Sys2Proof.Machine

-- One theorem at a time: each check by the kernel then needs one stack.
set_option Elab.async false

open Sys2Proof

/-- A field that a command changes is one that the rule of the request it carries touches, or its event. -/
theorem touched_of_changed {c : Instr} {s t : State} (h : exec c s = .next t) {f : Field} (noPorts : f ≠ .ports)
    (changed : ¬ s.Agree t f) :
    (∃ rq, carriedRequest c = some rq ∧ f ∈ touchedBy rq) ∨ f ∈ touchedByEvent c := by
  have dep : DependsOn [f] (s.Agree · f) := fun x y same hx => hx.trans (same f (List.mem_singleton_self f))
  have free : RequestFree (s.Agree · f) := dep.requestFree (apart_iff.mpr fun g hg => by
    rw [List.mem_singleton.mp hg]
    simpa using noPorts)
  by_contra outside
  obtain ⟨noRule, noEvent⟩ := not_or.mp outside
  refine changed (exec_keeps free h ((State.SameBut.refl (touched := []) s).agree f (by rfl))
    (fun i p rq body carries request x _ hx => ?_) fun _ => eventOf_same c s f noEvent)
  exact hx.trans (ruleOf_same request x f fun touched => noRule ⟨rq, carries.carriedRequest_eq request, touched⟩)

/-- The settings that few commands change. -/
def settings : List Field := [.generations, .clockSet, .site, .prices, .reserve, .conditions, .entrances, .shifts, .schedule]

/-- Of the settings only a cold start's event changes one, and the queue is changed by none. -/
theorem touchedByEvent_settings {c : Instr} (warm : c ≠ .coldStart) : apart settings (touchedByEvent c) = true := by
  cases c with
  | coldStart => exact absurd rfl warm
  | _ => rfl

theorem touchedByEvent_pending (c : Instr) : apart [.pending] (touchedByEvent c) = true := by
  cases c <;> rfl

/-- A setting changes only by a request that touches it. -/
theorem request_of_changed {c : Instr} (warm : c ≠ .coldStart) {s t : State} (h : exec c s = .next t) {f : Field}
    (changed : ¬ s.Agree t f) (setting : f ∈ settings := by simp [settings]) :
    ∃ rq, carriedRequest c = some rq ∧ f ∈ touchedBy rq :=
  (touched_of_changed h (by rintro rfl; simp [settings] at setting) changed).resolve_right
    (apart_iff.mp (touchedByEvent_settings warm) f setting)

/-! ## EVACUATION -/

theorem setMode_of_evacuation {s : State} (evacuated : s.wing.mode = .evacuation) (p : Port) (mode : Byte) :
    (setMode p mode s).1 = s := by
  simp only [setMode, if_pos evacuated]
  split <;> rfl

theorem State.evacFalls_mode (s : State) : s.evacFalls.wing.mode = s.wing.mode := by
  let cleared : State := { s with wing := { s.wing with evacSampled := false } }
  have told : State.SameBut [.log, .ports] cleared s.evacFalls :=
    (State.append_same _ _ _ _ _).andThen (State.raiseBoth_same _ _)
  have wing : s.evacFalls.wing = cleared.wing := told.agree .wing
  rw [wing]

theorem State.evacRises_mode {s : State} (evacuated : s.wing.mode = .evacuation) : s.evacRises.wing.mode = .evacuation := by
  have kept (x : State) : (x.markEvac.stopPulses.endAllSessions.setOutputs.raiseBoth (.evacLine true)).wing = x.wing :=
    x.evacuate_same.agree .wing
  simp [State.evacRises, evacuated, kept]

theorem endStart_of_running {s : State} (running : s.running = true) : endStart s = s := by
  simp only [endStart, s.running_iff.mp running]

/-- No event leaves EVACUATION with the part running before and after. -/
theorem eventOf_evacuation {c : Instr} {s : State} (running : s.running = true) (evacuated : s.wing.mode = .evacuation) :
    (eventOf c s).running = true → (eventOf c s).wing.mode = .evacuation := by
  intro runsOn
  cases touched : apart [.wing] (touchedByEvent c) with
  | true =>
    have wing : (eventOf c s).wing = s.wing := eventOf_same c s .wing (apart_iff.mp touched _ (List.mem_singleton_self _))
    rw [wing, evacuated]
  | false =>
    have edge (asserted : Bool) : (evacEdge asserted s).wing.mode = .evacuation := by
      have moved : ({ s with wing := { s.wing with evacPin := asserted } } : State).wing.mode = .evacuation := evacuated
      simp only [evacEdge]
      repeat' split
      · exact evacuated
      · exact evacuated
      · exact State.evacRises_mode moved
      · exact (State.evacFalls_mode _).trans moved
    cases c with
    | evacRisingEdge => exact edge true
    | evacFallingEdge => exact edge false
    | warmStart =>
      revert runsOn
      show (if s.power.latch then s else beginWarm s).running = true
        → (if s.power.latch then s else beginWarm s).wing.mode = .evacuation
      by_cases lost : s.power.latch = true
      · rw [if_pos lost]
        exact fun _ => evacuated
      · rw [if_neg lost]
        exact fun runs => nomatch ((beginWarm s).running_iff.mp runs)
    | coldStart =>
      revert runsOn
      show (if s.power.latch then beginCold s else s).running = true
        → (if s.power.latch then beginCold s else s).wing.mode = .evacuation
      by_cases lost : s.power.latch = true
      · rw [if_pos lost]
        exact fun runs => nomatch ((beginCold s).running_iff.mp runs)
      · rw [if_neg lost]
        exact fun _ => evacuated
    | startEnd =>
      have same : eventOf .startEnd s = s := endStart_of_running running
      rw [same, evacuated]
    | _ => exact Bool.noConfusion touched

/-- While the part runs only RESTORE leaves EVACUATION. -/
theorem restore_of_leaves_evacuation {c : Instr} {s t : State} (h : exec c s = .next t) (running : s.running = true)
    (runsOn : t.running = true) (evacuated : s.wing.mode = .evacuation) (left : t.wing.mode ≠ .evacuation) :
    carriedRequest c = some .restore := by
  by_contra other
  have free : RequestFree fun x : State => x.running = true → x.wing.mode = .evacuation :=
    DependsOn.requestFree (fields := [.phase, .wing]) (fun x y same hx runs => by
      have phase : y.power.phase = x.power.phase := same .phase (by simp)
      have wing : y.wing = x.wing := same .wing (by simp)
      rw [wing]
      exact hx (x.running_iff.mpr (phase ▸ y.running_iff.mp runs))) rfl
  refine left (exec_keeps free h (fun _ => evacuated) (fun i p rq body carries request x ready hx _ => ?_)
    (fun _ => eventOf_evacuation running evacuated) runsOn)
  have stays := hx ready.1
  cases touched : apart [.wing] (touchedBy rq) with
  | true =>
    have wing : (ruleOf i x).1.wing = x.wing := ruleOf_same request x .wing (apart_iff.mp touched _ (List.mem_singleton_self _))
    rw [wing, stays]
  | false =>
    cases i with
    | setMode =>
      rw [show (ruleOf (.setMode _ _) x).1 = x from setMode_of_evacuation stays _ _, stays]
    | restore => cases request; exact absurd (carries.carriedRequest_eq rfl) other
    | _ => cases request <;> exact Bool.noConfusion touched

end Sys2Proof.Machine

open Sys2Proof Sys2Proof.Machine

/-- Settles O60: each setting is a field of its own that the rules of its own requests touch, and no event but a cold start's; and
SET MODE is refused in EVACUATION. -/
theorem onlyTheirRequestsChangeThem : Obligations.OnlyTheirRequestsChangeThem := by
  intro s t c rest front h
  have h : exec c { s with pending := rest } = .next t := by simpa only [step, front] using h
  refine ⟨?_, fun running runsOn => restore_of_leaves_evacuation (s := { s with pending := rest }) h running runsOn, fun warm => ?_⟩
  · by_contra changed
    rcases touched_of_changed h (f := .pending) nofun changed with ⟨rq, -, touched⟩ | touched
    · cases rq <;> simp [touchedBy] at touched
    · exact apart_iff.mp (touchedByEvent_pending c) _ (List.mem_singleton_self _) touched
  · have owner {f : Field} {rqs : List Request} (changed : ¬ State.Agree { s with pending := rest } t f)
        (setting : f ∈ settings) (owners : ∀ rq, f ∈ touchedBy rq → rq ∈ rqs) : carriedRequest c ∈ rqs.map some := by
      obtain ⟨rq, carried, touched⟩ := request_of_changed warm h changed setting
      exact carried ▸ List.mem_map_of_mem (owners rq touched)
    have only {f : Field} {own : Request} (changed : ¬ State.Agree { s with pending := rest } t f)
        (setting : f ∈ settings) (owners : ∀ rq, f ∈ touchedBy rq → rq = own) : carriedRequest c = some own :=
      List.mem_singleton.mp (owner (rqs := [own]) changed setting fun rq touched => List.mem_singleton.mpr (owners rq touched))
    refine ⟨fun i changed => only (f := .generations) (fun same => changed (same i)) (by simp [settings]) ?_,
      fun changed => only (f := .clockSet) changed (by simp [settings]) ?_,
      fun changed => only (f := .site) changed (by simp [settings]) ?_,
      fun changed => only (f := .prices) changed (by simp [settings]) ?_,
      fun changed => only (f := .reserve) changed (by simp [settings]) ?_,
      fun changed => only (f := .conditions) changed (by simp [settings]) ?_,
      fun changed => only (f := .entrances) changed (by simp [settings]) ?_,
      fun changed => only (f := .shifts) changed (by simp [settings]) ?_,
      fun changed => owner (f := .schedule) (rqs := [.addScheduleEntry, .removeScheduleEntry, .clearSchedule]) changed
        (by simp [settings]) ?_⟩
    all_goals intro rq; cases rq <;> simp [touchedBy]

end

section
/-! The clock in range (R1, R3, R11), the retention-lost latch by the phase of the part (R197), and the Quaybus Controllers (R76, R80, R86,
R92). -/

namespace Sys2Proof.Machine

-- One theorem at a time: each check by the kernel then needs one stack.
set_option Elab.async false

open Sys2Proof

/-! ## The clock -/

theorem ClockInv.dependsOn : DependsOn [.clock] ClockInv := fun s t same inv => by
  have clock : t.clock = s.clock := same .clock (List.mem_singleton_self _)
  rwa [ClockInv, clock]

theorem ClockInv.of_same {touched : List Field} {s t : State} (inv : ClockInv s) (same : State.SameBut touched s t)
    (other : apart [.clock] touched = true := by rfl) : ClockInv t := ClockInv.dependsOn.of_same same inv other

section
variable {s : State} (inv : ClockInv s)
include inv

/-- A second tick keeps the clock in range: at its last second CLOCK_END holds it. -/
theorem ClockInv.tick : ClockInv { s with clock := s.clock.tick.1 } := by
  obtain ⟨day, minute, second, -, grace, last⟩ := inv
  simp only [ClockInv, Clock.tick]
  split
  · exact ⟨day, minute, second, Nat.zero_le _, grace, last⟩
  · rename_i counting
    have before : ¬ (s.clock.day = 65535 ∧ s.clock.minute = 1439 ∧ s.clock.second = 59) := fun atEnd => counting (last.mpr atEnd)
    split
    · refine ⟨day, minute, ?_, Nat.zero_le _, grace, decide_eq_true_iff⟩
      simp only
      omega
    · split
      · refine ⟨day, ?_, Nat.zero_le _, Nat.zero_le _, grace, iff_of_false (by simpa using counting) ?_⟩
        · simp only
          omega
        · simp
      · refine ⟨?_, Nat.zero_le _, Nat.zero_le _, Nat.zero_le _, grace, iff_of_false (by simpa using counting) ?_⟩
        · simp only
          omega
        · simp

theorem ClockInv.secondTick : ClockInv (secondTick s) := by
  have levels (x : State) (minute : Bool) (hx : ClockInv x) :
      ClockInv (if minute then x.tickTimers.workLevels else x.tickTimers) := by
    split
    · exact (hx.of_same x.tickTimers_same).of_same (State.workLevels_same _)
    · exact hx.of_same x.tickTimers_same
  simp only [Machine.secondTick]
  split
  · exact inv
  · split
    · exact inv.tick
    · exact (levels _ _ inv.tick).of_same (State.expireTimers_same _ _)

theorem ClockInv.crystalCycle : ClockInv (crystalCycle s) := by
  simp only [Machine.crystalCycle]
  repeat' split
  · exact inv
  · rename_i below
    obtain ⟨day, minute, second, -, rest⟩ := inv
    exact ⟨day, minute, second, Nat.succ_le_of_lt below, rest⟩
  · exact inv.secondTick

theorem ClockInv.setClock (p : Port) (reading : DayMinute) : ClockInv (setClock p reading s).1 := by
  simp only [Machine.setClock]
  split
  · exact inv
  · rename_i minute
    obtain ⟨-, -, -, -, grace, -⟩ := inv
    have set : ClockInv { s with clock := s.clock.setTo (momentOf reading) } :=
      ⟨Nat.le_of_lt_succ reading.day.isLt, Nat.le_of_not_lt minute, Nat.zero_le _, Nat.zero_le _, grace,
        iff_of_false Bool.false_ne_true (by simp [Clock.setTo])⟩
    exact ((set.of_same (State.workLevels_same _)).of_same (State.append_same _ _ _ _ _)).of_same (State.raise_same _ _ _)

theorem ClockInv.setGrace (grace : Byte) : ClockInv (setGrace grace s).1 := by
  obtain ⟨day, minute, second, prescaler, -, last⟩ := inv
  exact ⟨day, minute, second, prescaler, max_le (Nat.zero_le _) (Nat.min_le_left _ _), last⟩

theorem ClockInv.rule {i : Instr} {p : Port} {rq : Request} {body : List Byte} (request : i.request? = some (p, rq, body))
    (touched : apart [.clock] (touchedBy rq) = false) : ClockInv (ruleOf i s).1 := by
  cases i with
  | setClock => exact inv.setClock _ _
  | setGrace => exact inv.setGrace _
  | _ => cases request <;> exact Bool.noConfusion touched

theorem ClockInv.event (c : Instr) (touched : apart [.clock] (touchedByEvent c) = false) : ClockInv (eventOf c s) := by
  cases c with
  | secondTick => exact inv.secondTick
  | crystalCycle => exact inv.crystalCycle
  | coldStart =>
    show ClockInv (if s.power.latch then beginCold s else s)
    by_cases lost : s.power.latch = true
    · rw [if_pos lost]
      have clock : (beginCold s).clock = Clock.cold := rfl
      rw [ClockInv, clock]
      decide
    · rwa [if_neg lost]
  | _ => exact Bool.noConfusion touched

end

theorem ClockInv.step {s t : State} (inv : ClockInv s) (h : step s = .next t) : ClockInv t :=
  step_keeps ClockInv.dependsOn (fun _ _ _ _ request touched _ _ inv => inv.rule request touched)
    (fun c _ touched inv => inv.event c touched) rfl rfl s t inv h

/-! ## The phase and the latch -/

theorem PowerInv.dependsOn : DependsOn [.phase, .supply] PowerInv := fun s t same inv => by
  have phase : t.power.phase = s.power.phase := same .phase (by simp)
  obtain ⟨retained, latch⟩ : s.Agree t .supply := same .supply (by simp)
  rwa [PowerInv, phase, retained, latch]

section
variable {s : State} (inv : PowerInv s)
include inv

/-- Where main power is present the domain has its supply. -/
theorem PowerInv.retained (powered : s.power.phase ≠ .off) : s.power.retained = true := by
  obtain ⟨-, supply⟩ := inv
  by_contra lost
  exact powered (supply (Bool.eq_false_of_not_eq_true lost)).1

theorem PowerInv.assertReset : PowerInv (assertReset s) := by
  by_cases off : s.power.phase = .off
  · rwa [Machine.assertReset, if_pos off]
  · rw [Machine.assertReset, if_neg off]
    exact ⟨nofun, fun lost => absurd ((inv.retained off).symm.trans lost) nofun⟩

theorem PowerInv.mainPowerFall : PowerInv (mainPowerFall s) := by
  by_cases off : s.power.phase = .off
  · rwa [Machine.mainPowerFall, if_pos off]
  · rw [Machine.mainPowerFall, if_neg off]
    exact ⟨nofun, fun lost => absurd ((inv.retained off).symm.trans lost) nofun⟩

theorem PowerInv.retentionLost : PowerInv (retentionLost s) := by
  by_cases off : s.power.phase = .off
  · rw [Machine.retentionLost, if_pos off]
    exact ⟨by rw [PowerInv] at inv; simp [off, Phase.latch?], fun _ => ⟨off, rfl⟩⟩
  · rwa [Machine.retentionLost, if_neg off]

theorem PowerInv.commitStart {start : Start} (phase : s.power.phase = .starting start) : PowerInv (s.commitStart start) := by
  have retained := inv.retained (by rw [phase]; exact nofun)
  obtain ⟨latch, -⟩ := inv
  cases start with
  | warm mode record =>
    refine ⟨fun b hb => ?_, fun lost => absurd (retained.symm.trans lost) nofun⟩
    cases hb
    exact latch false (by rw [phase]; rfl)
  | cold => exact ⟨fun b hb => by cases hb; rfl, fun lost => absurd (retained.symm.trans lost) nofun⟩

theorem PowerInv.endStart : PowerInv (endStart s) := by
  simp only [Machine.endStart]
  split
  · rename_i start phase
    exact PowerInv.dependsOn.of_same (State.takeLineDifference_same _) (inv.commitStart phase)
  · exact inv

theorem PowerInv.event (c : Instr) (touched : apart [.phase, .supply] (touchedByEvent c) = false) : PowerInv (eventOf c s) := by
  cases c with
  | rstAsserted => exact inv.assertReset
  | mainPowerFall => exact inv.mainPowerFall
  | retentionLost => exact inv.retentionLost
  | warmStart =>
    show PowerInv (if s.power.latch then s else beginWarm s)
    by_cases lost : s.power.latch = true
    · rwa [if_pos lost]
    · rw [if_neg lost]
      exact ⟨fun b hb => by cases hb; exact Bool.eq_false_of_not_eq_true lost, fun lost => nomatch lost⟩
  | coldStart =>
    show PowerInv (if s.power.latch then beginCold s else s)
    by_cases lost : s.power.latch = true
    · rw [if_pos lost]
      exact ⟨fun b hb => by cases hb; rfl, fun lost => nomatch lost⟩
    · rwa [if_neg lost]
  | startEnd => exact inv.endStart
  | _ => exact Bool.noConfusion touched

end

theorem PowerInv.step {s t : State} (inv : PowerInv s) (h : step s = .next t) : PowerInv t :=
  step_keeps PowerInv.dependsOn
    (fun _ _ rq _ _ touched _ _ _ => absurd touched (by cases rq <;> exact nofun))
    (fun c _ touched inv => inv.event c touched) rfl rfl s t inv h

/-! ## The Quaybus Controllers -/

theorem addressOf_le (u : UnitId) : addressOf u ≤ 120 := by
  have below := Nat.mod_lt u.val (by decide : 0 < 120)
  simp only [addressOf]
  omega

theorem BusState.start_sound (line : Bus) : BusState.start.Sound line :=
  ⟨Nat.zero_le _, Nat.zero_le _, Nat.zero_le _, Nat.zero_le _, Nat.zero_le _, Nat.zero_le _, nofun, nofun⟩

section
variable {c : BusState} {line : Bus} (sound : c.Sound line)
include sound

theorem BusState.Sound.endFlight : ({ c with flight := .none } : BusState).Sound line := by
  obtain ⟨position, round, crc, strays, timeouts, malformed, -, due⟩ := sound
  exact ⟨position, round, crc, strays, timeouts, malformed, nofun, fun d hd => ⟨(due d hd).1, rfl⟩⟩

theorem BusState.Sound.abandon : ({ c with flight := .none, due := none } : BusState).Sound line := by
  obtain ⟨position, round, crc, strays, timeouts, malformed, -, -⟩ := sound
  exact ⟨position, round, crc, strays, timeouts, malformed, nofun, nofun⟩

theorem BusState.Sound.setDue (idle : c.flight = .none) {d : DueVerdict} (own : busOf d.unit = line) :
    ({ c with due := some d } : BusState).Sound line := by
  obtain ⟨position, round, crc, strays, timeouts, malformed, flight, -⟩ := sound
  exact ⟨position, round, crc, strays, timeouts, malformed, flight, fun e he => by cases he; exact ⟨own, idle⟩⟩

theorem BusState.Sound.endRound : c.endRound.Sound line := by
  obtain ⟨-, -, rest⟩ := sound
  exact ⟨Nat.zero_le _, Nat.le_of_lt_succ (Nat.mod_lt _ (by decide)), rest⟩

theorem BusState.Sound.settleRounds (units : Vector UnitRec 240) (fuel : Nat) : (settleRounds units line fuel c).Sound line := by
  induction fuel generalizing c with
  | zero => exact sound
  | succ fuel ih =>
    simp only [Machine.settleRounds]
    split
    · exact sound
    · exact ih sound.endRound

omit sound in
/-- Rounds ended leave a transaction and a verdict as they were. -/
theorem settleRounds_flight (units : Vector UnitRec 240) (fuel : Nat) :
    (settleRounds units line fuel c).flight = c.flight ∧ (settleRounds units line fuel c).due = c.due := by
  induction fuel generalizing c with
  | zero => exact ⟨rfl, rfl⟩
  | succ fuel ih =>
    simp only [Machine.settleRounds]
    split
    · exact ⟨rfl, rfl⟩
    · exact ih

end

theorem State.bus_setBus_same (s : State) (line : Bus) (c : BusState) : (s.setBus line c).bus line = c := by
  cases line <;> rfl

theorem BusInv.bus {s : State} (inv : BusInv s) (line : Bus) : (s.bus line).Sound line := by
  obtain ⟨a, b⟩ := inv
  cases line with
  | a => exact a
  | b => exact b

theorem BusInv.setBus {s : State} (inv : BusInv s) {line : Bus} {c : BusState} (sound : c.Sound line) : BusInv (s.setBus line c) := by
  obtain ⟨a, b⟩ := inv
  cases line with
  | a => exact ⟨sound, b⟩
  | b => exact ⟨a, sound⟩

theorem BusInv.dependsOn : DependsOn [.buses] BusInv := fun s t same inv => by
  obtain ⟨a, b⟩ : s.Agree t .buses := same .buses (List.mem_singleton_self _)
  rwa [BusInv, a, b]

theorem BusInv.of_same {touched : List Field} {s t : State} (inv : BusInv s) (same : State.SameBut touched s t)
    (other : apart [.buses] touched = true := by rfl) : BusInv t := BusInv.dependsOn.of_same same inv other

/-- The controllers are sound, and this one has no transaction in flight: what holds while it takes a reply. -/
def State.BusIdle (line : Bus) (s : State) : Prop := BusInv s ∧ (s.bus line).flight = .none

section
variable {s : State} {line : Bus}

theorem State.BusIdle.of_same {touched : List Field} {t : State} (idle : s.BusIdle line) (same : State.SameBut touched s t)
    (other : apart [.buses] touched = true := by rfl) : t.BusIdle line := by
  obtain ⟨inv, flight⟩ := idle
  obtain ⟨a, b⟩ : s.Agree t .buses := same.agree .buses other
  refine ⟨inv.of_same same other, ?_⟩
  cases line with
  | a => exact (congrArg BusState.flight a).trans flight
  | b => exact (congrArg BusState.flight b).trans flight

theorem BusInv.endFlight (inv : BusInv s) (line : Bus) : (s.endFlight line).BusIdle line :=
  ⟨inv.setBus (inv.bus line).endFlight, by rw [State.endFlight, State.bus_setBus_same]⟩

theorem State.BusIdle.setBus (idle : s.BusIdle line) {c : BusState} (sound : (s.bus line).Sound line → c.Sound line)
    (flight : c.flight = (s.bus line).flight) : (s.setBus line c).BusIdle line :=
  ⟨idle.1.setBus (sound (idle.1.bus line)), by rw [State.bus_setBus_same, flight]; exact idle.2⟩

theorem State.BusIdle.settleRota (idle : s.BusIdle line) : (s.settleRota line).BusIdle line :=
  idle.setBus (fun sound => sound.settleRounds s.units 17) (settleRounds_flight s.units 17).1

theorem State.BusIdle.countError (idle : s.BusIdle line) (e : FrameCheck) : (s.countError line e).BusIdle line := by
  cases e with
  | crcError =>
    refine idle.setBus (fun sound => ?_) rfl
    obtain ⟨position, round, -, rest⟩ := sound
    exact ⟨position, round, countUp_le _, rest⟩
  | stray =>
    refine idle.setBus (fun sound => ?_) rfl
    obtain ⟨position, round, crc, -, rest⟩ := sound
    exact ⟨position, round, crc, countUp_le _, rest⟩
  | malformed =>
    refine idle.setBus (fun sound => ?_) rfl
    obtain ⟨position, round, crc, strays, timeouts, -, rest⟩ := sound
    exact ⟨position, round, crc, strays, timeouts, countUp_le _, rest⟩
  | wellFormed payload => exact idle

theorem State.BusIdle.failedReply (idle : s.BusIdle line) (u : UnitId) (e : FrameCheck) : (s.failedReply line u e).BusIdle line :=
  ((idle.countError e).of_same (State.miss_same _ u)).settleRota

theorem State.BusIdle.takeAnswer (idle : s.BusIdle line) {u : UnitId} (own : busOf u = line) (a : AnswerContent) :
    (s.takeAnswer line u a).BusIdle line := by
  have reported : ((s.setUnit u { s.units[u] with expected := some a.bit, lastStatus := some a.status }).reports u a.reports).BusIdle
      line := (idle.of_same (s.setUnit_same u _)).of_same (State.reports_same _ u _)
  have presented {x : State} (hx : x.BusIdle line) (side : Side) (r : Ruling) (v : Verdict) :
      ((x.carryOut u side r).1.setBus line
        { (x.carryOut u side r).1.bus line with due := some { unit := u, verdict := v } }).BusIdle line := by
    have carried := hx.of_same (x.carryOut_same u side r)
    exact carried.setBus (fun sound => sound.setDue carried.2 own) rfl
  simp only [State.takeAnswer]
  split
  · exact reported.settleRota
  · exact presented reported _ _ _

theorem State.BusIdle.pollAnswered (idle : s.BusIdle line) {u : UnitId} (own : busOf u = line) (relock : Bool) (a : AnswerContent) :
    (s.pollAnswered line u relock a).BusIdle line := by
  rw [State.pollAnswered_eq]
  split
  · exact idle.settleRota
  · have cleared := (idle.of_same (s.answered_same u)).of_same (State.deliverRelock_same _ u relock)
    split
    · exact cleared.settleRota
    · exact cleared.takeAnswer own a

theorem State.BusIdle.verdictAcked (idle : s.BusIdle line) (u : UnitId) (granted : Bool) :
    (s.verdictAcked line u granted).BusIdle line := by
  have answered := idle.of_same (s.answered_same u)
  simp only [State.verdictAcked]
  split
  · exact idle.settleRota
  · split
    · exact (answered.of_same (State.acknowledge_same _ u)).settleRota
    · exact answered.settleRota

theorem BusInv.pollReply (inv : BusInv s) {u : UnitId} (own : busOf u = line) (relock : Bool) (frame : List Byte) :
    BusInv (s.pollReply line u relock frame) := by
  have idle := inv.endFlight line
  simp only [State.pollReply]
  repeat' split
  · exact (idle.pollAnswered own relock _).1
  · exact (idle.failedReply u _).1
  · exact (idle.failedReply u _).1

theorem BusInv.verdictReply (inv : BusInv s) (u : UnitId) (granted : Bool) (frame : List Byte) :
    BusInv (s.verdictReply line u granted frame) := by
  have idle := inv.endFlight line
  simp only [State.verdictReply]
  split
  · exact (idle.verdictAcked u granted).1
  · exact (idle.failedReply u _).1
  · exact (idle.failedReply u _).1

theorem BusInv.frameClosed (inv : BusInv s) (line : Bus) (frame : List Byte) : BusInv (frameClosed line frame s) := by
  obtain ⟨-, -, -, -, -, -, own, -⟩ := inv.bus line
  simp only [Machine.frameClosed]
  split
  · exact inv
  · split
    · exact inv
    · rename_i u relock flight
      exact inv.pollReply (own u (by rw [flight]; rfl)) relock frame
    · exact inv.verdictReply _ _ frame

theorem BusInv.timedOut (inv : BusInv s) (line : Bus) (u : UnitId) : BusInv (s.timedOut line u) := by
  have counted := (inv.endFlight line).setBus
    (c := { (s.endFlight line).bus line with timeouts := countUp ((s.endFlight line).bus line).timeouts })
    (fun ⟨position, round, crc, strays, _, rest⟩ => ⟨position, round, crc, strays, countUp_le _, rest⟩) rfl
  exact ((counted.of_same (State.miss_same _ u)).settleRota).1

theorem BusInv.pollTimeout (inv : BusInv s) (line : Bus) : BusInv (pollTimeout line s) := by
  simp only [Machine.pollTimeout]
  repeat' split
  · exact inv.timedOut line _
  · exact inv
  · exact inv

theorem BusInv.verdictTimeout (inv : BusInv s) (line : Bus) : BusInv (verdictTimeout line s) := by
  simp only [Machine.verdictTimeout]
  repeat' split
  · exact inv.timedOut line _
  · exact inv
  · exact inv

/-! ### Sending -/

theorem nextVisit_own {units : Vector UnitRec 240} {c : BusState} {u : UnitId} (next : nextVisit units line c = some u) :
    busOf u = line := by
  have found := List.find?_some next
  simp only [visited, Bool.and_eq_true, beq_iff_eq] at found
  exact found.1.1.1

theorem nextVisit_rota {units : Vector UnitRec 240} {c : BusState} {u : UnitId} (next : nextVisit units line c = some u) :
    rotaEmpty units line = false := by
  have found := List.find?_some next
  simp only [visited, Bool.and_eq_true, beq_iff_eq, decide_eq_true_eq] at found
  obtain ⟨⟨⟨own, present⟩, -⟩, -⟩ := found
  exact Bool.eq_false_of_not_eq_true fun empty => present ((rotaEmpty_iff units line).mp empty u own)

theorem BusInv.sendMode (inv : BusInv s) (line : Bus) : BusInv (sendMode line s) := by
  simp only [Machine.sendMode]
  split
  · exact inv.setBus (inv.bus line)
  · exact inv

theorem BusInv.sendVerdict (inv : BusInv s) (line : Bus) : BusInv (sendVerdict line s) := by
  obtain ⟨position, round, crc, strays, timeouts, malformed, -, due⟩ := inv.bus line
  simp only [Machine.sendVerdict]
  repeat' split
  · rename_i d waits _
    have own : busOf d.unit = line := by
      simp only [State.verdictDue] at waits
      split at waits
      · cases waits
      · exact (due d waits).1
    exact inv.setBus ⟨position, round, crc, strays, timeouts, malformed, fun u hu => by cases hu; exact own, nofun⟩
  · exact inv
  · exact inv

theorem BusInv.sendPoll (inv : BusInv s) (line : Bus) : BusInv (sendPoll line s) := by
  obtain ⟨-, round, crc, strays, timeouts, malformed, -, -⟩ := (inv.bus line).settleRounds s.units 17
  simp only [Machine.sendPoll]
  split
  · rename_i may
    split
    · exact inv
    · rename_i u next
      have none : (settleRounds s.units line 17 (s.bus line)).due = Option.none := by
        rw [(settleRounds_flight s.units 17).2]
        simp only [State.verdictDue, nextVisit_rota next, Bool.and_eq_true, Option.isNone_iff_eq_none] at may
        exact may.2
      refine inv.setBus ⟨addressOf_le u, round, crc, strays, timeouts, malformed, fun v hv => ?_, fun d hd => ?_⟩
      · cases hv
        exact nextVisit_own next
      · exact absurd (none.symm.trans hd) nofun
  · exact inv

/-! ### The wing, and the other requests and events -/

theorem BusInv.announceMode (inv : BusInv s) (m : WingMode) : BusInv (s.announceMode m) := by
  have raised := inv.of_same (s.raiseBoth_same (.modeChanged m))
  obtain ⟨a, b⟩ := raised
  exact ⟨a, b⟩

theorem BusInv.changeMode (inv : BusInv s) (source : Source) (m : WingMode) : BusInv (s.changeMode source m) := by
  have entered := inv.of_same (s.enterMode_same source m)
  simp only [State.changeMode]
  split
  · exact ((entered.of_same (State.cutAll_same _)).of_same (State.setOutputs_same _)).announceMode m
  · exact (entered.of_same (State.setOutputs_same _)).announceMode m

/-- What each part of a rising edge keeps, the edge keeps. -/
theorem State.evacRises_keeps {P : State → Prop}
    (sampled : P (({ s with wing := { s.wing with evacSampled := true } } : State).append .evacLine none none (.evac s.wing.mode)))
    (entered : ∀ x, P x → P (x.enterMode .evacLine .evacuation))
    (evacuated : ∀ x, P x → P (x.markEvac.stopPulses.endAllSessions.setOutputs.raiseBoth (.evacLine true)))
    (announced : ∀ x, P x → P (x.announceMode .evacuation)) : P s.evacRises := by
  simp only [State.evacRises]
  split
  · exact announced _ (evacuated _ (entered _ sampled))
  · exact evacuated _ sampled

theorem BusInv.evacRises (inv : BusInv s) : BusInv s.evacRises :=
  State.evacRises_keeps ((inv.of_same (s.setWing_same _)).of_same (State.append_same _ _ _ _ _))
    (fun x hx => hx.of_same (x.enterMode_same _ _)) (fun x hx => hx.of_same x.evacuate_same) fun _ hx => hx.announceMode _

theorem BusInv.takeLineDifference (inv : BusInv s) : BusInv s.takeLineDifference := by
  simp only [State.takeLineDifference]
  repeat' split
  · exact inv
  · exact inv.evacRises
  · exact inv.of_same s.evacFalls_same

theorem BusInv.evacEdge (inv : BusInv s) (asserted : Bool) : BusInv (evacEdge asserted s) := by
  have moved := inv.of_same (s.setWing_same { s.wing with evacPin := asserted })
  simp only [Machine.evacEdge]
  repeat' split
  · exact inv
  · exact moved
  · exact moved.evacRises
  · exact moved.of_same (State.evacFalls_same _)

theorem BusInv.rule {i : Instr} {p : Port} {rq : Request} {body : List Byte} (request : i.request? = some (p, rq, body))
    (touched : apart [.buses] (touchedBy rq) = false) (inv : BusInv s) : BusInv (ruleOf i s).1 := by
  cases i with
  | setMode p mode =>
    show BusInv (setMode p mode s).1
    simp only [setMode]
    repeat' split
    · exact inv
    · exact inv
    · exact inv
    · exact inv.changeMode _ _
  | restore p =>
    show BusInv (restore p s).1
    simp only [restore]
    repeat' split
    · exact inv
    · exact inv
    · exact ((inv.of_same (s.enterMode_same _ _)).of_same (State.workLevels_same _)).announceMode _
  | clearBusCounters p bus =>
    show BusInv (clearBusCounters bus s).1
    simp only [clearBusCounters]
    split
    · exact inv
    · rename_i line _
      obtain ⟨position, round, -, -, -, -, rest⟩ := inv.bus line
      exact inv.setBus ⟨position, round, Nat.zero_le _, Nat.zero_le _, Nat.zero_le _, Nat.zero_le _, rest⟩
  | _ => cases request <;> exact Bool.noConfusion touched

theorem BusInv.event (c : Instr) (touched : apart [.buses] (touchedByEvent c) = false) (inv : BusInv s) : BusInv (eventOf c s) := by
  cases c with
  | mode line => exact inv.sendMode line
  | poll line => exact inv.sendPoll line
  | verdict line => exact inv.sendVerdict line
  | pollTimeout line => exact inv.pollTimeout line
  | verdictTimeout line => exact inv.verdictTimeout line
  | answer line frame => exact inv.frameClosed line frame
  | ack line frame => exact inv.frameClosed line frame
  | evacRisingEdge => exact inv.evacEdge true
  | evacFallingEdge => exact inv.evacEdge false
  | rstAsserted =>
    show BusInv (assertReset s)
    by_cases off : s.power.phase = .off
    · rwa [assertReset, if_pos off]
    · rw [assertReset, if_neg off]
      exact ⟨inv.1.abandon, inv.2.abandon⟩
  | mainPowerFall =>
    show BusInv (mainPowerFall s)
    by_cases off : s.power.phase = .off
    · rwa [mainPowerFall, if_pos off]
    · rw [mainPowerFall, if_neg off]
      exact ⟨BusState.start_sound .a, BusState.start_sound .b⟩
  | warmStart =>
    show BusInv (if s.power.latch then s else beginWarm s)
    by_cases lost : s.power.latch = true
    · rwa [if_pos lost]
    · rw [if_neg lost]
      exact ⟨BusState.start_sound .a, BusState.start_sound .b⟩
  | coldStart =>
    show BusInv (if s.power.latch then beginCold s else s)
    by_cases lost : s.power.latch = true
    · rw [if_pos lost]
      exact ⟨BusState.start_sound .a, BusState.start_sound .b⟩
    · rwa [if_neg lost]
  | startEnd =>
    show BusInv (endStart s)
    simp only [endStart]
    split
    · exact (inv.of_same (s.commitStart_same _)).takeLineDifference
    · exact inv
  | _ => exact Bool.noConfusion touched

end

theorem BusInv.step {s t : State} (inv : BusInv s) (h : step s = .next t) : BusInv t :=
  step_keeps BusInv.dependsOn (fun _ _ _ _ request touched _ _ inv => inv.rule request touched)
    (fun c _ touched inv => inv.event c touched) rfl rfl s t inv h

end Sys2Proof.Machine
end

section
/-! The elapsed timers in range (R10, R111, R113, R124, R154): a grant's expiry and a gate's pulse are loaded from the unlock seconds of an
entrance class, an ajar timer from its limit, and every other operation lowers or stops them. -/

namespace Sys2Proof.Machine

-- One theorem at a time: each check by the kernel then needs one stack.
set_option Elab.async false

open Sys2Proof

/-- An entrance class's figures in range. -/
def EntranceClass.Sound (c : EntranceClass) : Prop := 1 ≤ c.unlock ∧ c.unlock ≤ 30 ∧ 10 ≤ c.ajarLimit ∧ c.ajarLimit ≤ 600

/-- A grant's unlock seconds and its expiry in range. -/
def Grant.Sound (g : Grant) : Prop := 1 ≤ g.unlock ∧ g.unlock ≤ 30 ∧ g.expiry ≤ g.unlock + 2

/-- An ajar timer's count and its limit in range. -/
def AjarTimer.Sound (t : AjarTimer) : Prop := t.remaining ≤ t.limit ∧ 10 ≤ t.limit ∧ t.limit ≤ 600

theorem TimerInv.dependsOn : DependsOn [.decision, .grants, .ajar, .gates] TimerInv := fun s t same inv => by
  have decision : t.decision = s.decision := same .decision (by simp)
  have grants : t.grants = s.grants := same .grants (by simp)
  have ajar : t.ajar = s.ajar := same .ajar (by simp)
  have gates : t.gates = s.gates := same .gates (by simp)
  rwa [TimerInv, decision, grants, ajar, gates]

section
variable {s : State} (inv : TimerInv s)
include inv

theorem TimerInv.of_same {touched : List Field} {t : State} (same : State.SameBut touched s t)
    (other : apart [.decision, .grants, .ajar, .gates] touched = true := by rfl) : TimerInv t :=
  TimerInv.dependsOn.of_same same inv other

theorem TimerInv.entrance (e : Fin 8) : s.decision.entrances[e].Sound := by
  obtain ⟨entrances, -⟩ := inv
  exact entrances e

theorem TimerInv.grant {u : UnitId} {g : Grant} (held : s.grants[u] = some g) : g.Sound := by
  obtain ⟨-, grants, -⟩ := inv
  exact grants u g held

theorem TimerInv.setGrant (u : UnitId) {x : Option Grant} (sound : ∀ g ∈ x, g.Sound) : TimerInv (s.setGrant u x) := by
  obtain ⟨entrances, grants, rest⟩ := inv
  refine ⟨entrances, fun v g hg => ?_, rest⟩
  by_cases here : v = u
  · subst here
    rw [State.setGrant_grants, getElem_set_same] at hg
    exact sound g hg
  · rw [State.setGrant_grants, getElem_set_other _ _ here] at hg
    exact grants v g hg

theorem TimerInv.setAjar (u : UnitId) {x : Option AjarTimer} (sound : ∀ t ∈ x, t.Sound) : TimerInv (s.setAjar u x) := by
  obtain ⟨entrances, grants, ajar, pulses⟩ := inv
  refine ⟨entrances, grants, fun v t ht => ?_, pulses⟩
  by_cases here : v = u
  · subst here
    rw [State.setAjar_ajar, getElem_set_same] at ht
    exact sound t ht
  · rw [State.setAjar_ajar, getElem_set_other _ _ here] at ht
    exact ajar v t ht

theorem TimerInv.setGates {g : Gates} (sound : ∀ k : Gate, ∀ n ∈ g.pulses[k], n ≤ 30) : TimerInv { s with gates := g } := by
  obtain ⟨entrances, grants, ajar, -⟩ := inv
  exact ⟨entrances, grants, ajar, sound⟩

theorem TimerInv.pulse (k : Gate) : ∀ n ∈ s.gates.pulses[k], n ≤ 30 := by
  obtain ⟨-, -, -, pulses⟩ := inv
  exact pulses k

/-- Gates whose pulses each are as they were, or stopped. -/
theorem TimerInv.fewerPulses {g : Gates} (fewer : ∀ k : Gate, g.pulses[k] = s.gates.pulses[k] ∨ g.pulses[k] = none) :
    TimerInv { s with gates := g } :=
  inv.setGates fun k n hn => by
    rcases fewer k with same | stopped
    · exact inv.pulse k n (same ▸ hn)
    · rw [stopped] at hn
      cases hn

theorem TimerInv.setOutputs : TimerInv s.setOutputs := inv.fewerPulses fun _ => .inl rfl

theorem TimerInv.workLevels : TimerInv s.workLevels := (inv.fewerPulses fun _ => .inl rfl).setOutputs

/-- A pulse set to a count in range, or stopped. -/
theorem TimerInv.setPulse (k : Gate) {x : Option Nat} (le : ∀ n ∈ x, n ≤ 30) :
    TimerInv { s with gates := { s.gates with pulses := s.gates.pulses.set k x } } := by
  refine inv.setGates fun j n hn => ?_
  by_cases here : j = k
  · subst here
    rw [getElem_set_same] at hn
    exact le n hn
  · rw [getElem_set_other _ _ here] at hn
    exact inv.pulse j n hn

theorem TimerInv.loadPulse (k : Gate) {unlock : Nat} (le : unlock ≤ 30) (evac : Bool) : TimerInv (s.loadPulse k unlock evac).1 := by
  simp only [State.loadPulse]
  split
  · exact (inv.setPulse k fun n hn => by cases hn; exact le).setOutputs
  · exact inv

/-! ## Grants -/

theorem TimerInv.concludeGrant (u : UnitId) (detail : Grant → Detail) : TimerInv (s.concludeGrant u detail) := by
  refine TimerInv.of_same (s := s.dropGrant u) ?_ (s.concludeGrant_drops u detail)
  cases held : s.grants[u] with
  | none => rwa [State.dropGrant_of_none held]
  | some g =>
    rw [State.dropGrant_of_some held]
    exact inv.setGrant u (x := none) nofun

theorem TimerInv.createGrant (u : UnitId) (card : Option Nat) (guest : Bool) {unlock : Nat} (range : 1 ≤ unlock ∧ unlock ≤ 30)
    (evac : Bool) : TimerInv (s.createGrant u card guest unlock evac) := by
  have pulsed {x : State} (hx : TimerInv x) :
      TimerInv (match x.unitGate u with | some g => x.loadPulse g unlock evac | none => (x, false)).1 := by
    split
    · exact hx.loadPulse _ range.2 evac
    · exact hx
  have held {x : State} (hx : TimerInv x) (g : Grant) (unlocks : g.unlock = unlock) (expires : g.expiry = unlock + 2) :
      TimerInv { x.setGrant u (some g) with power := { x.power with grantTally := x.power.grantTally + 1 } } := by
    refine (hx.setGrant u (x := some g) fun y hy => ?_).of_same (State.setTallies_same _ _ _)
    cases hy
    exact ⟨unlocks ▸ range.1, unlocks ▸ range.2, by rw [unlocks, expires]⟩
  have replaced : TimerInv (s.concludeReplaced u) := inv.concludeGrant u _
  simp only [State.createGrant]
  split
  · exact (held (pulsed replaced) _ rfl rfl).of_same (State.grantSession_same _ _ _ _ _ _)
  · exact held (pulsed replaced) _ rfl rfl

theorem TimerInv.acknowledge (u : UnitId) : TimerInv (s.acknowledge u) := by
  simp only [State.acknowledge]
  split
  · rename_i g held
    have sound := inv.grant held
    exact inv.setGrant u fun x hx => by cases hx; exact sound
  · exact inv

theorem TimerInv.cutForLockdown (u : UnitId) : TimerInv (s.cutForLockdown u) := by
  simp only [State.cutForLockdown]
  split
  · exact (inv.concludeGrant u _).of_same (State.setRelock_same _ u)
  · exact inv

theorem TimerInv.changeMode (source : Source) (m : WingMode) : TimerInv (s.changeMode source m) := by
  have entered := inv.of_same (s.enterMode_same source m)
  simp only [State.changeMode]
  split
  · exact ((foldl_keeps (fun x u (hx : TimerInv x) => hx.cutForLockdown u) allUnits entered).setOutputs).of_same
      (State.announceMode_same _ m)
  · exact entered.setOutputs.of_same (State.announceMode_same _ m)

theorem TimerInv.markEvac : TimerInv s.markEvac := by
  obtain ⟨entrances, grants, rest⟩ := inv
  refine ⟨entrances, fun u g hg => ?_, rest⟩
  have marked : s.markEvac.grants[u] = s.grants[u].map fun g => { g with evac := true } := by simp [State.markEvac]
  rw [marked] at hg
  obtain ⟨x, hx, rfl⟩ := Option.mem_map.mp hg
  exact grants u x hx

theorem TimerInv.stopPulses : TimerInv s.stopPulses := inv.fewerPulses fun k => .inr (by simp)

theorem TimerInv.evacRises : TimerInv s.evacRises :=
  State.evacRises_keeps ((inv.of_same (s.setWing_same _)).of_same (State.append_same _ _ _ _ _))
    (fun x hx => hx.of_same (x.enterMode_same _ _))
    (fun _ hx => ((hx.markEvac.stopPulses.of_same (State.endAllSessions_same _)).setOutputs).of_same (State.raiseBoth_same _ _))
    fun x hx => hx.of_same (x.announceMode_same _)

theorem TimerInv.takeLineDifference : TimerInv s.takeLineDifference := by
  simp only [State.takeLineDifference]
  repeat' split
  · exact inv
  · exact inv.evacRises
  · exact inv.of_same s.evacFalls_same

theorem TimerInv.evacEdge (asserted : Bool) : TimerInv (evacEdge asserted s) := by
  have moved := inv.of_same (s.setWing_same { s.wing with evacPin := asserted })
  simp only [Machine.evacEdge]
  repeat' split
  · exact inv
  · exact moved
  · exact moved.evacRises
  · exact moved.of_same (State.evacFalls_same _)

/-! ## Reports, presentations and frames -/

theorem TimerInv.entranceOpened (u : UnitId) : TimerInv (s.entranceOpened u) := by
  obtain ⟨-, -, least, most⟩ := inv.entrance s.units[u].entranceClass
  refine TimerInv.setAjar (inv.of_same (s.setUnit_same u _)) u fun t ht => ?_
  cases ht
  exact ⟨Nat.le_refl _, least, most⟩

theorem TimerInv.decideOpened (u : UnitId) (released : Bool) : TimerInv (s.decideOpened u released) := by
  simp only [State.decideOpened]
  repeat' split
  · exact (inv.concludeGrant u _).entranceOpened u
  · exact (inv.of_same (s.appendUnit_same u _ _)).entranceOpened u
  · exact ((inv.of_same (s.appendUnit_same u _ _)).of_same (State.raise_same _ _ _)).entranceOpened u

theorem TimerInv.decideClosed (u : UnitId) : TimerInv (s.decideClosed u) :=
  TimerInv.setAjar (inv.of_same (s.setUnit_same u _)) u (x := none) nofun

theorem TimerInv.tamper (u : UnitId) : TimerInv (s.tamper u) := by
  have marked := inv.of_same (s.setUnit_same u { s.units[u] with quarantined := true })
  exact ((((marked.concludeGrant u _).of_same (State.endSession_same _ u .quarantine)).of_same (State.setRelock_same _ u)).of_same
    (State.appendUnit_same _ u _ _)).of_same (State.raise_same _ _ _)

theorem TimerInv.report (u : UnitId) (r : Report) : TimerInv (s.report u r) := by
  simp only [State.report]
  split
  · exact inv.decideOpened u _
  · exact inv.decideOpened u _
  · exact (inv.decideOpened u _).of_same (State.sessionOpened_same _ u)
  · exact inv.decideClosed u
  · exact inv.decideClosed u
  · exact (inv.decideClosed u).of_same (State.sessionClosed_same _ u)
  · exact inv.of_same (s.setPrivacy_same _ _)
  · exact inv.of_same (s.setPrivacy_same _ _)
  · exact inv
  · exact inv.tamper u
  · exact inv.of_same (s.reportItems_same u _ _ _ _)
  · exact inv

theorem TimerInv.carryOut (u : UnitId) (side : Side) (r : Ruling) : TimerInv (s.carryOut u side r).1 := by
  have cleared := inv.of_same (s.setMisreads_same u 0)
  obtain ⟨least, most, -⟩ := inv.entrance s.units[u].entranceClass
  cases r with
  | reread => exact inv.of_same (s.misread_same u side)
  | deny reason card slot lostCard =>
    have denied := cleared.of_same (State.appendUnit_same _ u card (.denial reason side slot))
    simp only [State.carryOut]
    split
    · exact denied.of_same (State.raise_same _ _ _)
    · exact denied
  | evacPass card =>
    simp only [State.carryOut]
    exact (cleared.createGrant u card false ⟨least, most⟩ true).of_same (State.appendUnit_same _ u _ _)
  | grant card guest =>
    simp only [State.carryOut]
    exact cleared.createGrant u _ guest ⟨least, most⟩ false

omit inv in
theorem TimerInv.frameKeeps : FrameKeeps TimerInv where
  bus := fun x line c inv => inv.of_same (x.setBus_same line c)
  miss := fun x u inv => inv.of_same (x.miss_same u)
  answered := fun x u _ inv => inv.of_same (x.answered_same u)
  relock := fun x u b _ inv => inv.of_same (x.deliverRelock_same u b)
  acknowledge := fun _ u _ inv => inv.acknowledge u
  take := fun x u _ _ _ _ inv => inv.of_same (x.setUnit_same u _)
  report := fun _ u r _ inv => inv.report u r
  present := fun _ u side _ _ inv => inv.carryOut u side _

/-! ## Expiries and ticks -/

theorem TimerInv.expireTimer (t : Timer) : TimerInv (expireTimer t s) := by
  cases t with
  | lease i => exact inv.of_same (expireLease_same s i)
  | grant u =>
    simp only [Machine.expireTimer, expireGrant]
    repeat' split
    · exact (inv.concludeGrant u _).of_same (State.endUnopened_same _ u)
    · exact inv.concludeGrant u _
    · exact inv
    · exact inv
  | ajar u =>
    simp only [Machine.expireTimer, expireAjar]
    repeat' split
    · exact ((TimerInv.setAjar (inv.of_same (s.setUnit_same u _)) u (x := none) nofun).of_same (State.appendUnit_same _ u _ _)).of_same
        (State.raise_same _ _ _)
    · exact inv
    · exact inv
  | session u => exact inv.of_same (expireSession_same s u)
  | pulse g =>
    simp only [Machine.expireTimer, expirePulse]
    split
    · exact (inv.setPulse g (x := none) nofun).setOutputs
    · exact inv
  | supervision p => exact inv.of_same (expireSupervision_same s p)

/-- A tick lowers the counts. -/
theorem TimerInv.tickTimers : TimerInv s.tickTimers := by
  obtain ⟨entrances, grants, ajar, pulses⟩ := inv
  refine ⟨entrances, fun u g hg => ?_, fun u t ht => ?_, fun k n hn => ?_⟩
  · have lowered : s.tickTimers.grants[u] = s.grants[u].map fun g => { g with expiry := g.expiry - 1 } := by simp [State.tickTimers]
    rw [lowered] at hg
    obtain ⟨x, hx, rfl⟩ := Option.mem_map.mp hg
    obtain ⟨least, most, expiry⟩ := grants u x hx
    exact ⟨least, most, (Nat.sub_le _ _).trans expiry⟩
  · have lowered : s.tickTimers.ajar[u] = s.ajar[u].map fun t => { t with remaining := t.remaining - 1 } := by simp [State.tickTimers]
    rw [lowered] at ht
    obtain ⟨x, hx, rfl⟩ := Option.mem_map.mp ht
    obtain ⟨remaining, least, most⟩ := ajar u x hx
    exact ⟨(Nat.sub_le _ _).trans remaining, least, most⟩
  · have lowered : s.tickTimers.gates.pulses[k] = s.gates.pulses[k].map fun n => n - 1 := by simp [State.tickTimers]
    rw [lowered] at hn
    obtain ⟨x, hx, rfl⟩ := Option.mem_map.mp hn
    exact (Nat.sub_le _ _).trans (pulses k x hx)

theorem TimerInv.secondTick : TimerInv (secondTick s) := by
  have ticked := inv.of_same (s.setClock_same s.clock.tick.1)
  simp only [Machine.secondTick]
  split
  · exact inv
  · split
    · exact ticked
    · refine State.expireTimers_keeps TimerInv (fun t _ hx => hx.expireTimer t) _ _ ?_
      split
      · exact ticked.tickTimers.workLevels
      · exact ticked.tickTimers

theorem TimerInv.crystalCycle : TimerInv (crystalCycle s) := by
  simp only [Machine.crystalCycle]
  repeat' split
  · exact inv
  · exact inv.of_same (s.setClock_same _)
  · exact inv.secondTick

/-! ## Requests -/

theorem TimerInv.setGate (enabled exposed : Byte) : TimerInv (setGate enabled exposed s).1 := by
  simp only [Machine.setGate]
  split
  · rename_i enabledSet _ _ _
    refine TimerInv.setOutputs (inv.fewerPulses fun k => ?_)
    by_cases kept : hasGate enabledSet k = true
    · exact .inl (by simp [kept])
    · exact .inr (by simp [kept])
  · exact inv

theorem TimerInv.setEntranceClass (entrance unlock : Byte) (ajarLimit : Half) (exposed : Byte) :
    TimerInv (setEntranceClass entrance unlock ajarLimit exposed s).1 := by
  obtain ⟨entrances, rest⟩ := inv
  simp only [Machine.setEntranceClass]
  split
  · exact ⟨entrances, rest⟩
  · rename_i e _
    refine ⟨fun k => ?_, rest⟩
    by_cases here : k = e
    · subst here
      simp only [accept, getElem_set_same, clampEntrance, clamp]
      omega
    · simp only [accept, getElem_set_other _ _ here]
      exact entrances k

theorem TimerInv.rule {i : Instr} {p : Port} {rq : Request} {body : List Byte} (request : i.request? = some (p, rq, body))
    (touched : apart [.decision, .grants, .ajar, .gates] (touchedBy rq) = false) : TimerInv (ruleOf i s).1 := by
  cases i with
  | setGate => exact inv.setGate _ _
  | setEntranceClass => exact inv.setEntranceClass _ _ _ _
  | setMode p mode =>
    show TimerInv (setMode p mode s).1
    simp only [setMode]
    repeat' split
    · exact inv
    · exact inv
    · exact inv
    · exact inv.changeMode _ _
  | restore p =>
    show TimerInv (restore p s).1
    simp only [restore]
    repeat' split
    · exact inv
    · exact inv
    · exact (inv.of_same (s.enterMode_same _ _)).workLevels.of_same (State.announceMode_same _ _)
  | setClock p reading =>
    show TimerInv (setClock p reading s).1
    simp only [setClock]
    split
    · exact inv
    · exact ((inv.of_same (s.setClock_same (s.clock.setTo (momentOf reading)))).workLevels.of_same (State.append_same _ _ _ _ _)).of_same
        (State.raise_same _ _ _)
  | setCondition p cls entrance code =>
    show TimerInv (setCondition cls entrance code s).1
    simp only [setCondition]
    split
    · exact inv
    · exact inv
  | setShift p cls opens closes =>
    show TimerInv (setShift cls opens closes s).1
    simp only [setShift]
    repeat' split
    · exact inv
    · exact inv
    · exact inv
  | addScheduleEntry p minute gates level =>
    show TimerInv (addScheduleEntry minute gates level s).1
    simp only [addScheduleEntry]
    repeat' split
    · exact inv
    · exact inv
    · exact inv
    · exact inv
  | removeScheduleEntry p position =>
    show TimerInv (removeScheduleEntry position s).1
    simp only [removeScheduleEntry]
    repeat' split
    · exact inv
    · exact inv
    · exact inv
  | clearSchedule => exact inv
  | configureUnit p bus address kind cls slot gate =>
    show TimerInv (configureUnit bus address kind cls slot gate s).1
    simp only [configureUnit]
    repeat' split
    · exact inv
    · exact inv
    · exact inv
    · exact ((TimerInv.setAjar (inv.of_same (s.setUnit_same _ _)) _ (x := none) nofun).of_same (State.forgetPrivacy_same _ _)).of_same
        (State.forgetPrivacy_same _ _)
    · exact inv
  | removeUnit p bus address =>
    show TimerInv (removeUnit bus address s).1
    simp only [removeUnit]
    repeat' split
    · exact inv
    · exact inv
    · exact inv
    · exact ((inv.setAjar _ (x := none) nofun).of_same (State.forgetPrivacy_same _ _)).of_same (State.setUnit_same _ _ _)
  | _ => cases request <;> exact Bool.noConfusion touched

/-! ## Starts -/

/-- With no grant, no ajar timer and no pulse, and with the tables it had. -/
theorem TimerInv.stopped {t : State} (decision : t.decision = s.decision) (grants : t.grants = .replicate 240 none)
    (ajar : t.ajar = .replicate 240 none) (pulses : t.gates.pulses = .replicate 6 none) : TimerInv t := by
  obtain ⟨entrances, -⟩ := inv
  rw [TimerInv, decision, grants, ajar, pulses]
  exact ⟨entrances, by simp, by simp, by simp⟩

omit inv in
theorem TimerInv.beginCold (s : State) : TimerInv (beginCold s) := by
  have decision : (Machine.beginCold s).decision = DecisionTables.cold := rfl
  have grants : (Machine.beginCold s).grants = .replicate 240 none := rfl
  have ajar : (Machine.beginCold s).ajar = .replicate 240 none := rfl
  have gates : (Machine.beginCold s).gates = Gates.cold := rfl
  rw [TimerInv, decision, grants, ajar, gates]
  exact ⟨by simp [DecisionTables.cold], by simp, by simp, by simp [Gates.cold]⟩

theorem TimerInv.event (c : Instr) (touched : apart [.decision, .grants, .ajar, .gates] (touchedByEvent c) = false) :
    TimerInv (eventOf c s) := by
  cases c with
  | secondTick => exact inv.secondTick
  | crystalCycle => exact inv.crystalCycle
  | pendingGrantExpiry u => exact inv.expireTimer (.grant u)
  | ajarTimerExpiry u => exact inv.expireTimer (.ajar u)
  | gatePulseExpiry g => exact inv.expireTimer (.pulse g)
  | answer line frame => exact TimerInv.frameKeeps.frameClosed line frame inv
  | ack line frame => exact TimerInv.frameKeeps.frameClosed line frame inv
  | evacRisingEdge => exact inv.evacEdge true
  | evacFallingEdge => exact inv.evacEdge false
  | mainPowerFall =>
    show TimerInv (mainPowerFall s)
    by_cases off : s.power.phase = .off
    · rwa [mainPowerFall, if_pos off]
    · rw [mainPowerFall, if_neg off]
      exact inv.stopped rfl rfl rfl rfl
  | warmStart =>
    show TimerInv (if s.power.latch then s else beginWarm s)
    by_cases lost : s.power.latch = true
    · rwa [if_pos lost]
    · rw [if_neg lost]
      exact inv.stopped rfl rfl rfl rfl
  | coldStart =>
    show TimerInv (if s.power.latch then Machine.beginCold s else s)
    by_cases lost : s.power.latch = true
    · rw [if_pos lost]
      exact TimerInv.beginCold s
    · rwa [if_neg lost]
  | startEnd =>
    show TimerInv (endStart s)
    simp only [endStart]
    split
    · exact (inv.of_same (s.commitStart_same _)).takeLineDifference
    · exact inv
  | _ => exact Bool.noConfusion touched

end

theorem TimerInv.step {s t : State} (inv : TimerInv s) (h : step s = .next t) : TimerInv t :=
  step_keeps TimerInv.dependsOn (fun _ _ _ _ request touched _ _ inv => inv.rule request touched)
    (fun c _ touched inv => inv.event c touched) rfl rfl s t inv h

end Sys2Proof.Machine

open Sys2Proof Sys2Proof.Machine

/-- Settles O59: the clock, the timers, the controllers and the latch are each kept in range by themselves. -/
theorem rangeInvariantIsKept : Obligations.RangeInvariantIsKept := by
  intro s t clock timer bus power h
  exact ⟨clock.step h, timer.step h, bus.step h, power.step h⟩

end

section
/-! Card numbers, the cards of a batch one by one, and reclamation (R49, R52, R55). -/

namespace Sys2Proof.Machine

-- One theorem at a time: each check by the kernel then needs one stack.
set_option Elab.async false

open Sys2Proof

/-! ## The numbers from the counter on (R49) -/

theorem nextCardNumber_eq (n : Nat) : nextCardNumber n = if n < 16777215 then n + 1 else 1 := by
  unfold nextCardNumber Config.lastCardNumber
  by_cases last : n < 16777215
  · rw [if_pos last, if_neg (not_le.mpr last)]
  · rw [if_neg last, if_pos (not_lt.mp last)]

theorem nextIssueNumber_eq (n : Nat) : nextIssueNumber n = if n < 65535 then n + 1 else 1 := by
  unfold nextIssueNumber
  by_cases last : n < 65535
  · rw [if_pos last, if_neg (not_le.mpr last)]
  · rw [if_neg last, if_pos (not_lt.mp last)]

/-- A card number in range. -/
def CardNumber (n : Nat) : Prop := 1 ≤ n ∧ n ≤ Config.lastCardNumber

theorem CardNumber.next (n : Nat) : CardNumber (nextCardNumber n) := by
  rw [nextCardNumber_eq, CardNumber, Config.lastCardNumber]
  split <;> omega

/-- The numbers go round the range. -/
theorem nextCardNumber_iterate {n : Nat} (range : CardNumber n) (k : Nat) :
    nextCardNumber^[k] n = (n - 1 + k) % 16777215 + 1 := by
  obtain ⟨least, most⟩ := range
  have most : n ≤ 16777215 := most
  induction k with
  | zero => simp only [Function.iterate_zero, id]; omega
  | succ k ih =>
    rw [Function.iterate_succ_apply', ih, nextCardNumber_eq]
    split <;> omega

theorem CardNumber.iterate {n : Nat} (range : CardNumber n) (k : Nat) : CardNumber (nextCardNumber^[k] n) := by
  rw [nextCardNumber_iterate range, CardNumber, Config.lastCardNumber]
  omega

/-- The first 1024 numbers from a counter on are distinct. -/
theorem nextCardNumber_iterate_injective {n : Nat} (range : CardNumber n) {j k : Nat} (hj : j < 1024) (hk : k < 1024)
    (same : nextCardNumber^[j] n = nextCardNumber^[k] n) : j = k := by
  rw [nextCardNumber_iterate range, nextCardNumber_iterate range] at same
  omega

theorem CardTable.find_isSome (t : CardTable) (n : Nat) : (t.find n).isSome = true ↔ ∃ c ∈ t.cards, c.number = n := by
  simp [CardTable.find]

/-- The search stops at the first number that no record holds, or at the end of its fuel. -/
theorem firstFree_spec (t : CardTable) (fuel n : Nat) :
    ∃ k ≤ fuel, firstFree t fuel n = nextCardNumber^[k] n ∧ (∀ j < k, ∃ c ∈ t.cards, c.number = nextCardNumber^[j] n)
      ∧ (k < fuel → ∀ c ∈ t.cards, c.number ≠ nextCardNumber^[k] n) := by
  induction fuel generalizing n with
  | zero => exact ⟨0, Nat.le_refl 0, rfl, fun _ h => absurd h (Nat.not_lt_zero _), fun h => absurd h (Nat.not_lt_zero _)⟩
  | succ fuel ih =>
    simp only [firstFree]
    split
    · rename_i taken
      obtain ⟨k, le, eq, held, free⟩ := ih (nextCardNumber n)
      refine ⟨k + 1, Nat.succ_le_succ le, eq, fun j below => ?_, fun below => free (Nat.lt_of_succ_lt_succ below)⟩
      cases j with
      | zero => exact (t.find_isSome n).mp taken
      | succ j => exact held j (Nat.lt_of_succ_lt_succ below)
    · rename_i unheld
      exact ⟨0, Nat.zero_le _, rfl, fun _ h => absurd h (Nat.not_lt_zero _),
        fun _ c hc same => unheld ((t.find_isSome n).mpr ⟨c, hc, same⟩)⟩

/-- A table with a place left has a free number: its records cannot hold 1024 distinct numbers. -/
theorem CardTable.freeNumber_spec {t : CardTable} (range : CardNumber t.nextNumber) (room : t.cards.length < 1024) :
    ∃ k < 1024, t.freeNumber = nextCardNumber^[k] t.nextNumber ∧ (∀ c ∈ t.cards, c.number ≠ t.freeNumber)
      ∧ ∀ j < k, ∃ c ∈ t.cards, c.number = nextCardNumber^[j] t.nextNumber := by
  obtain ⟨k, le, eq, held, free⟩ := firstFree_spec t 1024 t.nextNumber
  have found : k < 1024 := by
    by_contra all
    have distinct : ((List.range 1024).map fun j => nextCardNumber^[j] t.nextNumber).Nodup :=
      List.Nodup.map_on (fun j hj l hl => nextCardNumber_iterate_injective range (List.mem_range.mp hj) (List.mem_range.mp hl))
        List.nodup_range
    have numbers : ((List.range 1024).map fun j => nextCardNumber^[j] t.nextNumber) ⊆ t.cards.map Credential.number := by
      intro n hn
      obtain ⟨j, hj, rfl⟩ := List.mem_map.mp hn
      obtain ⟨c, hc, same⟩ := held j (Nat.lt_of_lt_of_le (List.mem_range.mp hj) (Nat.le_of_not_lt all))
      exact List.mem_map.mpr ⟨c, hc, same⟩
    have count := (distinct.subperm numbers).length_le
    rw [List.length_map, List.length_map, List.length_range] at count
    omega
  have eq : t.freeNumber = nextCardNumber^[k] t.nextNumber := eq
  exact ⟨k, found, eq, fun c hc => eq ▸ free found c hc, held⟩

theorem CardTable.freeNumber_free {t : CardTable} (range : CardNumber t.nextNumber) (room : t.cards.length < 1024) :
    CardNumber t.freeNumber ∧ ∀ c ∈ t.cards, c.number ≠ t.freeNumber := by
  obtain ⟨k, -, eq, free, -⟩ := CardTable.freeNumber_spec range room
  exact ⟨eq ▸ range.iterate k, free⟩

/-! ## Reclamation (R52) -/

section
variable {t : CardTable} (sound : t.Sound) {n : Nat} (space : t.hasSpace n = true)
include sound space

/-- The records kept and those deleted are all the records. -/
theorem CardTable.Sound.reclaim_length : (t.reclaim n).cards.length + t.shortfall n = t.cards.length := by
  obtain ⟨-, ascending, -, -, -, -, nodup, held, -⟩ := sound
  have enough : t.shortfall n ≤ t.revoked.length := of_decide_eq_true space
  have numbers : (t.cards.map Credential.number).Nodup := List.pairwise_map.mpr (ascending.imp fun h => h.ne)
  have doomed : (t.cards.map Credential.number).countP (t.revoked.take (t.shortfall n)).contains = t.shortfall n := by
    have both : ((t.cards.map Credential.number).filter (t.revoked.take (t.shortfall n)).contains).Perm
        (t.revoked.take (t.shortfall n)) := by
      refine (List.perm_ext_iff_of_nodup (numbers.filter _) (nodup.sublist (List.take_sublist _ _))).mpr fun k => ?_
      rw [List.mem_filter, List.contains_iff_mem]
      refine ⟨fun h => h.2, fun h => ⟨?_, h⟩⟩
      obtain ⟨c, hc, same, -⟩ := held k (List.mem_of_mem_take h)
      exact List.mem_map.mpr ⟨c, hc, same⟩
    rw [List.countP_eq_length_filter, both.length_eq, List.length_take, min_eq_left enough]
  have split := List.length_eq_countP_add_countP (fun c : Credential => (t.revoked.take (t.shortfall n)).contains c.number)
    (l := t.cards)
  rw [List.countP_map] at doomed
  have kept : (t.reclaim n).cards.length
      = t.cards.countP fun c => !(t.revoked.take (t.shortfall n)).contains c.number := (List.countP_eq_length_filter).symm
  have doomed : (t.cards.countP fun c : Credential => (t.revoked.take (t.shortfall n)).contains c.number) = t.shortfall n := doomed
  rw [kept]
  simp only [Bool.not_eq_true, Bool.decide_eq_false] at split
  omega

/-- After reclamation there is a place for each card. -/
theorem CardTable.Sound.reclaim_room (_ : n ≤ 1024) : (t.reclaim n).cards.length + n ≤ 1024 := by
  have length := sound.reclaim_length space
  obtain ⟨le, -⟩ := sound
  have short : t.shortfall n = n - (1024 - t.cards.length) := rfl
  omega

end

/-! ## The cards of a batch (R55) -/

section
variable (p : Port) (i : Slot) (cls : Fin 8) (w : Window) (n : Nat)

/-- The card that follows `k` others in a batch of `n`, from the table after those and the room's issue counter before the batch. -/
def batchCardAt (generation counter : Nat) (left : Nat) (t : CardTable) (k : Nat) : Credential :=
  { number := t.freeNumber, cls := cls, binding := some { slot := i, generation := generation }
    issueNumber := nextIssueNumber^[k + 1] counter, first := decide (left = n + k), final := decide (k + 1 = left)
    window := w, state := .active, issuedBy := p }

theorem issueCards_table (left : Nat) (s : State) :
    (issueCards p i cls w n left s).1.table = (issueCards p i cls w n left s).2.foldl CardTable.create s.table := by
  induction left generalizing s with
  | zero => rfl
  | succ left ih =>
    simp only [issueCards, List.foldl_cons]
    exact ih _

theorem issueCards_rooms (left : Nat) (s : State) :
    (issueCards p i cls w n left s).1.rooms
      = s.rooms.set i { s.rooms[i] with issueCounter := nextIssueNumber^[left] s.rooms[i].issueCounter } := by
  induction left generalizing s with
  | zero => exact (Vector.set_getElem_self _).symm
  | succ left ih =>
    simp only [issueCards]
    rw [ih]
    simp [State.batchCard]

/-- A batch changes the table and the room's issue counter alone. -/
theorem issueCards_eq (left : Nat) (s : State) :
    (issueCards p i cls w n left s).1 = { s with
      table := (issueCards p i cls w n left s).1.table
      rooms := (issueCards p i cls w n left s).1.rooms } := by
  induction left generalizing s with
  | zero => rfl
  | succ left ih => exact (ih _).trans rfl

/-- The card that follows `k` others. -/
theorem issueCards_getElem? {left k : Nat} (below : k < left) (s : State) :
    (issueCards p i cls w n left s).2[k]? = some (batchCardAt p i cls w n s.rooms[i].generation s.rooms[i].issueCounter left
      (((issueCards p i cls w n left s).2.take k).foldl CardTable.create s.table) k) := by
  induction left generalizing s k with
  | zero => exact absurd below (Nat.not_lt_zero k)
  | succ left ih =>
    cases k with
    | zero => simp [issueCards, batchCardAt, State.batchCard]
    | succ k =>
      simp only [issueCards, List.getElem?_cons_succ, List.take_succ_cons, List.foldl_cons]
      rw [ih (Nat.lt_of_succ_lt_succ below)]
      simp only [batchCardAt, Option.some.injEq, Credential.mk.injEq, true_and, and_true]
      refine ⟨rfl, by simp, ?_, ?_, ?_⟩
      · simp [State.batchCard]
      · simp only [decide_eq_decide]; omega
      · simp only [decide_eq_decide]; omega

end

end Sys2Proof.Machine
end

section
/-! A batch's cards created in turn (R49, R52, R55). -/

namespace Sys2Proof.Machine

-- One theorem at a time: each check by the kernel then needs one stack.
set_option Elab.async false

open Sys2Proof

/-! ## Cards created one after another -/

theorem CardTable.createAll_cards (t : CardTable) (cards : List Credential) :
    (cards.foldl CardTable.create t).cards.Perm (t.cards ++ cards) := by
  induction cards generalizing t with
  | nil => simp
  | cons c cards ih =>
    have first : (t.create c).cards.Perm (t.cards ++ [c]) := (insertCard_perm c t.cards).trans (List.perm_append_singleton _ _).symm
    have rest := (ih (t.create c)).trans (first.append_right cards)
    rwa [List.append_assoc, List.singleton_append] at rest

theorem CardTable.createAll_length (t : CardTable) (cards : List Credential) :
    (cards.foldl CardTable.create t).cards.length = t.cards.length + cards.length := by
  rw [(t.createAll_cards cards).length_eq, List.length_append]

theorem CardTable.createAll_revoked (t : CardTable) (cards : List Credential) :
    (cards.foldl CardTable.create t).revoked = t.revoked := by
  induction cards generalizing t with
  | nil => rfl
  | cons c cards ih => exact ih _

theorem CardTable.createAll_site (t : CardTable) (cards : List Credential) : (cards.foldl CardTable.create t).site = t.site := by
  induction cards generalizing t with
  | nil => rfl
  | cons c cards ih => exact ih _

/-- The counter stands at the number after the last card's. -/
theorem CardTable.createAll_nextNumber (t : CardTable) (cards : List Credential) :
    (cards.foldl CardTable.create t).nextNumber
      = (cards.getLast?.map fun c => nextCardNumber c.number).getD t.nextNumber := by
  cases cards using List.reverseRecOn with
  | nil => rfl
  | append_singleton cards c => simp

theorem CardTable.createAll_range {t : CardTable} (range : CardNumber t.nextNumber) (cards : List Credential) :
    CardNumber (cards.foldl CardTable.create t).nextNumber := by
  rw [CardTable.createAll_nextNumber]
  cases cards.getLast? with
  | none => exact range
  | some c => exact CardNumber.next _

/-! ## The cards of a batch -/

section
variable {p : Port} {i : Slot} {cls : Fin 8} {w : Window} {n left : Nat} {s : State}

/-- A card's place in its batch is below the number of cards. -/
theorem issueCards_lt {k : Nat} {c : Credential} (hc : c ∈ (issueCards p i cls w n left s).2[k]?) : k < left := by
  obtain ⟨below, -⟩ := List.getElem?_eq_some_iff.mp hc
  rwa [issueCards_length] at below

theorem issueCards_mem {k : Nat} {c : Credential} (hc : c ∈ (issueCards p i cls w n left s).2[k]?) :
    c = batchCardAt p i cls w n s.rooms[i].generation s.rooms[i].issueCounter left
      (((issueCards p i cls w n left s).2.take k).foldl CardTable.create s.table) k := by
  have card := issueCards_getElem? p i cls w n (issueCards_lt hc) s
  exact Option.some.inj (hc.symm.trans card)

variable (range : CardNumber s.table.nextNumber) (room : s.table.cards.length + left ≤ 1024)
include range room

/-- Each card takes the first number that no record holds at its own turn. -/
theorem issueCards_number {k : Nat} {c : Credential} (hc : c ∈ (issueCards p i cls w n left s).2[k]?) :
    ∃ j < 1024, c.number = nextCardNumber^[j] (((issueCards p i cls w n left s).2.take k).foldl CardTable.create s.table).nextNumber
      ∧ (∀ d ∈ s.table.cards ++ (issueCards p i cls w n left s).2.take k, d.number ≠ c.number)
      ∧ ∀ l < j, ∃ d ∈ s.table.cards ++ (issueCards p i cls w n left s).2.take k,
        d.number = nextCardNumber^[l] (((issueCards p i cls w n left s).2.take k).foldl CardTable.create s.table).nextNumber := by
  have below := issueCards_lt hc
  have number := congrArg Credential.number (issueCards_mem hc)
  have members (d : Credential) := (s.table.createAll_cards ((issueCards p i cls w n left s).2.take k)).mem_iff (a := d)
  have short : (((issueCards p i cls w n left s).2.take k).foldl CardTable.create s.table).cards.length < 1024 := by
    rw [CardTable.createAll_length, List.length_take, issueCards_length]
    omega
  obtain ⟨j, hj, eq, free, held⟩ := CardTable.freeNumber_spec (CardTable.createAll_range range _) short
  refine ⟨j, hj, number.trans eq, fun d hd same => free d ((members d).mpr hd) (same.trans number), fun l hl => ?_⟩
  obtain ⟨d, hd, same⟩ := held l hl
  exact ⟨d, (members d).mp hd, same⟩

theorem issueCards_range {k : Nat} {c : Credential} (hc : c ∈ (issueCards p i cls w n left s).2[k]?) : CardNumber c.number := by
  obtain ⟨j, -, eq, -⟩ := issueCards_number range room hc
  exact eq ▸ (CardTable.createAll_range range _).iterate j

/-- A batch leaves an ascending table ascending. -/
theorem issueCards_sorted (ascending : s.table.cards.Pairwise fun a b => a.number < b.number) :
    (issueCards p i cls w n left s).1.table.cards.Pairwise fun a b => a.number < b.number := by
  have each (k : Nat) : (((issueCards p i cls w n left s).2.take k).foldl CardTable.create s.table).cards.Pairwise
      fun a b => a.number < b.number := by
    induction k with
    | zero => exact ascending
    | succ k ih =>
      rw [List.take_add_one, List.foldl_append]
      cases card : (issueCards p i cls w n left s).2[k]? with
      | none => exact ih
      | some c =>
        obtain ⟨-, -, -, free, -⟩ := issueCards_number range room card
        exact insertCard_sorted c _ ih fun d hd =>
          free d (((s.table.createAll_cards ((issueCards p i cls w n left s).2.take k)).mem_iff).mp hd)
  rw [issueCards_table]
  have whole := each left
  rwa [List.take_of_length_le (by rw [issueCards_length])] at whole

end

end Sys2Proof.Machine

open Sys2Proof Sys2Proof.Machine

/-- Settles O24: each card is the batch card of its place over the table that the cards before it leave, and that table has a place left,
so its number is free. -/
theorem batchIssueCreatesItsCards : Obligations.BatchIssueCreatesItsCards := by
  refine ⟨fun t sound room => ?_, fun m => ⟨nextCardNumber_eq m, nextIssueNumber_eq m⟩, fun t c => ⟨insertCard_perm c t.cards, rfl⟩,
    fun s p i cls w n sound _ some' few space => ?_⟩
  · obtain ⟨-, -, -, -, least, most, -⟩ := sound
    obtain ⟨k, hk, eq, free, held⟩ := CardTable.freeNumber_spec ⟨least, most⟩ room
    exact ⟨k, hk, eq, free, fun j => held j j.isLt⟩
  · intro short kept r reclaimed held counter
    have room : (s.table.reclaim n).cards.length + n ≤ 1024 := sound.reclaim_room space (by omega)
    obtain ⟨-, ascending, -, -, least, most, -⟩ := sound
    let t : State := { s with table := s.table.reclaim n }
    have range : CardNumber t.table.nextNumber := ⟨least, most⟩
    have table : r.1.table = r.2.foldl CardTable.create reclaimed := issueCards_table p i cls w n n t
    have length : r.2.length = n := issueCards_length p i cls w n n t
    have counts (k : Nat) : ((r.2.take k).foldl CardTable.create reclaimed).nextNumber = counter k :=
      CardTable.createAll_nextNumber _ _
    refine ⟨length, rfl, table, fun k c hc => ?_, fun c hc => ?_, ?_, ?_, ?_, ?_, fun k c hc => ?_, ?_⟩
    · obtain ⟨j, hj, eq, free, below⟩ := issueCards_number range room hc
      have eq : c.number = nextCardNumber^[j] ((r.2.take k).foldl CardTable.create reclaimed).nextNumber := eq
      refine ⟨congrArg Credential.number (issueCards_mem hc), free, j, hj, eq.trans (by rw [counts]), fun l => ?_⟩
      obtain ⟨d, hd, same⟩ := below l l.isLt
      have same : d.number = nextCardNumber^[l.val] ((r.2.take k).foldl CardTable.create reclaimed).nextNumber := same
      exact ⟨d, hd, same.trans (by rw [counts])⟩
    · have last : r.2.getLast? = some c := hc
      rw [table, CardTable.createAll_nextNumber, last]
      rfl
    · rw [table]
      exact (CardTable.createAll_cards _ _).trans List.perm_append_comm
    · exact issueCards_sorted range room (ascending.sublist List.filter_sublist)
    · rw [table, CardTable.createAll_revoked]
    · rw [table, CardTable.createAll_site]
    · obtain ⟨-, -, -, free, -⟩ := issueCards_number range room hc
      obtain ⟨from1, upTo⟩ := issueCards_range range room hc
      refine ⟨from1, upTo, fun d hd => free d (List.mem_append_left _ hd), ?_⟩
      have card := issueCards_mem hc
      have place := issueCards_lt hc
      rw [card]
      simp only [batchCardAt, Credential.mk.injEq, true_and, and_true]
      rw [decide_eq_decide]
      omega
    · have batch := issueCards_eq p i cls w n n t
      have rooms := issueCards_rooms p i cls w n n t
      rw [rooms] at batch
      exact batch

end

section
/-! The Credential Table and the rooms its cards are current at (R40, R41, R45, R51, R54, R57). -/

namespace Sys2Proof.Machine

-- One theorem at a time: each check by the kernel then needs one stack.
set_option Elab.async false

open Sys2Proof

/-! ## Tables -/

/-- Distinct numbers make a record by its number one record. -/
theorem CardTable.Sound.eq_of_number {t : CardTable} (sound : t.Sound) {c d : Credential} (hc : c ∈ t.cards) (hd : d ∈ t.cards)
    (same : c.number = d.number) : c = d := CardTable.eq_of_number_eq sound.2.1 hc hd same

theorem CardTable.mem_of_find {t : CardTable} {number : Nat} {c : Credential} (found : t.find number = some c) : c ∈ t.cards :=
  List.mem_of_find?_eq_some found

section
variable {t : CardTable} (sound : t.Sound)
include sound

/-- Records changed in their state alone, none of them into or out of REVOKED. -/
theorem CardTable.Sound.map {f : Credential → Credential} (number : ∀ c, (f c).number = c.number) (own : ∀ c ∈ t.cards, (f c).Sound)
    (revoked : ∀ c ∈ t.cards, (f c).isRevoked = c.isRevoked) : ({ t with cards := t.cards.map f } : CardTable).Sound := by
  obtain ⟨length, ascending, -, empty, least, most, nodup, held, listed⟩ := sound
  refine ⟨by rwa [List.length_map], ?_, fun c hc => ?_, fun none => by rw [empty none]; rfl, least, most, nodup, fun n hn => ?_, fun c hc revs => ?_⟩
  · refine List.pairwise_map.mpr (ascending.imp fun {a b} below => ?_)
    rwa [number, number]
  · obtain ⟨x, hx, rfl⟩ := List.mem_map.mp hc
    exact own x hx
  · obtain ⟨c, hc, same, revs⟩ := held n hn
    exact ⟨f c, List.mem_map_of_mem hc, (number c).trans same, (revoked c hc).trans revs⟩
  · obtain ⟨x, hx, rfl⟩ := List.mem_map.mp hc
    rw [number]
    exact listed x hx ((revoked x hx).symm.trans revs)

/-- Records that are not REVOKED become so, and their numbers join the revocation list. -/
theorem CardTable.Sound.revokeWhere {P : Credential → Prop} [DecidablePred P] (reason : RevokeReason) {numbers : List Nat}
    (distinct : numbers.Nodup) (these : ∀ n, n ∈ numbers ↔ ∃ c ∈ t.cards, P c ∧ c.number = n)
    (live : ∀ c ∈ t.cards, P c → c.isRevoked = false) :
    ({ t with
      cards := t.cards.map fun c => if P c then { c with state := .revoked reason } else c
      revoked := t.revoked ++ numbers } : CardTable).Sound := by
  have unique {c d : Credential} (hc : c ∈ t.cards) (hd : d ∈ t.cards) (same : c.number = d.number) : c = d :=
    sound.eq_of_number hc hd same
  obtain ⟨length, ascending, own, empty, least, most, nodup, held, listed⟩ := sound
  have number (c : Credential) : (if P c then { c with state := .revoked reason } else c).number = c.number := by
    split <;> rfl
  refine ⟨by rwa [List.length_map], ?_, fun c hc => ?_, fun none => by rw [empty none]; rfl, least, most, ?_, fun n hn => ?_,
    fun c hc revs => ?_⟩
  · refine List.pairwise_map.mpr (ascending.imp fun {a b} below => ?_)
    rwa [number, number]
  · obtain ⟨x, hx, rfl⟩ := List.mem_map.mp hc
    have sound := own x hx
    split
    · exact sound
    · exact sound
  · refine List.nodup_append.mpr ⟨nodup, distinct, fun n hn m hm => ?_⟩
    rintro rfl
    obtain ⟨c, hc, same, revs⟩ := held n hn
    obtain ⟨d, hd, pd, same'⟩ := (these n).mp hm
    rw [unique hc hd (same.trans same'.symm), live d hd pd] at revs
    cases revs
  · rcases List.mem_append.mp hn with old | new
    · obtain ⟨c, hc, same, revs⟩ := held n old
      refine ⟨_, List.mem_map_of_mem hc, (number c).trans same, ?_⟩
      split
      · rfl
      · exact revs
    · obtain ⟨c, hc, pc, same⟩ := (these n).mp new
      exact ⟨_, List.mem_map_of_mem hc, (number c).trans same, by rw [if_pos pc]; rfl⟩
  · obtain ⟨x, hx, rfl⟩ := List.mem_map.mp hc
    rw [number]
    by_cases px : P x
    · exact List.mem_append_right _ ((these x.number).mpr ⟨x, hx, px, rfl⟩)
    · rw [if_neg px] at revs
      exact List.mem_append_left _ (listed x hx revs)

/-- One record that is not REVOKED revoked. -/
theorem CardTable.Sound.revoke {c : Credential} (hc : c ∈ t.cards) (live : c.isRevoked = false) (reason : RevokeReason) :
    (t.revoke c.number reason).Sound := by
  refine sound.revokeWhere reason (P := fun d => d.number = c.number) (List.nodup_singleton _) (fun n => ?_) fun d hd same => ?_
  · rw [List.mem_singleton]
    exact ⟨fun h => ⟨c, hc, rfl, h.symm⟩, fun ⟨d, _, same, h⟩ => h.symm.trans same⟩
  · rwa [sound.eq_of_number hd hc same]

/-- The live records of a room revoked. -/
theorem CardTable.Sound.revokeRoom (i : Slot) : (t.revokeAll (t.liveOf i)).Sound := by
  rw [CardTable.revokeAll_liveOf sound.2.1]
  refine sound.revokeWhere .checkout (P := fun c => c.slot? = some i ∧ c.isRevoked = false) ?_ (fun n => ?_) fun _ _ live => live.2
  · exact (List.pairwise_map.mpr (sound.2.1.imp fun h => h.ne)).sublist (List.filter_sublist.map _)
  · rw [List.mem_map]
    exact ⟨fun ⟨c, hc, same⟩ => ⟨c, (CardTable.mem_liveOf.mp hc).1, (CardTable.mem_liveOf.mp hc).2, same⟩,
      fun ⟨c, hc, live, same⟩ => ⟨c, CardTable.mem_liveOf.mpr ⟨hc, live⟩, same⟩⟩

/-- Reclamation deletes REVOKED records and their numbers together. -/
theorem CardTable.Sound.reclaim (n : Nat) : (t.reclaim n).Sound := by
  have unique {c d : Credential} (hc : c ∈ t.cards) (hd : d ∈ t.cards) (same : c.number = d.number) : c = d :=
    sound.eq_of_number hc hd same
  obtain ⟨length, ascending, own, empty, least, most, nodup, held, listed⟩ := sound
  have kept {c : Credential} (hc : c ∈ (t.reclaim n).cards) : c ∈ t.cards ∧ c.number ∉ t.revoked.take (t.shortfall n) := by
    simpa [CardTable.reclaim] using hc
  have parted := List.nodup_append.mp ((List.take_append_drop (t.shortfall n) t.revoked).symm ▸ nodup)
  refine ⟨(List.length_filter_le _ _).trans length, ascending.sublist List.filter_sublist, fun c hc => own c (kept hc).1,
    fun none => ?_, least, most, nodup.sublist (List.drop_sublist _ _), fun k hk => ?_, fun c hc revs => ?_⟩
  · show t.cards.filter _ = []
    rw [empty none]
    rfl
  · obtain ⟨c, hc, same, revs⟩ := held k (List.mem_of_mem_drop hk)
    refine ⟨c, ?_, same, revs⟩
    have other : c.number ∉ t.revoked.take (t.shortfall n) := fun doomed =>
      parted.2.2 c.number doomed k hk same
    simpa [CardTable.reclaim] using ⟨hc, other⟩
  · obtain ⟨old, other⟩ := kept hc
    have number := listed c old revs
    rw [← List.take_append_drop (t.shortfall n) t.revoked] at number
    exact (List.mem_append.mp number).resolve_left other

/-- A record that is not REVOKED created under a free number. -/
theorem CardTable.Sound.create {c : Credential} (own : c.Sound) (live : c.isRevoked = false) (site : t.site ≠ 0)
    (room : t.cards.length < 1024) (free : ∀ d ∈ t.cards, d.number ≠ c.number) : (t.create c).Sound := by
  obtain ⟨length, ascending, all, empty, least, most, nodup, held, listed⟩ := sound
  obtain ⟨next, last⟩ := CardNumber.next c.number
  refine ⟨?_, insertCard_sorted c _ ascending free, fun d hd => ?_, fun none => absurd none site, next, last, nodup, fun n hn => ?_,
    fun d hd revs => ?_⟩
  · rw [CardTable.create_cards, (insertCard_perm c t.cards).length_eq]
    exact room
  · rcases (mem_insertCard c d _).mp hd with rfl | old
    · exact own
    · exact all d old
  · obtain ⟨d, hd, same, revs⟩ := held n hn
    exact ⟨d, (mem_insertCard c d _).mpr (.inr hd), same, revs⟩
  · rcases (mem_insertCard c d _).mp hd with rfl | old
    · exact absurd (live.symm.trans revs) nofun
    · exact listed d old revs

end

/-! ## The live cards of a room -/

theorem CardTable.liveOf_length (t : CardTable) (i : Slot) :
    (t.liveOf i).length = t.cards.countP fun c => c.slot? == some i && !c.isRevoked := List.countP_eq_length_filter.symm

/-- Records changed neither in their room nor out of REVOKED leave no room more live cards. -/
theorem CardTable.liveOf_map_le {t u : CardTable} {f : Credential → Credential} (cards : u.cards = t.cards.map f)
    (slot : ∀ c, (f c).slot? = c.slot?) (live : ∀ c, (f c).isRevoked = false → c.isRevoked = false) (i : Slot) :
    (u.liveOf i).length ≤ (t.liveOf i).length := by
  rw [CardTable.liveOf_length, CardTable.liveOf_length, cards, List.countP_map]
  refine List.countP_mono_left fun c _ h => ?_
  simp only [Function.comp, slot, Bool.and_eq_true, Bool.not_eq_true'] at h ⊢
  exact ⟨h.1, live c h.2⟩

theorem CardTable.liveOf_reclaim_le (t : CardTable) (n : Nat) (i : Slot) :
    ((t.reclaim n).liveOf i).length ≤ (t.liveOf i).length :=
  (List.filter_sublist.filter _).length_le

theorem CardTable.liveOf_create (t : CardTable) (c : Credential) (i : Slot) :
    ((t.create c).liveOf i).length = (t.liveOf i).length + (c.slot? == some i && !c.isRevoked).toNat := by
  rw [CardTable.liveOf_length, CardTable.liveOf_length, CardTable.create_cards, (insertCard_perm c t.cards).countP_eq,
    List.countP_cons]
  cases c.slot? == some i && !c.isRevoked <;> rfl

/-! ## Cards and rooms -/

theorem CardInv.dependsOn : DependsOn [.rooms, .table] CardInv := fun s t same inv => by
  have rooms : t.rooms = s.rooms := same .rooms (by simp)
  have table : t.table = s.table := same .table (by simp)
  obtain ⟨sound, live, counters, current⟩ := inv
  exact ⟨table ▸ sound, table ▸ live, rooms ▸ counters, fun c hc b hb => by
    rw [rooms]
    exact current c (table ▸ hc) b hb⟩

section
variable {s : State} (inv : CardInv s)
include inv

theorem CardInv.of_same {touched : List Field} {t : State} (same : State.SameBut touched s t)
    (other : apart [.rooms, .table] touched = true := by rfl) : CardInv t := CardInv.dependsOn.of_same same inv other

/-- A room record may be replaced by one at which the room's live cards are current. -/
theorem CardInv.setRoom {i : Slot} {r : Room} (counter : r.issueCounter ≤ 65535)
    (current : ∀ c ∈ s.table.cards, c.isRevoked = false → ∀ b ∈ c.binding, b.slot = i →
      b.generation = r.generation ∧ ∃ st ∈ r.occupancy.stay?, c.window = st.window) : CardInv (s.setRoom i r) := by
  obtain ⟨sound, live, counters, old⟩ := inv
  refine ⟨sound, live, fun j => ?_, fun c hc b hb revs => ?_⟩
  · rw [s.getElem_setRoom]
    split
    · exact counter
    · exact counters j
  · rw [s.getElem_setRoom]
    split
    · rename_i here
      exact current c hc revs b hb here.symm
    · exact old c hc b hb revs

theorem CardInv.counter (i : Slot) : s.rooms[i].issueCounter ≤ 65535 := by
  obtain ⟨-, -, counters, -⟩ := inv
  exact counters i

/-- A room record of the same generation and stay. -/
theorem CardInv.setRoom_same {i : Slot} {r : Room} (counter : r.issueCounter ≤ 65535)
    (generation : r.generation = s.rooms[i].generation) (stay : r.occupancy.stay? = s.rooms[i].occupancy.stay?) :
    CardInv (s.setRoom i r) := by
  have kept := inv
  obtain ⟨-, -, -, current⟩ := kept
  refine inv.setRoom counter fun c hc revs b hb here => ?_
  rw [generation, stay, ← here]
  exact current c hc b hb revs

/-- A room that is not LET has no live card, so any record may take its place. -/
theorem CardInv.setRoom_notLet {i : Slot} (notLet : s.rooms[i].occupancy.stay? = none) {r : Room}
    (counter : r.issueCounter ≤ 65535) : CardInv (s.setRoom i r) := by
  have kept := inv
  obtain ⟨-, -, -, current⟩ := kept
  refine inv.setRoom counter fun c hc revs b hb here => ?_
  subst here
  obtain ⟨-, st, hst, -⟩ := current c hc b hb revs
  rw [notLet] at hst
  cases hst

theorem CardInv.setTable {t : CardTable} (sound : t.Sound) (live : ∀ i, (t.liveOf i).length ≤ (s.table.liveOf i).length)
    (current : ∀ c ∈ t.cards, c.Current s) : CardInv { s with table := t } := by
  obtain ⟨-, old, counters, -⟩ := inv
  exact ⟨sound, fun i => (live i).trans (old i), counters, current⟩

theorem CardInv.setPrivacy (i : Slot) (x : Privacy) : CardInv (s.setPrivacy i x) := inv.setRoom_same (inv.counter i) rfl rfl

theorem CardInv.forgetPrivacy (kind : UnitKind) : CardInv (s.forgetPrivacy kind) := by
  simp only [State.forgetPrivacy]
  split
  · exact inv.setPrivacy _ _
  · exact inv

/-- Records changed in their state alone, as a table update does. -/
theorem CardInv.revokeWhere {P : Credential → Prop} [DecidablePred P] {t : CardTable} (sound : t.Sound) (reason : RevokeReason)
    (cards : t.cards = s.table.cards.map fun c => if P c then { c with state := .revoked reason } else c) :
    CardInv { s with table := t } := by
  have kept := inv
  obtain ⟨-, -, -, current⟩ := kept
  refine inv.setTable sound (CardTable.liveOf_map_le cards (fun c => by split <;> rfl) fun c live => ?_) fun c hc => ?_
  · split at live
    · cases live
    · exact live
  · rw [cards] at hc
    obtain ⟨x, hx, rfl⟩ := List.mem_map.mp hc
    by_cases revoked : P x
    · rw [if_pos revoked]
      exact fun _ _ live => nomatch live
    · rw [if_neg revoked]
      exact current x hx

theorem CardInv.revoke {c : Credential} (hc : c ∈ s.table.cards) (live : c.isRevoked = false) (reason : RevokeReason) :
    CardInv { s with table := s.table.revoke c.number reason } :=
  inv.revokeWhere (inv.1.revoke hc live reason) reason rfl

theorem CardInv.revokeRoom (i : Slot) : CardInv { s with table := s.table.revokeAll (s.table.liveOf i) } :=
  inv.revokeWhere (P := fun c => c.slot? = some i ∧ c.isRevoked = false) (inv.1.revokeRoom i) .checkout
    (by rw [CardTable.revokeAll_liveOf inv.1.2.1])

/-- A record that is not REVOKED moved to a state that is not REVOKED. -/
theorem CardInv.setState {number : Nat} (live : ∀ c ∈ s.table.cards, c.number = number → c.isRevoked = false)
    {state : CardState} (target : ∀ c : Credential, ({ c with state := state } : Credential).isRevoked = false) :
    CardInv { s with table := s.table.update number fun d => { d with state := state } } := by
  have kept := inv
  obtain ⟨sound, -, -, current⟩ := kept
  have revoked (c : Credential) (hc : c ∈ s.table.cards) :
      (if c.number = number then { c with state := state } else c : Credential).isRevoked = c.isRevoked := by
    split
    · rename_i here
      exact (target c).trans (live c hc here).symm
    · rfl
  have own (c : Credential) (hc : c ∈ s.table.cards) :
      (if c.number = number then { c with state := state } else c : Credential).Sound := by
    have sound := sound.2.2.1 c hc
    split
    · exact sound
    · exact sound
  refine inv.setTable (sound.map (fun c => by split <;> rfl) own revoked) (fun i => ?_) fun c hc => ?_
  · rw [CardTable.liveOf_length, CardTable.liveOf_length, CardTable.update, List.countP_map]
    refine List.countP_mono_left fun c hc h => ?_
    have slot : (if c.number = number then { c with state := state } else c : Credential).slot? = c.slot? := by split <;> rfl
    rw [Function.comp, slot, revoked c hc] at h
    exact h
  · obtain ⟨x, hx, rfl⟩ := List.mem_map.mp hc
    intro b hb live
    have currently := current x hx
    rw [revoked x hx] at live
    split at hb
    · rename_i here
      rw [if_pos here]
      exact currently b hb live
    · rename_i other
      rw [if_neg other]
      exact currently b hb live

/-! ## Issue -/

theorem CardInv.reclaim (n : Nat) : CardInv { s with table := s.table.reclaim n } := by
  have kept := inv
  obtain ⟨sound, -, -, current⟩ := kept
  exact inv.setTable (sound.reclaim n) (s.table.liveOf_reclaim_le n) fun c hc => current c (List.mem_of_mem_filter hc)

/-- A live card created with a place for it, current at its room. -/
theorem CardInv.create {c : Credential} (own : c.Sound) (live : c.isRevoked = false) (site : s.table.site ≠ 0)
    (room : s.table.cards.length < 1024) (free : ∀ d ∈ s.table.cards, d.number ≠ c.number)
    (few : ∀ i ∈ c.slot?, (s.table.liveOf i).length < 8) (currently : c.Current s) : CardInv { s with table := s.table.create c } := by
  obtain ⟨sound, atMost, counters, current⟩ := inv
  refine ⟨sound.create own live site room free, fun i => ?_, counters, fun d hd => ?_⟩
  · rw [CardTable.liveOf_create]
    by_cases here : c.slot? = some i
    · have below := few i here
      have le := Bool.toNat_le (c.slot? == some i && !c.isRevoked)
      omega
    · rw [beq_eq_false_iff_ne.mpr here]
      exact atMost i
  · rcases (mem_insertCard c d _).mp hd with rfl | old
    · exact currently
    · exact current d old

/-- The cards of a batch, with places for all of them, at their LET room. -/
theorem CardInv.issueCards (p : Port) {i : Slot} {cls : Fin 8} (guest : cls.val < 4) {st : Stay}
    (stay : s.rooms[i].occupancy.stay? = some st) (n : Nat) {left : Nat} (site : s.table.site ≠ 0)
    (room : s.table.cards.length + left ≤ 1024) (few : (s.table.liveOf i).length + left ≤ 8) :
    CardInv (issueCards p i cls st.window n left s).1 := by
  induction left generalizing s with
  | zero => exact inv
  | succ left ih =>
    have kept := inv
    obtain ⟨⟨-, -, -, -, least, most, -⟩, -, counters, -⟩ := kept
    obtain ⟨⟨first, last⟩, free⟩ := CardTable.freeNumber_free (t := s.table) ⟨least, most⟩ (by omega)
    have issue : 1 ≤ nextIssueNumber s.rooms[i].issueCounter ∧ nextIssueNumber s.rooms[i].issueCounter ≤ 65535 := by
      rw [nextIssueNumber_eq]
      split <;> omega
    let c := s.batchCard p i cls st.window n left
    have counted : CardInv (s.setRoom i { s.rooms[i] with issueCounter := c.issueNumber }) :=
      inv.setRoom_same issue.2 rfl rfl
    have same : (s.setRoom i { s.rooms[i] with issueCounter := c.issueNumber }).rooms[i]
        = { s.rooms[i] with issueCounter := c.issueNumber } := by rw [s.getElem_setRoom, if_pos rfl]
    have stays : (s.setRoom i { s.rooms[i] with issueCounter := c.issueNumber }).rooms[i].occupancy.stay? = some st := by
      rw [same]
      exact stay
    have created := counted.create (c := c) ⟨first, last, iff_of_true rfl guest, issue.1, issue.2, nofun⟩ rfl site
      (by show s.table.cards.length < 1024; omega) free (fun j hj => by
        cases hj
        show (s.table.liveOf i).length < 8
        omega) fun b hb _ => by
        cases hb
        exact ⟨(congrArg Room.generation same).symm, st, stays, rfl⟩
    refine ih created stays site ?_ ?_
    · show (s.table.create c).cards.length + left ≤ 1024
      rw [CardTable.create_cards, (insertCard_perm c _).length_eq, List.length_cons]
      omega
    · show ((s.table.create c).liveOf i).length + left ≤ 8
      have le := Bool.toNat_le (c.slot? == some i && !c.isRevoked)
      rw [CardTable.liveOf_create]
      omega

omit inv in
theorem CardTable.admitBatch_eq_none {t : CardTable} {i : Slot} {n : Nat} (admitted : t.admitBatch i n = none) :
    t.site ≠ 0 ∧ (t.liveOf i).length + n ≤ 8 ∧ t.hasSpace n = true := by
  unfold CardTable.admitBatch at admitted
  split at admitted
  · cases admitted
  · rename_i site
    split at admitted
    · cases admitted
    · rename_i few
      split at admitted
      · cases admitted
      · rename_i space
        exact ⟨site, Nat.le_of_not_lt few, by simpa using space⟩

/-- An admitted batch at a LET room. -/
theorem CardInv.issueBatch (p : Port) {i : Slot} {cls : Fin 8} (guest : cls.val < 4) {st : Stay}
    (stay : s.rooms[i].occupancy.stay? = some st) {n : Nat} (admitted : s.table.admitBatch i n = none) :
    CardInv (s.issueBatch p i cls st.window n).1 := by
  obtain ⟨site, few, space⟩ := CardTable.admitBatch_eq_none admitted
  have length := inv.1.reclaim_room space (by omega)
  have fewer := s.table.liveOf_reclaim_le n i
  exact (inv.reclaim n).issueCards p guest stay n site length (by
    show ((s.table.reclaim n).liveOf i).length + n ≤ 8
    omega)

end

end Sys2Proof.Machine
end

section
/-! What each request and event makes of the Credential Table and of the rooms its cards are current at. -/

namespace Sys2Proof.Machine

-- One theorem at a time: each check by the kernel then needs one stack.
set_option Elab.async false

open Sys2Proof

section
variable {s : State} (inv : CardInv s)
include inv

omit inv in
theorem batchClass_lt {cls count : Byte} (fields : batchFields cls count = true) : (batchClass cls).val < 4 := by
  simp only [batchFields, Bool.and_eq_true] at fields
  obtain ⟨k, named⟩ := Option.isSome_iff_exists.mp fields.1
  rw [batchClass, named]
  exact of_decide_eq_true (Option.filter_eq_some_iff.mp named).2

/-! ## Stays -/

theorem CardInv.checkInRoom (p : Port) {i : Slot} {number : Nat} (vacant : s.rooms[i].occupancy = .vacant number) {cls : Fin 8}
    (guest : cls.val < 4) {n : Nat} (admitted : s.table.admitBatch i n = none) (stay : Stay) (allowance : Nat) :
    CardInv (checkInRoom p i number cls n stay allowance s).1 := by
  have moved : CardInv (s.setRoom i { s.rooms[i] with
      generation := (s.rooms[i].generation + 1) % 256, occupancy := .letTo number stay }) :=
    inv.setRoom_notLet (by rw [vacant]; rfl) (inv.counter i)
  have opened := moved.of_same (State.setAccount_same _ i (s.accounts[i].open (clamp 0 Config.allowanceCeiling allowance)))
  refine CardInv.of_same (CardInv.of_same (CardInv.issueBatch (st := stay) opened p guest ?_ admitted) (State.append_same _ _ _ _ _))
    (logIssues_same _ p _ _)
  rw [State.setAccount_rooms, s.getElem_setRoom, if_pos rfl]
  rfl

theorem CardInv.checkIn (p : Port) (slot cls count : Byte) (arrival departure : DayMinute) (allowance : Triple) :
    CardInv (checkIn p slot cls count arrival departure allowance s).1 := by
  refine claimed_keeps inv (fun i _ fields _ => ?_) fun i kept => kept.of_same (State.loadLease_same _ i p)
  split
  · rename_i number vacant
    repeat' split
    · exact inv
    · exact inv
    · exact inv
    · exact inv
    · rename_i admitted
      exact inv.checkInRoom p vacant (batchClass_lt fields) admitted _ _
  · exact inv

theorem CardInv.addCards (p : Port) (slot cls count : Byte) : CardInv (addCards p slot cls count s).1 := by
  refine claimed_keeps inv (fun i _ fields _ => ?_) fun i kept => kept.of_same (State.loadLease_same _ i p)
  split
  · rename_i number stay occupied
    repeat' split
    · exact inv
    · exact inv
    · exact inv
    · rename_i admitted
      have issued := inv.issueBatch p (batchClass_lt fields) (st := stay) (by rw [occupied]; rfl) admitted
      exact issued.of_same (logIssues_same _ p _ _)
  · exact inv

/-- The stay's window and the windows of the room's live cards moved together (R57). -/
theorem CardInv.moveWindows {i : Slot} {r : Room} (counter : r.issueCounter ≤ 65535) (generation : r.generation = s.rooms[i].generation)
    {st : Stay} (stay : r.occupancy.stay? = some st) :
    CardInv { s.setRoom i r with table := s.table.moveWindows i st.window } := by
  obtain ⟨sound, live, counters, current⟩ := inv
  let f (c : Credential) : Credential := if c.slot? == some i && !c.isRevoked then { c with window := st.window } else c
  have slot (c : Credential) : (f c).slot? = c.slot? := by simp only [f]; split <;> rfl
  have revoked (c : Credential) : (f c).isRevoked = c.isRevoked := by simp only [f]; split <;> rfl
  have own (c : Credential) (hc : c ∈ s.table.cards) : (f c).Sound := by
    have sound := sound.2.2.1 c hc
    simp only [f]
    split
    · exact sound
    · exact sound
  refine ⟨sound.map (f := f) (fun c => by simp only [f]; split <;> rfl) own fun c _ => revoked c, fun j => ?_, fun j => ?_,
    fun c hc => ?_⟩
  · exact (CardTable.liveOf_map_le (f := f) rfl slot (fun c h => (revoked c).symm.trans h) j).trans (live j)
  · show ((s.setRoom i r).rooms[j]).issueCounter ≤ 65535
    rw [s.getElem_setRoom]
    split
    · exact counter
    · exact counters j
  · obtain ⟨x, hx, rfl⟩ := List.mem_map.mp hc
    have binding : (f x).binding = x.binding := by simp only [f]; split <;> rfl
    intro b hb alive
    rw [show (if x.slot? == some i && !x.isRevoked then { x with window := st.window } else x : Credential) = f x from rfl, binding] at hb
    have alive : x.isRevoked = false := (revoked x).symm.trans alive
    obtain ⟨oldGeneration, oldStay⟩ := current x hx b hb alive
    have bound : x.slot? = some b.slot := by rw [Credential.slot?, Option.mem_def.mp hb]; rfl
    have after : (s.setRoom i r).rooms[b.slot] = if i = b.slot then r else s.rooms[b.slot] := s.getElem_setRoom i b.slot r
    show b.generation = ((s.setRoom i r).rooms[b.slot]).generation
      ∧ ∃ y ∈ ((s.setRoom i r).rooms[b.slot]).occupancy.stay?, (f x).window = y.window
    by_cases here : i = b.slot
    · rw [after, if_pos here]
      refine ⟨?_, st, stay, ?_⟩
      · rw [generation]
        subst here
        exact oldGeneration
      · simp [f, bound, here, alive]
    · rw [after, if_neg here]
      refine ⟨oldGeneration, ?_⟩
      have same : f x = x := by
        simp only [f]
        rw [if_neg (by simp [bound, Ne.symm here])]
      rw [same]
      exact oldStay

theorem CardInv.changeStay (p : Port) (slot : Byte) (departure : DayMinute) : CardInv (changeStay p slot departure s).1 := by
  refine claimed_keeps inv (fun i _ _ _ => ?_) fun i kept => kept.of_same (State.loadLease_same _ i p)
  split
  · rename_i number stay occupied
    repeat' split
    · exact inv
    · exact inv
    · rename_i w _
      have moved := inv.moveWindows (i := i) (r := { s.rooms[i] with occupancy := .letTo number { stay with
        departure := momentOf departure, window := { start := stay.window.start, stop := w.stop } } }) (inv.counter i) rfl rfl
      exact moved.of_same (State.append_same _ _ _ _ _)
  · exact inv

theorem CardInv.checkOut (p : Port) (slot : Byte) : CardInv (checkOut p slot s).1 := by
  refine claimed_keeps inv (fun i _ _ _ => ?_) fun i kept => kept.of_same (State.loadLease_same _ i p)
  split
  · rename_i number stay occupied
    have revoked := inv.revokeRoom i
    have vacated : CardInv (({ s with table := s.table.revokeAll (s.table.liveOf i) } : State).setRoom i
        { s.rooms[i] with occupancy := .vacant number }) := by
      refine revoked.setRoom (inv.counter i) fun c hc live b hb here => ?_
      have hc : c ∈ (s.table.revokeAll (s.table.liveOf i)).cards := hc
      rw [CardTable.revokeAll_liveOf inv.1.2.1] at hc
      obtain ⟨x, -, rfl⟩ := List.mem_map.mp hc
      by_cases mine : x.slot? = some i ∧ x.isRevoked = false
      · rw [if_pos mine] at live
        cases live
      · rw [if_neg mine] at hb live
        exact absurd ⟨by rw [Credential.slot?, Option.mem_def.mp hb, ← here]; rfl, live⟩ mine
    have closed := vacated.of_same (State.setAccount_same _ i { s.accounts[i] with blocked := true })
    exact ((closed.of_same (State.append_same _ _ _ _ _)).of_same (logRevokes_same _ p _)).of_same (State.endRoomSession_same _ i)
  · exact inv

/-! ## The security office's rooms and units -/

theorem CardInv.configureRoom (slot : Byte) (number : Half) : CardInv (configureRoom slot number s).1 := by
  simp only [Machine.configureRoom]
  repeat' split
  · exact inv
  · exact inv
  · exact inv
  · exact inv
  · exact inv
  · rename_i i _ _ _ notLet notHeld _
    refine inv.setRoom_notLet (Option.eq_none_iff_forall_not_mem.mpr fun st hst => ?_) (inv.counter i)
    revert hst
    cases occupied : s.rooms[i].occupancy with
    | letTo n y => exact absurd occupied (notLet n y)
    | _ => exact nofun

theorem CardInv.removeRoom (slot : Byte) : CardInv (removeRoom slot s).1 := by
  simp only [Machine.removeRoom]
  repeat' split
  · exact inv
  · exact inv
  · exact inv
  · rename_i i _ _ number vacant _ _
    have unused := inv.setRoom_notLet (i := i) (r := { s.rooms[i] with occupancy := .unused }) (by rw [vacant]; rfl) (inv.counter i)
    exact unused.of_same (State.setAccount_same _ i _)
  · exact inv

theorem CardInv.holdRoom (p : Port) (slot : Byte) : CardInv (holdRoom p slot s).1 := by
  refine claimed_keeps inv (fun i _ _ _ => ?_) fun i kept => kept.of_same (State.loadLease_same _ i p)
  split
  · rename_i number vacant
    exact inv.setRoom_notLet (by rw [vacant]; rfl) (inv.counter i)
  · exact inv

theorem CardInv.freeRoom (p : Port) (slot : Byte) : CardInv (freeRoom p slot s).1 := by
  refine claimed_keeps inv (fun i _ _ _ => ?_) fun i kept => kept.of_same (State.loadLease_same _ i p)
  split
  · rename_i number held
    exact inv.setRoom_notLet (by rw [held]; rfl) (inv.counter i)
  · exact inv

theorem CardInv.configureUnit (bus address kind cls slot gate : Byte) : CardInv (configureUnit bus address kind cls slot gate s).1 := by
  simp only [Machine.configureUnit]
  repeat' split
  · exact inv
  · exact inv
  · exact inv
  · exact (((inv.of_same (s.setUnit_same _ _)).of_same (State.setAjar_same _ _ _)).forgetPrivacy _).forgetPrivacy _
  · exact inv

theorem CardInv.removeUnit (bus address : Byte) : CardInv (removeUnit bus address s).1 := by
  simp only [Machine.removeUnit]
  repeat' split
  · exact inv
  · exact inv
  · exact inv
  · exact ((inv.of_same (s.setAjar_same _ _)).forgetPrivacy _).of_same (State.setUnit_same _ _ _)

/-! ## Single cards -/

theorem CardInv.setSite (site : Half) : CardInv (setSite site s).1 := by
  simp only [Machine.setSite]
  split
  · exact inv
  · split
    · exact inv
    · rename_i _ empty
      have none : s.table.cards = [] := by simpa using empty
      obtain ⟨⟨length, ascending, own, -, rest⟩, live, counters, current⟩ := inv
      exact ⟨⟨length, ascending, own, fun _ => none, rest⟩, live, counters, current⟩

theorem CardInv.revokeRecord (p : Port) {c : Credential} (hc : c ∈ s.table.cards) (reason : RevokeReason) :
    CardInv (revokeRecord p c reason s).1 := by
  cases revoked : c.isRevoked with
  | true =>
    cases state : c.state with
    | revoked old => rwa [revokeRecord_revoked state]
    | active => rw [Credential.isRevoked, state] at revoked; cases revoked
    | suspended => rw [Credential.isRevoked, state] at revoked; cases revoked
  | false =>
    rw [revokeRecord_live revoked]
    exact (inv.revoke hc revoked reason).of_same (State.logRevoke_same _ p c reason)

theorem CardInv.revokeRule (p : Port) (card : Triple) (reason : Byte) : CardInv (Machine.revoke p card reason s).1 := by
  simp only [Machine.revoke, revokeFromFo]
  split
  · exact inv
  · split
    · exact inv
    · split
      · exact inv
      · rename_i c found
        have revoked (q : Port) (r : RevokeReason) := inv.revokeRecord q (CardTable.mem_of_find found) r
        split
        · split
          · exact inv
          · split
            · exact inv
            · simp only [renewing]
              split
              · exact (revoked .fo _).of_same (State.loadLease_same _ _ _)
              · exact revoked .fo _
        · exact revoked .se _

theorem CardInv.suspend (p : Port) (card : Triple) : CardInv (suspend p card s).1 := by
  simp only [Machine.suspend]
  repeat' split
  · exact inv
  · exact inv
  · exact inv
  · exact inv
  · rename_i c found _ active
    refine CardInv.of_same (inv.setState (state := .suspended) (fun d hd same => ?_) fun _ => rfl) (State.append_same _ _ _ _ _)
    rw [inv.1.eq_of_number hd (CardTable.mem_of_find found) same, Credential.isRevoked, active]

theorem CardInv.resume (p : Port) (card : Triple) : CardInv (resume p card s).1 := by
  simp only [Machine.resume]
  repeat' split
  · exact inv
  · exact inv
  · exact inv
  · exact inv
  · rename_i c found _ suspended
    refine CardInv.of_same (inv.setState (state := .active) (fun d hd same => ?_) fun _ => rfl) (State.append_same _ _ _ _ _)
    rw [inv.1.eq_of_number hd (CardTable.mem_of_find found) same, Credential.isRevoked, suspended]

omit inv in
theorem CardTable.admitStaff_eq_none {t : CardTable} (admitted : t.admitStaff = none) : t.site ≠ 0 ∧ t.hasSpace 1 = true := by
  unfold CardTable.admitStaff at admitted
  split at admitted
  · cases admitted
  · rename_i site
    split at admitted
    · cases admitted
    · rename_i space
      exact ⟨site, by simpa using space⟩

omit inv in
theorem CardInv.supersede {t : CardTable} (tabled : CardInv { s with table := t }) {old : Option Credential}
    (held : ∀ c ∈ old, c ∈ t.cards) : CardInv { s with table := t.supersede old } := by
  cases old with
  | none => exact tabled
  | some d =>
    simp only [CardTable.supersede]
    split
    · exact tabled
    · rename_i live
      exact tabled.revoke (held d rfl) (Bool.eq_false_of_not_eq_true live) .superseded

theorem CardInv.issueStaffCard (p : Port) {k : Fin 8} (staff : ¬ k.val < 4) (w : Window) (replaced : Nat)
    (admitted : s.table.admitStaff = none) : CardInv (issueStaffCard p k w replaced s).1 := by
  obtain ⟨site, space⟩ := CardTable.admitStaff_eq_none admitted
  have room := inv.1.reclaim_room space (by omega)
  have reclaimed := inv.reclaim 1
  obtain ⟨-, -, -, -, least, most, -⟩ := reclaimed.1
  obtain ⟨⟨first, last⟩, free⟩ := CardTable.freeNumber_free (t := s.table.reclaim 1) ⟨least, most⟩ (by omega)
  have created := reclaimed.create (c := (s.table.reclaim 1).staffCard p k w)
    ⟨first, last, iff_of_false Bool.false_ne_true staff, Nat.le_refl 1, of_decide_eq_true rfl, fun _ => rfl⟩ rfl site
    (by show (s.table.reclaim 1).cards.length < 1024; omega) free nofun nofun
  have held : ∀ c ∈ (s.table.reclaim 1).replacedRecord replaced,
      c ∈ ((s.table.reclaim 1).create ((s.table.reclaim 1).staffCard p k w)).cards := by
    intro c hc
    unfold CardTable.replacedRecord at hc
    split at hc
    · cases hc
    · exact (mem_insertCard _ c _).mpr (.inr (CardTable.mem_of_find hc))
  have superseded := CardInv.supersede created held
  exact (superseded.of_same (logIssues_same _ p _ _)).of_same (logSuperseded_same _ p _)

theorem CardInv.issueStaff (p : Port) (cls : Byte) (start stop : DayMinute) (replaced : Triple) :
    CardInv (issueStaff p cls start stop replaced s).1 := by
  simp only [Machine.issueStaff]
  repeat' split
  · exact inv
  · exact inv
  · exact inv
  · exact inv
  · exact inv
  · exact inv
  · rename_i staff _ _ _ _ _ admitted
    exact inv.issueStaffCard p staff _ _ admitted

theorem CardInv.rule {i : Instr} {p : Port} {rq : Request} {body : List Byte} (request : i.request? = some (p, rq, body))
    (touched : apart [.rooms, .table] (touchedBy rq) = false) : CardInv (ruleOf i s).1 := by
  cases i with
  | checkIn => exact inv.checkIn _ _ _ _ _ _ _
  | addCards => exact inv.addCards _ _ _ _
  | changeStay => exact inv.changeStay _ _ _
  | checkOut => exact inv.checkOut _ _
  | configureRoom => exact inv.configureRoom _ _
  | removeRoom => exact inv.removeRoom _
  | holdRoom => exact inv.holdRoom _ _
  | freeRoom => exact inv.freeRoom _ _
  | configureUnit => exact inv.configureUnit _ _ _ _ _ _
  | removeUnit => exact inv.removeUnit _ _
  | issueStaff => exact inv.issueStaff _ _ _ _ _
  | suspend => exact inv.suspend _ _
  | resume => exact inv.resume _ _
  | setSite => exact inv.setSite _
  | revoke => exact inv.revokeRule _ _ _
  | _ => cases request <;> exact Bool.noConfusion touched

/-! ## Frames and starts -/

theorem CardInv.report (u : UnitId) (r : Report) : CardInv (s.report u r) := by
  simp only [State.report]
  split
  · exact inv.of_same (s.decideOpened_same u _)
  · exact inv.of_same (s.decideOpened_same u _)
  · exact (inv.of_same (s.decideOpened_same u _)).of_same (State.sessionOpened_same _ u)
  · exact inv.of_same (s.decideClosed_same u)
  · exact inv.of_same (s.decideClosed_same u)
  · exact (inv.of_same (s.decideClosed_same u)).of_same (State.sessionClosed_same _ u)
  · exact inv.setPrivacy _ _
  · exact inv.setPrivacy _ _
  · exact inv
  · exact inv.of_same (s.tamper_same u)
  · exact inv.of_same (s.reportItems_same u _ _ _ _)
  · exact inv

omit inv in
theorem CardInv.frameKeeps : FrameKeeps CardInv :=
  CardInv.dependsOn.frameKeeps (fun _ u r inv => inv.report u r) fun x u side _ inv => inv.of_same (x.carryOut_same u side _)

theorem CardInv.beginWarm : CardInv (beginWarm s) := by
  obtain ⟨sound, live, counters, current⟩ := inv
  have rooms (i : Slot) : (Machine.beginWarm s).rooms[i] = { s.rooms[i] with privacy := .unknown } := by
    have all : (Machine.beginWarm s).rooms = s.rooms.map fun r => { r with privacy := .unknown } := rfl
    rw [all]
    simp
  refine ⟨sound, live, fun i => ?_, fun c hc b hb alive => ?_⟩
  · rw [rooms]
    exact counters i
  · rw [rooms]
    exact current c hc b hb alive

omit inv in
theorem CardInv.beginCold (s : State) : CardInv (beginCold s) := by
  have table : (Machine.beginCold s).table = CardTable.cold := rfl
  have rooms : (Machine.beginCold s).rooms = .replicate 128 Room.cold := rfl
  refine ⟨?_, fun i => ?_, fun i => ?_, fun c hc => ?_⟩
  · rw [table]
    exact ⟨Nat.zero_le _, .nil, nofun, fun _ => rfl, Nat.le_refl _, by decide, .nil, nofun, nofun⟩
  · rw [table]
    exact Nat.zero_le _
  · rw [rooms]
    simp [Room.cold]
  · rw [table] at hc
    cases hc

theorem CardInv.event (c : Instr) (touched : apart [.rooms, .table] (touchedByEvent c) = false) : CardInv (eventOf c s) := by
  cases c with
  | answer line frame => exact CardInv.frameKeeps.frameClosed line frame inv
  | ack line frame => exact CardInv.frameKeeps.frameClosed line frame inv
  | warmStart =>
    show CardInv (if s.power.latch then s else Machine.beginWarm s)
    by_cases lost : s.power.latch = true
    · rwa [if_pos lost]
    · rw [if_neg lost]
      exact inv.beginWarm
  | coldStart =>
    show CardInv (if s.power.latch then Machine.beginCold s else s)
    by_cases lost : s.power.latch = true
    · rw [if_pos lost]
      exact .beginCold s
    · rwa [if_neg lost]
  | _ => exact Bool.noConfusion touched

end

end Sys2Proof.Machine

open Sys2Proof Sys2Proof.Machine

/-- Settles O53: live cards stand only at a LET room, at its generation and window, and every operation on the table keeps the revocation
list in step with the records. -/
theorem cardInvariantIsKept : Obligations.CardInvariantIsKept := by
  intro s t inv h
  exact step_keeps CardInv.dependsOn (fun _ _ _ _ request touched _ _ inv => inv.rule request touched)
    (fun c _ touched inv => inv.event c touched) rfl rfl s t inv h

end

section
/-! Steps and commands as wholes, the state after reset, and the claimed requests of the front office (R24). -/

namespace Sys2Proof.Machine

-- One theorem at a time: each check by the kernel then needs one stack.
set_option Elab.async false

open Sys2Proof

/-! ## Every command completes -/

/-- A request's command is its transaction. -/
theorem exec_answered {i : Instr} {p : Port} {rq : Request} {body : List Byte} (request : i.request? = some (p, rq, body)) {s t : State}
    (answered : s.takeRequest rq p (ruleOf i) = t) : exec i s = .next t := by
  rw [exec_eq_takeRequest request, answered]

theorem exec_total (c : Instr) (s : State) : ∃ t, exec c s = .next t := by
  by_cases bytes : ∃ p b, c = .badRequest p b
  · obtain ⟨p, b, rfl⟩ := bytes
    show ∃ t, execBadRequest p b s = .next t
    simp only [execBadRequest]
    split
    · exact ⟨_, rfl⟩
    · rename_i i held
      obtain ⟨rq, body, request⟩ := request_of_examine held
      exact ⟨_, (carryRequest_eq_exec request s).trans (exec_eq_takeRequest request s)⟩
    · exact ⟨_, rfl⟩
    · exact ⟨_, rfl⟩
  · cases request : c.request? with
    | none => exact ⟨_, exec_eq_eventOf request (fun p b same => bytes ⟨p, b, same⟩) s⟩
    | some x => exact ⟨_, exec_eq_takeRequest (p := x.1) (rq := x.2.1) (body := x.2.2) request s⟩

theorem exec_pending {c : Instr} {s t : State} (h : exec c s = .next t) : t.pending = s.pending := by
  by_contra changed
  rcases touched_of_changed h (f := .pending) nofun changed with ⟨rq, -, touched⟩ | touched
  · cases rq <;> simp [touchedBy] at touched
  · exact apart_iff.mp (touchedByEvent_pending c) _ (List.mem_singleton_self _) touched

/-! ## The state after reset -/

/-- Reset is the end of a cold start with the line deasserted (R201; log entry 1). -/
theorem State.reset_eq : (beginCold State.reset).commitStart .cold = State.reset := rfl

theorem State.reset_inv : Inv State.reset := by
  have committed : State.SameBut [.phase, .supply, .tallies, .wing, .log] (beginCold State.reset) State.reset :=
    (beginCold State.reset).commitStart_same .cold
  have gates := ((State.GatesSound.beginCold State.reset).commitStart rfl).sound
  have units := ((State.UnitsSound.beginCold State.reset).commitStart rfl).sound
  have links : State.reset.LinksSound := State.LinksSound.fresh rfl rfl rfl
  exact {
    clock := by decide
    room := RoomInv.dependsOn.of_same committed (RoomInv.cold _)
    claim := links.1
    account := (AccountInv.cold _).of_same committed
    schedule := gates.1
    output := gates.2
    unit := units.1
    timer := (TimerInv.beginCold _).of_same committed
    tally := units.2
    port := links.2
    log := EntryLog.cold_sound
    bus := ⟨BusState.start_sound .a, BusState.start_sound .b⟩
    card := (CardInv.beginCold _).of_same committed
    power := ⟨fun b hb => by cases hb; rfl, nofun⟩ }

/-! ## The claimed requests of the front office (R24) -/

theorem indexOf?_eq_some {b : Byte} (h : b.toNat < 8) : indexOf? b = some ⟨b.toNat, h⟩ := by simp [indexOf?, h]

theorem batchFields_iff (cls count : Byte) :
    batchFields cls count = true ↔ cls.toNat < 4 ∧ 1 ≤ count.toNat ∧ count.toNat ≤ 8 := by
  have guest : (guestClass? cls).isSome = true ↔ cls.toNat < 4 := by
    by_cases known : cls.toNat < 8
    · rw [guestClass?, indexOf?_eq_some known]
      simp [Option.filter]
    · rw [guestClass?, indexOf?_eq_none (by omega)]
      simp
      omega
  simp [batchFields, guest]

theorem State.takeRequest_claimed_badField {s : State} {rq : Request} {p : Port} {slot : Byte} {rule : Slot → State → Reply}
    (ready : s.Ready rq p) : s.takeRequest rq p (claimed p slot false rule) = s.withAnswer rq p .badValue [] :=
  State.takeRequest_refused ready (claimed_badField rule)

end Sys2Proof.Machine

open Sys2Proof Sys2Proof.Machine

/-- Settles O1, from the definition of a step. -/
theorem stepRunsFrontCommand : Obligations.StepRunsFrontCommand := by
  refine ⟨fun c rest s => rfl, fun s empty => ?_⟩
  simp only [step, empty]

/-- Settles O2: a command is a request transaction, a transaction that fails its checks, or an event, and none touches the queue. -/
theorem everyCommandCompletes : Obligations.EveryCommandCompletes := by
  intro c s
  obtain ⟨t, h⟩ := exec_total c s
  exact ⟨t, h, exec_pending h⟩

/-- Settles O51: reset is a cold start that has ended, and a cold start sets every block to its cold-start values. -/
theorem resetMeetsTheInvariants : Obligations.ResetMeetsTheInvariants := State.reset_inv

/-- Settles O22: the slot, the fields and the claim are checked before the rule of the request is looked at. -/
theorem claimedRequestsNeedTheClaim : Obligations.ClaimedRequestsNeedTheClaim := by
  intro s slot cls count a d allowance
  refine ⟨fun bad ready => ?_, fun bad ready => ?_, ?_⟩
  · refine ⟨exec_answered rfl ?_, exec_answered rfl ?_, exec_answered rfl ?_, exec_answered rfl ?_, exec_answered rfl ?_⟩
    all_goals exact State.takeRequest_claimed_badSlot ready bad
  · have fields : batchFields cls count = false := by
      refine Bool.eq_false_of_not_eq_true fun ok => ?_
      have ok := (batchFields_iff cls count).mp ok
      omega
    refine ⟨exec_answered rfl ?_, exec_answered rfl ?_⟩
    · show s.takeRequest .checkIn .fo (checkIn .fo slot cls count a d allowance) = _
      rw [checkIn, fields]
      exact State.takeRequest_claimed_badField ready
    · show s.takeRequest .addCards .fo (addCards .fo slot cls count) = _
      rw [addCards, fields]
      exact State.takeRequest_claimed_badField ready
  · rintro i rfl other ready
    refine ⟨fun guest least most => ?_, exec_answered rfl ?_, exec_answered rfl ?_, exec_answered rfl ?_⟩
    · have fields : batchFields cls count = true := (batchFields_iff cls count).mpr ⟨guest, least, most⟩
      refine ⟨exec_answered rfl ?_, exec_answered rfl ?_⟩
      · show s.takeRequest .checkIn .fo (checkIn .fo (slotByte i) cls count a d allowance) = _
        rw [checkIn, fields]
        exact State.takeRequest_claimed_notHeld ready other
      · show s.takeRequest .addCards .fo (addCards .fo (slotByte i) cls count) = _
        rw [addCards, fields]
        exact State.takeRequest_claimed_notHeld ready other
    all_goals exact State.takeRequest_claimed_notHeld ready other

end

section
/-! Response transactions (R182, R185) and the expiry of a port's link supervision (R193). -/

namespace Sys2Proof.Machine

-- One theorem at a time: each check by the kernel then needs one stack.
set_option Elab.async false

open Sys2Proof

/-! ## Response transactions -/

theorem Fixed.bytes_length (f : Fixed) : f.bytes.length = 4 + f.body.length := by
  simp [Fixed.bytes, be, byte]
  omega

theorem Fixed.sentBytes_full {f : Fixed} {n : Nat} (full : 4 + f.body.length ≤ n) :
    f.sentBytes n = f.bytes ++ List.replicate (n - (4 + f.body.length)) 0 := by
  rw [Fixed.sentBytes, List.take_of_length_le (by rwa [f.bytes_length]), f.bytes_length]

theorem Fixed.sentBytes_short {f : Fixed} {n : Nat} (short : n < 4 + f.body.length) : f.sentBytes n = f.bytes.take n := by
  rw [Fixed.sentBytes, f.bytes_length, Nat.sub_eq_zero_of_le (Nat.le_of_lt short), List.replicate_zero, List.append_nil]

theorem Fixed.readInFull_iff (f : Fixed) (n : Nat) : f.readInFull n = true ↔ 4 + f.body.length ≤ n := by
  rw [Fixed.readInFull, f.bytes_length, decide_eq_true_iff]

theorem PortState.readOut_none {q : PortState} {f : Fixed} (none : f.status = .none) : q.readOut f = q := if_pos none

theorem PortState.readOut_some {q : PortState} {f : Fixed} (some : f.status ≠ .none) :
    q.readOut f = { q with slot := none, overrun := q.overrun && !f.overrun, attn := decide (q.events ≠ []) } := by
  rw [PortState.readOut, if_neg some]
  cases carried : f.overrun <;> cases waiting : q.events <;> simp [PortState.withAttn, PortState.attnLevel]

section
variable {s : State} {p : Port} (running : s.running = true)
include running

theorem rspByteReceived_running : rspByteReceived p s = s.setPort p { s.port p with fixed := some (s.port p).fix } := by
  rw [rspByteReceived, running]
  rfl

theorem responseTransaction_running (n : Nat) :
    responseTransaction p n s = s.setPort p
      { (if ((s.port p).fixed.getD (s.port p).fix).readInFull n
          then (s.port p).readOut ((s.port p).fixed.getD (s.port p).fix) else s.port p) with
        fixed := none, sent := ((s.port p).fixed.getD (s.port p).fix).sentBytes n } := by
  rw [responseTransaction, running]
  rfl

variable {f : Fixed} (fixed : (s.port p).fixed = some f) {n : Nat}
include fixed

theorem responseTransaction_full (full : 4 + f.body.length ≤ n) :
    responseTransaction p n s = s.setPort p { (s.port p).readOut f with
      fixed := none, sent := f.bytes ++ List.replicate (n - (4 + f.body.length)) 0 } := by
  rw [responseTransaction_running running, fixed, Option.getD_some, if_pos ((f.readInFull_iff n).mpr full),
    Fixed.sentBytes_full full]

theorem responseTransaction_short (short : n < 4 + f.body.length) :
    responseTransaction p n s = s.setPort p { s.port p with fixed := none, sent := f.bytes.take n } := by
  rw [responseTransaction_running running, fixed, Option.getD_some,
    if_neg fun full => Nat.not_le_of_lt short ((f.readInFull_iff n).mp full), Fixed.sentBytes_short short]

end

/-- With no RSP byte announced before, the response is fixed within the transaction itself (log entry 25). -/
theorem responseTransaction_fixes {s : State} {p : Port} (running : s.running = true) (unfixed : (s.port p).fixed = none) (n : Nat) :
    responseTransaction p n s = responseTransaction p n (s.setPort p { s.port p with fixed := some (s.port p).fix }) := by
  have running' : (s.setPort p { s.port p with fixed := some (s.port p).fix }).running = true := by cases p <;> exact running
  have kept (q : PortState) (f : Fixed) (sent : List Byte) :
      ({ ({ q with fixed := some f } : PortState).readOut f with fixed := none, sent := sent } : PortState)
        = { q.readOut f with fixed := none, sent := sent } := by
    simp only [PortState.readOut]
    split <;> rfl
  have fixed : (s.setPort p { s.port p with fixed := some (s.port p).fix }).port p
      = { s.port p with fixed := some (s.port p).fix } := s.setPort_port p _
  rw [responseTransaction_running running, responseTransaction_running running', unfixed, fixed, State.setPort_setPort,
    Option.getD_none, Option.getD_some]
  split
  · rw [kept]
  · rfl

/-- What is fixed of a port's slot and flags (R185). -/
theorem PortState.fix_eq (q : PortState) :
    q.fix = { status := (q.slot.map Response.status).getD .none, overrun := q.overrun, eventsPending := decide (q.events ≠ [])
              eventsLost := q.eventsLost, body := (q.slot.map Response.body).getD [] } := by
  cases slot : q.slot <;> cases events : q.events <;> simp [PortState.fix, slot, events]

/-! ## The expiry of a port's supervision (R193) -/

theorem State.holder_setClaim_other {s : State} {i j : Slot} (other : j ≠ i) (c : Option Claim) : (s.setClaim i c).holder j = s.holder j := by
  rw [State.holder, State.setClaim_claims, getElem_set_other _ _ other, State.holder]

/-- Freeing the claims of a lost link one by one frees those it held before. -/
theorem freeForLink_foldl (p : Port) {slots : List Slot} (nodup : slots.Nodup) (s : State) :
    slots.foldl (freeForLink p) s
      = (slots.filter fun i => s.holder i == some p).foldl (fun x i => (x.setClaim i none).raise p (.claimLost i .link)) s := by
  induction slots generalizing s with
  | nil => rfl
  | cons i slots ih =>
    obtain ⟨fresh, nodup⟩ := List.nodup_cons.mp nodup
    rw [List.foldl_cons, ih nodup]
    by_cases held : s.holder i = some p
    · have freed : freeForLink p s i = (s.setClaim i none).raise p (.claimLost i .link) := if_pos held
      have same : slots.filter (fun j => (freeForLink p s i).holder j == some p) = slots.filter fun j => s.holder j == some p := by
        refine List.filter_congr fun j hj => ?_
        rw [freed, State.raise_holder, State.holder_setClaim_other (fun here : j = i => fresh (here ▸ hj))]
      rw [same, List.filter_cons_of_pos (by simpa using held), List.foldl_cons, freed]
    · have kept : freeForLink p s i = s := if_neg held
      rw [kept, List.filter_cons_of_neg (by simpa using held)]

theorem expireSupervision_due {s : State} {p : Port} (running : s.running = true) (due : (s.port p).timer = some 0)
    (up : (s.port p).linkLost = false) : expireSupervision p s = s.superviseExpire p := by
  rw [expireSupervision, running, due, up]
  rfl

theorem expireSupervision_notDue {s : State} {p : Port} (runs : (s.port p).timer ≠ some 0) : expireSupervision p s = s := by
  rw [expireSupervision, decide_eq_false runs]
  simp

end Sys2Proof.Machine

open Sys2Proof Sys2Proof.Machine

/-- Settles O7: the response fixed is what is sent, and one other than NONE that is read in full empties the slot. -/
theorem responseTransactionReadsSlot : Obligations.ResponseTransactionReadsSlot := by
  refine fun s p => ⟨fun _ => rfl, fun stopped => ⟨?_, fun n => ?_⟩, fun running => ?_,
    fun running unfixed n => congrArg Host.Outcome.next (responseTransaction_fixes running unfixed n),
    fun running f n fixed => ⟨fun full some => ?_, fun full none => ?_, fun short => ?_⟩⟩
  · exact congrArg Host.Outcome.next (by simp [rspByteReceived, stopped])
  · exact congrArg Host.Outcome.next (by simp [responseTransaction, stopped])
  · rw [← (s.port p).fix_eq]
    exact congrArg Host.Outcome.next (rspByteReceived_running running)
  · refine congrArg Host.Outcome.next ?_
    rw [responseTransaction_full running fixed full, PortState.readOut_some some]
  · refine congrArg Host.Outcome.next ?_
    rw [responseTransaction_full running fixed full, PortState.readOut_none none]
  · exact congrArg Host.Outcome.next (responseTransaction_short running fixed short)

/-- Settles O10: the five steps of R193 in their order, the claims freed being those the port held before. -/
theorem supervisionExpires : Obligations.SupervisionExpires := by
  refine fun s p => ⟨?_, fun running due up => congrArg Host.Outcome.next (expireSupervision_due running due up),
    fun runs => congrArg Host.Outcome.next (expireSupervision_notDue runs)⟩
  intro held lost freed yielding
  have holder (i : Slot) : lost.holder i = s.holder i := by cases p <;> rfl
  have same : (allSlots.filter fun i => lost.holder i == some p) = held := List.filter_congr fun i _ => by rw [holder]
  have free : lost.freeClaims p = freed := by
    rw [State.freeClaims, freeForLink_foldl p (slots := allSlots) (List.nodup_finRange 128), same]
  have count : lost.claimCount p = held.length := by rw [State.claimCount, List.countP_eq_length_filter, same]
  have log : freed.log = s.log := by
    have kept : (lost.freeClaims p).log = lost.log := (lost.freeClaims_same p).agree .log
    rw [← free, kept]
    cases p <;> rfl
  have expired : s.superviseExpire p = (({ lost.freeClaims p with
      log := (lost.freeClaims p).log.setReader p { (lost.freeClaims p).log.reader p with policy := .yields } } : State).append
        (.port p) none none (.linkExpired (lost.claimCount p) ((lost.freeClaims p).log.reader p).policy)).raise
      (otherPort p) .peerLinkLost := rfl
  rw [expired, free, count]
  simp only [yielding, log]

end

section
/-! The bytes of a request's transaction and the request they hold (R183, chapter 11.4): each field reads back from the bytes it is
sent in, and a body of the right length is the bytes of the fields read from it. -/

namespace Sys2Proof

-- One theorem at a time: each check by the kernel then needs one stack.
set_option Elab.async false

/-! ## Codes -/

theorem Request.ofCode?_code (r : Request) : Request.ofCode? r.code = some r := by
  cases r <;> rfl

theorem Request.code_of_ofCode? {n : Nat} {r : Request} (h : Request.ofCode? n = some r) : r.code = n := by
  simpa using List.find?_some (p := fun r : Request => r.code == n) h

theorem Request.ofCode?_eq_none {n : Nat} (h : ∀ r : Request, r.code ≠ n) : Request.ofCode? n = none :=
  List.find?_eq_none.mpr fun r _ same => h r (beq_iff_eq.mp same)

theorem Request.code_toNat (r : Request) : (BitVec.ofNat 8 r.code).toNat = r.code := by
  cases r <;> rfl

theorem Request.bodyLength_toNat (r : Request) : (BitVec.ofNat 8 r.bodyLength).toNat = r.bodyLength := by
  cases r <;> rfl

theorem Request.bodyLength_le (r : Request) : r.bodyLength ≤ 250 := by
  cases r <;> decide

end Sys2Proof

namespace Sys2Proof.Machine

set_option Elab.async false

open Sys2Proof

/-! ## Fields -/

/-- A two-byte field is its high byte followed by its low byte. -/
theorem half_bytes (h : Half) : (h.extractLsb' 8 8 ++ h.extractLsb' 0 8 : Half) = h := by
  ext i
  grind

/-- A three-byte field is its three bytes, high byte first. -/
theorem triple_bytes (t : Triple) : (t.extractLsb' 16 8 ++ t.extractLsb' 8 8 ++ t.extractLsb' 0 8 : Triple) = t := by
  ext i
  grind

theorem high_append (a b : Byte) : (a ++ b : Half).extractLsb' 8 8 = a := by
  ext i
  grind

theorem low_append (a b : Byte) : (a ++ b : Half).extractLsb' 0 8 = b := by
  ext i
  grind

theorem halfBytes_halfAt (b : List Byte) (n : Nat) : halfBytes (halfAt b n) = [byteAt b n, byteAt b (n + 1)] := by
  simp [halfBytes, halfAt, high_append, low_append]

theorem tripleBytes_tripleAt (b : List Byte) (n : Nat) :
    tripleBytes (tripleAt b n) = [byteAt b n, byteAt b (n + 1), byteAt b (n + 2)] := by
  have high (x y z : Byte) : (x ++ y ++ z : Triple).extractLsb' 16 8 = x := by
    ext i
    grind
  have middle (x y z : Byte) : (x ++ y ++ z : Triple).extractLsb' 8 8 = y := by
    ext i
    grind
  have low (x y z : Byte) : (x ++ y ++ z : Triple).extractLsb' 0 8 = z := by
    ext i
    grind
  simp [tripleBytes, tripleAt, halfAt, high, middle, low]

/-- A body is the bytes at its positions. -/
theorem bytesAt_eq {b : List Byte} {n : Nat} (h : b.length = n) : (List.range n).map (byteAt b) = b := by
  subst h
  refine List.ext_getElem (by simp) fun k inside _ => ?_
  simp at inside
  simp [byteAt, inside]

/-! ## A whole body -/

/-- The twelve prices read back from the bytes they are sent in. -/
theorem halfAt_flatMap (l : List Half) (k : Nat) : halfAt (l.flatMap halfBytes) (2 * k) = l.getD k 0 := by
  induction l generalizing k with
  | nil => simp [halfAt, byteAt]
  | cons h l ih =>
    cases k with
    | zero => exact half_bytes h
    | succ k => exact ih k

theorem request_bodyLength {i : Instr} {p : Port} {rq : Request} {body : List Byte} (request : i.request? = some (p, rq, body)) :
    body.length = rq.bodyLength := by
  cases i <;> cases request
  case setPrices prices => simp [halfBytes, Request.bodyLength]
  all_goals rfl

/-- A request reads back from the body it is sent in. -/
theorem readBody_sent {i : Instr} {p : Port} {rq : Request} {body : List Byte} (request : i.request? = some (p, rq, body)) :
    readBody p body rq = i := by
  cases i <;> cases request
  case setPrices prices =>
    refine congrArg (Instr.setPrices p) (Vector.ext fun k inside => ?_)
    simp [halfAt_flatMap]
  all_goals
    simp [readBody, dayMinuteAt, tripleAt, halfAt, byteAt, DayMinute.bytes, halfBytes, tripleBytes, half_bytes, triple_bytes]

/-- The request read from a body is sent in the bytes that were read. -/
theorem readBody_request?_bytes (p : Port) (body : List Byte) (rq : Request) :
    (readBody p body rq).request? = some (p, rq, (List.range rq.bodyLength).map (byteAt body)) := by
  cases rq
  case setPrices =>
    simp [readBody, Instr.request?, Vector.toList_ofFn, List.ofFn_succ, halfBytes_halfAt, Request.bodyLength, List.range_succ]
  all_goals
    simp [readBody, Instr.request?, dayMinuteAt, DayMinute.bytes, halfBytes_halfAt, tripleBytes_tripleAt, Request.bodyLength,
      List.range_succ]

/-- The request read from a body of the right length is sent in that body. -/
theorem readBody_request?_self (p : Port) {body : List Byte} {rq : Request} (sized : body.length = rq.bodyLength) :
    (readBody p body rq).request? = some (p, rq, body) := by
  rw [readBody_request?_bytes, bytesAt_eq sized]

/-! ## Transactions -/

theorem examine_transactionBytes (p : Port) {rq : Request} {body : List Byte} (sized : body.length = rq.bodyLength) :
    examine p (transactionBytes rq body) = .request (readBody p body rq) := by
  have fits : ¬ (250 < rq.bodyLength ∨ body.length ≠ rq.bodyLength) := by
    have := rq.bodyLength_le
    omega
  simp only [examine, transactionBytes, List.cons_append, List.nil_append, if_true, examineRequest, Request.bodyLength_toNat,
    Request.code_toNat, Request.ofCode?_code, if_neg fits, ne_eq, not_true, if_false]

theorem examine_encode {i : Instr} {p : Port} {bytes : List Byte} (sent : encode i = some (p, bytes)) :
    examine p bytes = .request i := by
  obtain ⟨⟨q, rq, body⟩, request, same⟩ := Option.map_eq_some_iff.mp sent
  cases same
  show examine q (transactionBytes rq body) = _
  rw [examine_transactionBytes q (request_bodyLength request), readBody_sent request]

theorem encode_examine {i : Instr} {p : Port} {bytes : List Byte} (held : examine p bytes = .request i) :
    encode i = some (p, bytes) := by
  obtain ⟨rest, rfl, held⟩ := examine_eq_request held
  obtain ⟨code, length, body, rq, rfl, whole, sized, known, rfl⟩ := examineRequest_eq_request held
  simp [encode, readBody_request?_self p (whole.trans sized), transactionBytes, Request.code_of_ofCode? known, ← sized]

end Sys2Proof.Machine

open Sys2Proof Sys2Proof.Machine

/-- Settles O3: every field reads back from its bytes, and every body of the right length is its fields' bytes. -/
theorem requestBytesAndRequestsAgree : Obligations.RequestBytesAndRequestsAgree := by
  unfold Obligations.RequestBytesAndRequestsAgree
  exact fun _ _ _ => ⟨examine_encode, encode_examine⟩

end

section
/-! BAD_REQUEST (R183, log entry 14): what the checks make of the bytes, and what is done with the transaction. -/

namespace Sys2Proof.Machine

-- One theorem at a time: each check by the kernel then needs one stack.
set_option Elab.async false

open Sys2Proof

/-! ## The checks 1 to 3 -/

theorem examine_reqByte (p : Port) (rest : List Byte) : examine p (reqByte :: rest) = examineRequest p rest := rfl

theorem examineRequest_short (p : Port) {rest : List Byte} (short : rest.length < 2) : examineRequest p rest = .bad .badLength := by
  match rest with
  | [] | [_] => rfl
  | _ :: _ :: rest => simp at short

section
variable (p : Port) {code length : Byte} {body : List Byte}

theorem examineRequest_misfit (misfit : 250 < length.toNat ∨ body.length ≠ length.toNat) :
    examineRequest p (code :: length :: body) = .bad .badLength := if_pos misfit

variable (fits : length.toNat ≤ 250) (whole : body.length = length.toNat)
include fits whole

theorem examineRequest_fits : examineRequest p (code :: length :: body)
    = match Request.ofCode? code.toNat with
      | none => .bad .badRequest
      | some r => if length.toNat ≠ r.bodyLength then .bad .badLength else .request (readBody p body r) :=
  if_neg (by omega)

theorem examineRequest_unknown (unknown : ∀ r : Request, r.code ≠ code.toNat) :
    examineRequest p (code :: length :: body) = .bad .badRequest := by
  rw [examineRequest_fits p fits whole, Request.ofCode?_eq_none unknown]

theorem examineRequest_otherLength (r : Request) (other : length.toNat ≠ r.bodyLength) :
    examineRequest p (BitVec.ofNat 8 r.code :: length :: body) = .bad .badLength := by
  rw [examineRequest_fits p fits whole, Request.code_toNat, Request.ofCode?_code]
  exact if_pos other

end

/-- A transaction that begins with REQ is a request, or fails a check. -/
theorem examineRequest_cases (p : Port) (rest : List Byte) :
    (∃ st, examineRequest p rest = .bad st) ∨ ∃ i, examineRequest p rest = .request i := by
  match rest with
  | [] | [_] => exact .inl ⟨_, rfl⟩
  | code :: length :: body =>
    simp only [examineRequest]
    split
    · exact .inl ⟨_, rfl⟩
    · split
      · exact .inl ⟨_, rfl⟩
      · split
        · exact .inl ⟨_, rfl⟩
        · exact .inr ⟨_, rfl⟩

/-- A request's transaction clocks two bytes and the body after REQ. -/
theorem length_of_examineRequest {p : Port} {rest : List Byte} {i : Instr} (held : examineRequest p rest = .request i) :
    ∃ rq body, i.request? = some (p, rq, body) ∧ rest.length = 2 + rq.bodyLength := by
  obtain ⟨_, _, body, rq, rfl, whole, sized, -, rfl⟩ := examineRequest_eq_request held
  exact ⟨rq, body, readBody_request?_self p (whole.trans sized), by simp; omega⟩

/-! ## What is done with the transaction -/

/-- A request discarded while the response slot is full (R184). -/
theorem State.sendZeros_overrun (s : State) (p : Port) (n : Nat) :
    (s.sendZeros p n).overrun p = s.setPort p { s.port p with overrun := true, sent := List.replicate n 0 } := by
  simp [State.sendZeros, State.overrun]

theorem takeBad_answered {s : State} {p : Port} (running : s.running = true) (empty : (s.port p).slot = none) (n : Nat) (st : Status) :
    takeBad p n st s = s.withResponse p n st [] := by
  rw [← State.respond_sendZeros]
  simp [takeBad, running, empty]

theorem takeBad_full {s : State} {p : Port} (running : s.running = true) (full : (s.port p).slot.isSome = true) (n : Nat) (st : Status) :
    takeBad p n st s = s.setPort p { s.port p with overrun := true, sent := List.replicate n 0 } := by
  rw [← State.sendZeros_overrun]
  simp [takeBad, running, full]

theorem takeBad_notRunning {s : State} (stopped : s.running = false) (p : Port) (n : Nat) (st : Status) : takeBad p n st s = s := by
  simp [takeBad, stopped]

theorem exec_badRequest_bad {p : Port} {rest : List Byte} {st : Status} (bad : examineRequest p rest = .bad st) (s : State) :
    exec (.badRequest p (reqByte :: rest)) s = .next (takeBad p rest.length st s) := by
  show execBadRequest p (reqByte :: rest) s = _
  rw [execBadRequest, examine_reqByte, bad]
  rfl

/-- Bytes that hold a request are carried out as that request. -/
theorem exec_badRequest_request {p : Port} {bytes : List Byte} {i : Instr} (held : examine p bytes = .request i) (s : State) :
    exec (.badRequest p bytes) s = exec i s := by
  obtain ⟨rq, body, request⟩ := request_of_examine held
  show execBadRequest p bytes s = _
  rw [execBadRequest, held]
  exact carryRequest_eq_exec request s

theorem exec_badRequest_full {s : State} {p : Port} (running : s.running = true) (full : (s.port p).slot.isSome = true)
    (rest : List Byte) :
    exec (.badRequest p (reqByte :: rest)) s
      = .next (s.setPort p { s.port p with overrun := true, sent := List.replicate rest.length 0 }) := by
  rcases examineRequest_cases p rest with ⟨st, bad⟩ | ⟨i, held⟩
  · rw [exec_badRequest_bad bad, takeBad_full running full]
  · obtain ⟨rq, body, request, sized⟩ := length_of_examineRequest held
    rw [exec_badRequest_request (bytes := reqByte :: rest) held, exec_eq_takeRequest request, State.takeRequest_full _ running full, sized]

/-- Bytes whose first is not REQ make no request transaction. -/
theorem exec_badRequest_other (p : Port) {bytes : List Byte} (other : bytes.head? ≠ some 0xA5) (s : State) :
    exec (.badRequest p bytes) s = .next s := by
  show execBadRequest p bytes s = _
  match bytes with
  | [] => rfl
  | first :: rest =>
    have notReq : first ≠ reqByte := fun same => other (congrArg some same)
    rw [execBadRequest, examine, if_neg notReq]
    by_cases rsp : first = rspByte
    · rw [if_pos rsp]
    · rw [if_neg rsp]

theorem exec_badRequest_notRunning {s : State} (stopped : s.running = false) (p : Port) (bytes : List Byte) :
    exec (.badRequest p bytes) s = .next s := by
  by_cases other : bytes.head? ≠ some 0xA5
  · exact exec_badRequest_other p other s
  · obtain ⟨rest, rfl⟩ : ∃ rest, bytes = reqByte :: rest := List.head?_eq_some_iff.mp (not_not.mp other)
    rcases examineRequest_cases p rest with ⟨st, bad⟩ | ⟨i, held⟩
    · rw [exec_badRequest_bad bad, takeBad_notRunning stopped]
    · obtain ⟨rq, body, request, -⟩ := length_of_examineRequest held
      rw [exec_badRequest_request (bytes := reqByte :: rest) held, exec_eq_takeRequest request, State.takeRequest_stopped _ _ _ stopped]

end Sys2Proof.Machine

open Sys2Proof Sys2Proof.Machine

/-- Settles O4: each outcome of the checks 1 to 3 is answered as `takeBad` says; bytes that pass are the request they hold. -/
theorem badRequestIsAnswered : Obligations.BadRequestIsAnswered := by
  unfold Obligations.BadRequestIsAnswered
  intro s p
  refine ⟨fun running empty => ?_, exec_badRequest_full, exec_badRequest_notRunning (p := p), fun _ other =>
    exec_badRequest_other p other s⟩
  have refused {rest : List Byte} {st : Status} (bad : examineRequest p rest = .bad st) :
      exec (.badRequest p (reqByte :: rest)) s = .next (s.withResponse p rest.length st []) := by
    rw [exec_badRequest_bad bad, takeBad_answered running empty]
  have refusedBody {code length : Byte} {body : List Byte} {st : Status} (bad : examineRequest p (code :: length :: body) = .bad st) :
      exec (.badRequest p (reqByte :: code :: length :: body)) s = .next (s.withResponse p (2 + body.length) st []) := by
    rw [refused bad, List.length_cons, List.length_cons, Nat.add_comm 2]
  exact ⟨fun _ short => refused (examineRequest_short p short),
    fun _ _ _ misfit => refusedBody (examineRequest_misfit p misfit),
    fun _ _ _ fits whole unknown => refusedBody (examineRequest_unknown p fits whole unknown),
    fun r _ _ fits whole other => refusedBody (examineRequest_otherLength p fits whole r other),
    fun _ _ sent => exec_badRequest_request (examine_encode sent) s⟩

end

section
/-! The answer to a request (R183, R184, R188): its status is never NONE, a refusal changes nothing, and no rule touches the other
port but through events. -/

namespace Sys2Proof.Machine

-- One theorem at a time: each check by the kernel then needs one stack.
set_option Elab.async false

open Sys2Proof

/-! ## What a rule answers -/

/-- A rule's answer to a request is never NONE, and a refusal leaves the state as it was (R188). -/
def Reply.Honest (s : State) (r : Reply) : Prop := r.2.status ≠ .none ∧ (r.2.status ≠ .ok → r.1 = s)

@[simp] theorem honest_refuse (s : State) (st : Status) : Reply.Honest s (refuse st s) ↔ st ≠ .none := by
  simp [Reply.Honest, refuse]

@[simp] theorem honest_refusal (s : State) (st : Status) (body : List Byte) :
    Reply.Honest s (s, { status := st, body := body }) ↔ st ≠ .none := by
  simp [Reply.Honest]

@[simp] theorem honest_accept (s t : State) (body : List Byte) : Reply.Honest s (accept t body) := by
  simp [Reply.Honest, accept]

theorem Reply.Honest.renewing {s : State} {r : Reply} (honest : Reply.Honest s r) (p : Port) (i : Slot) :
    Reply.Honest s (renewing p i r) := by
  simp only [Machine.renewing]
  split
  · rename_i ok
    exact ⟨honest.1, fun failed => absurd ok failed⟩
  · exact honest

theorem honest_claimed {rule : Slot → State → Reply} {s : State} (honest : ∀ i, Reply.Honest s (rule i s)) (p : Port) (slot : Byte)
    (ok : Bool) : Reply.Honest s (claimed p slot ok rule s) := by
  simp only [claimed]
  split
  · simp
  · split
    · simp
    · split
      · simp
      · exact (honest _).renewing p _

theorem honest_revokeRecord (p : Port) (c : Credential) (reason : RevokeReason) (s : State) :
    Reply.Honest s (revokeRecord p c reason s) := by
  simp only [revokeRecord]
  split <;> simp

theorem CardTable.replaceCheck_ne {t : CardTable} {n : Nat} {st : Status} (refused : t.replaceCheck n = some st) : st ≠ .none := by
  simp only [CardTable.replaceCheck] at refused
  rintro rfl
  split at refused
  · cases refused
  · split at refused
    · cases refused
    · split at refused <;> cases refused

theorem CardTable.admitStaff_ne {t : CardTable} {st : Status} (refused : t.admitStaff = some st) : st ≠ .none := by
  simp only [CardTable.admitStaff] at refused
  rintro rfl
  split at refused
  · cases refused
  · split at refused <;> cases refused

theorem CardTable.admitBatch_ne {t : CardTable} {i : Slot} {n : Nat} {st : Status} (refused : t.admitBatch i n = some st) :
    st ≠ .none := by
  simp only [CardTable.admitBatch] at refused
  rintro rfl
  repeat' split at refused
  all_goals cases refused

/-- Every request but KEEPALIVE answers with a status other than NONE, and changes nothing where it refuses. -/
theorem ruleOf_honest {i : Instr} {p : Port} {rq : Request} {body : List Byte} (request : i.request? = some (p, rq, body))
    (notKeepalive : rq ≠ .keepalive) (s : State) : Reply.Honest s (ruleOf i s) := by
  cases i <;> cases request
  case keepalive => exact absurd rfl notKeepalive
  case checkIn =>
    refine honest_claimed (fun i => ?_) _ _ _
    repeat' split
    · simp
    · simp
    · simp
    · rename_i refused
      simp [CardTable.admitBatch_ne refused]
    · simp [checkInRoom]
    · simp
  case addCards =>
    refine honest_claimed (fun i => ?_) _ _ _
    repeat' split
    · simp
    · simp
    · rename_i refused
      simp [CardTable.admitBatch_ne refused]
    · simp [addCardsTo]
    · simp
  case issueStaff =>
    simp only [ruleOf, issueStaff]
    repeat' split
    · simp
    · simp
    · simp
    · simp
    · rename_i refused
      simp [CardTable.replaceCheck_ne refused]
    · rename_i refused
      simp [CardTable.admitStaff_ne refused]
    · simp [issueStaffCard]
  case revoke =>
    simp only [ruleOf, revoke]
    repeat' split
    · simp
    · simp
    · simp
    · simp only [revokeFromFo]
      repeat' split
      · simp
      · simp
      · exact (honest_revokeRecord _ _ _ _).renewing _ _
    · exact honest_revokeRecord _ _ _ _
  case claim =>
    simp only [ruleOf, claim]
    repeat' split
    all_goals simp [takeClaim, preemptClaim]
  case readCard =>
    simp only [ruleOf, readCard]
    repeat' split
    all_goals simp
  case changeStay | checkOut | settle | holdRoom | freeRoom =>
    refine honest_claimed (fun i => ?_) _ _ _
    repeat' split
    all_goals simp [changeStayOf, checkOutRoom, settleRoom]
  all_goals
    simp only [ruleOf, setPrices, setReserve, setGrace, configureRoom, removeRoom, configureUnit, removeUnit, readmitUnit, setSite,
      setCondition, setEntranceClass, setShift, setGate, addScheduleEntry, removeScheduleEntry, clearSchedule, setMode, restore,
      clearBusCounters, releaseClaim, suspend, resume, setClock, readClock, readRoom, readUnit, readBus, readGates, readLog,
      setLogPolicy, setLogThreshold, readEvents, setSupervision, identify, configureUnitAs]
    repeat' split
    all_goals simp

/-- A KEEPALIVE is never answered NONE. -/
theorem keepalive_status (p : Port) (token : Half) (s : State) : (keepalive p token s).2.status ≠ .none := by
  simp only [keepalive]
  repeat' split
  all_goals simp [keepaliveReply]

/-! ## What a rule leaves of the ports -/

/-- What of a port neither an event nor the bytes sent can change. -/
def PortState.face (q : PortState) : PortState :=
  { q with events := [], eventsLost := false, attn := false, sent := [], fixed := none }

theorem PortState.of_face {q r : PortState} (same : q.face = r.face) : q.slot = r.slot ∧ q.overrun = r.overrun
    ∧ q.supervised = r.supervised ∧ q.interval = r.interval ∧ q.timer = r.timer ∧ q.linkLost = r.linkLost := by
  simpa [PortState.face] using same

theorem PortState.queue_face (q : PortState) (e : Event) : (q.queue e).face = q.face := by
  simp only [PortState.queue]
  split <;> rfl

/-- The other port keeps its face, and the port its OVERRUN. -/
def State.FacesKept (p : Port) (s t : State) : Prop :=
  (t.port p).overrun = (s.port p).overrun ∧ (t.port (otherPort p)).face = (s.port (otherPort p)).face

theorem State.FacesKept.dependsOn (p : Port) (s : State) : DependsOn [.ports] (State.FacesKept p s) := fun x y same kept => by
  obtain ⟨fo, se⟩ : x.Agree y .ports := same .ports (List.mem_singleton_self _)
  have ports (q : Port) : y.port q = x.port q := by
    cases q with
    | fo => exact fo
    | se => exact se
  simpa only [State.FacesKept, ports] using kept

theorem State.FacesKept.setOwn {p : Port} {s t : State} (kept : s.FacesKept p t) {q : PortState} (same : q.overrun = (t.port p).overrun) :
    s.FacesKept p (t.setPort p q) := by
  simpa [State.FacesKept, same] using kept

theorem State.FacesKept.raise {p : Port} {s t : State} (kept : s.FacesKept p t) (q : Port) (e : Event) :
    s.FacesKept p (t.raise q e) := by
  by_cases own : q = p
  · subst own
    exact kept.setOwn (congrArg PortState.overrun ((t.port q).queue_face e) :)
  · obtain rfl : q = otherPort p := by cases p <;> cases q <;> simp_all [otherPort]
    simpa [State.FacesKept, State.raise, PortState.queue_face] using kept

theorem State.FacesKept.telling (p : Port) (s : State) : Telling (State.FacesKept p s) where
  dep := (State.FacesKept.dependsOn p s).weaken
  raise := fun _ q e kept => kept.raise q e
  append := fun x source card room detail kept => by
    have noted {y : State} (before : EntryLog) (q : Port) (hy : s.FacesKept p y) : s.FacesKept p (y.notify before q) := by
      simp only [State.notify]
      split
      · exact hy.raise q _
      · exact hy
    exact noted _ _ (noted _ _ kept)

theorem State.FacesKept.superviseExpire {p : Port} {s t : State} (kept : s.FacesKept p t) : s.FacesKept p (t.superviseExpire p) := by
  have lost := kept.setOwn (q := { t.port p with linkLost := true, timer := none }) rfl
  have freed : s.FacesKept p ((t.setPort p { t.port p with linkLost := true, timer := none }).freeClaims p) :=
    foldl_keeps (fun x i hx => by
      simp only [freeForLink]
      split
      · exact (State.FacesKept.telling p s).raise _ _ _ ((State.FacesKept.dependsOn p s).of_same (x.setClaim_same i _) hx)
      · exact hx) allSlots lost
  exact (State.FacesKept.telling p s).raise _ _ _ ((State.FacesKept.telling p s).append _ _ _ _ _
    ((State.FacesKept.dependsOn p s).of_same (State.setLog_same _ _) freed))

theorem State.FacesKept.refl (p : Port) (s : State) : s.FacesKept p s := ⟨rfl, rfl⟩

/-- No rule touches the other port but through events. -/
theorem ruleOf_facesKept {i : Instr} {p : Port} {rq : Request} {body : List Byte} (request : i.request? = some (p, rq, body))
    (s : State) : s.FacesKept p (ruleOf i s).1 := by
  cases only : tellsOnly rq with
  | true => exact (State.FacesKept.telling p s).rule request only (.refl p s)
  | false =>
    cases i with
    | readLog | setLogPolicy | setLogThreshold =>
      exact (State.FacesKept.dependsOn p s).of_same (ruleOf_same request s) (.refl p s) (by cases request; rfl)
    | readEvents =>
      cases request
      simp only [ruleOf, readEvents]
      split
      · exact .refl _ s
      · exact (State.FacesKept.refl _ s).setOwn rfl
    | setSupervision =>
      cases request
      simp only [ruleOf, setSupervision]
      split
      · exact .refl _ s
      · exact (State.FacesKept.refl _ s).setOwn rfl
    | keepalive =>
      cases request
      simp only [ruleOf, keepalive]
      repeat' split
      · exact .refl _ s
      · exact .refl _ s
      · exact (State.FacesKept.refl _ s).setOwn rfl
      · exact .refl _ s
      · exact (State.FacesKept.refl _ s).superviseExpire
    | _ => cases request <;> exact Bool.noConfusion only

/-! ## A request taken with the slot empty -/

theorem portCheck_status {s : State} {rq : Request} {p : Port} {st : Status} (refused : s.portCheck rq p = some st) : st ≠ .none := by
  simp only [State.portCheck] at refused
  rintro rfl
  repeat' split at refused
  all_goals cases refused

/-- A request taken with the slot empty: its response is placed, ATTN follows, and the ports keep what they must. -/
theorem takeRequest_answered {s : State} {p : Port} {rq : Request} {i : Instr} {body : List Byte}
    (request : i.request? = some (p, rq, body)) (running : s.running = true) (empty : (s.port p).slot = none) :
    ∃ (t : State) (r : Response), s.takeRequest rq p (ruleOf i) = t.respond p r ∧ s.FacesKept p t ∧ r.status ≠ .none
      ∧ (r.status ≠ .ok → rq ≠ .keepalive → t.respond p r = s.withAnswer rq p r.status r.body) := by
  have sent : s.FacesKept p (s.sendZeros p (2 + rq.bodyLength)) := (State.FacesKept.refl p s).setOwn rfl
  have answer (r : Response) : (s.sendZeros p (2 + rq.bodyLength)).respond p r = s.withAnswer rq p r.status r.body :=
    s.respond_sendZeros p _ r.status r.body
  cases check : s.portCheck rq p with
  | some st =>
    refine ⟨_, { status := st, body := [] }, ?_, sent, portCheck_status check, fun _ _ => answer _⟩
    rw [State.takeRequest_checked _ running empty check, answer]
  | none =>
    obtain ⟨allowed, taken⟩ := (s.portCheck_eq_none_iff rq p).mp check
    refine ⟨_, _, State.takeRequest_ready _ ⟨running, empty, allowed, taken⟩, ?_, ?_, fun failed other => ?_⟩
    · obtain ⟨own, elsewhere⟩ := ruleOf_facesKept request (s.sendZeros p (2 + rq.bodyLength))
      exact ⟨own.trans sent.1, elsewhere.trans sent.2⟩
    · by_cases live : rq = .keepalive
      · subst live
        cases i <;> cases request
        exact keepalive_status _ _ _
      · exact (ruleOf_honest request live _).1
    · rw [(ruleOf_honest request other _).2 failed, answer]

end Sys2Proof.Machine

open Sys2Proof Sys2Proof.Machine

/-- Settles O5: a rule's answer is never NONE and a refusal is without effect (`ruleOf_honest`); no rule touches the other port but
through events (`ruleOf_facesKept`). -/
theorem everyRequestIsAnsweredOrDiscarded : Obligations.EveryRequestIsAnsweredOrDiscarded := by
  unfold Obligations.EveryRequestIsAnsweredOrDiscarded
  intro i p rq body s request
  simp only [exec_eq_takeRequest request]
  refine ⟨fun running empty => ?_, fun running full => by rw [State.takeRequest_full _ running full],
    fun stopped => by rw [State.takeRequest_stopped _ _ _ stopped]⟩
  obtain ⟨t, r, taken, ⟨own, elsewhere⟩, status, refused⟩ := takeRequest_answered request running empty
  have other : (t.respond p r).port (otherPort p) = t.port (otherPort p) := by simp [State.respond]
  refine ⟨t.respond p r, r, by rw [taken], ?_, status, ?_, ?_, refused, ?_⟩
  · simp [State.respond, PortState.withAttn]
  · simp [State.respond, PortState.withAttn, PortState.attnLevel]
  · simpa [State.respond, PortState.withAttn] using own
  · rw [other]
    exact PortState.of_face elsewhere

end

section
/-! Windows (chapter 1.2), the minute index (chapter 1.5), SET CLOCK and the front office's settings. -/

namespace Sys2Proof.Machine

-- One theorem at a time: each check by the kernel then needs one stack.
set_option Elab.async false

open Sys2Proof

/-! ## Windows (chapter 1.2) -/

theorem windowChecks_iff (a d : Moment) (n : Nat) :
    windowChecks a d n = true ↔ a.minute ≤ 1439 ∧ d.minute ≤ 1439 ∧ a.index < d.index ∧ n < d.index := by
  simp [windowChecks]

theorem deriveWindow_refused {a d : Moment} {grace n : Nat} (failed : ¬ windowChecks a d n = true) : deriveWindow a d grace n = none :=
  if_neg failed

theorem deriveWindow_passed {a d : Moment} {grace n : Nat} (passed : windowChecks a d n = true) :
    deriveWindow a d grace n = some { start := a, stop := Moment.ofIndex (min Config.lastMinuteIndex (d.index + grace)) } :=
  if_pos passed

theorem Moment.ofIndex_index {m : Moment} (inDay : m.minute ≤ 1439) : Moment.ofIndex m.index = m := by
  obtain ⟨day, minute⟩ := m
  simp only [Moment.ofIndex, Moment.index, Moment.mk.injEq] at *
  omega

/-! ## SET CLOCK (R7) -/

/-- The effects of a SET CLOCK, in the order of its steps. -/
def State.clockChanged (s : State) (p : Port) (m : Moment) : State :=
  ((({ s with clock := s.clock.setTo m } : State).workLevels.append (.port p) none none (.clockSet s.nowIndex m.index)).raise
    (otherPort p) .clockSet)

theorem State.clockChanged_sendZeros (s : State) (p q : Port) (n : Nat) (m : Moment) :
    (s.sendZeros q n).clockChanged p m = (s.clockChanged p m).sendZeros q n := by
  have set : ({ s.sendZeros q n with clock := s.clock.setTo m } : State)
      = ({ s with clock := s.clock.setTo m } : State).sendZeros q n := by cases q <;> rfl
  simp only [State.clockChanged, State.sendZeros_clock, set, State.workLevels_sendZeros, State.append_sendZeros,
    State.raise_sendZeros, State.sendZeros_nowIndex]

theorem State.clockChanged_now (s : State) (p : Port) (m : Moment) :
    (s.clockChanged p m).now = { day := m.day, minute := m.minute, second := 0 } := by
  simp only [State.now, State.clockChanged, State.raise_clock, State.append_clock]
  rfl

theorem setClock_accepted {d : DayMinute} (inDay : d.minute.toNat ≤ 1439) (p : Port) (s : State) :
    setClock p d s = accept (s.clockChanged p (momentOf d)) (be 2 d.day.toNat ++ be 2 d.minute.toNat ++ byte 0) := by
  have body : (s.clockChanged p (momentOf d)).now.bytes = be 2 d.day.toNat ++ be 2 d.minute.toNat ++ byte 0 := by
    rw [State.clockChanged_now]
    rfl
  rw [← body]
  exact if_neg (not_lt.mpr inDay)

theorem setClock_refused {d : DayMinute} (late : 1439 < d.minute.toNat) (p : Port) (s : State) :
    setClock p d s = refuse .badValue s := if_pos late

end Sys2Proof.Machine

open Sys2Proof Sys2Proof.Machine

/-- Settles O16: the four checks in one condition, the two bounds of a window, and division by the minutes of a day. -/
theorem windowsAreDerivedAndTested : Obligations.WindowsAreDerivedAndTested := by
  unfold Obligations.WindowsAreDerivedAndTested
  refine ⟨fun a d grace n => ⟨fun failed => deriveWindow_refused ?_, fun arrival departure after future =>
    deriveWindow_passed ((windowChecks_iff a d n).mpr ⟨arrival, departure, after, future⟩)⟩,
    fun w n => ⟨fun early => if_pos early, fun begun past => ?_, fun begun live => ?_⟩, fun m inDay => Moment.ofIndex_index inDay⟩
  · rw [windowChecks_iff, Moment.index, Moment.index]
    omega
  · exact (if_neg (not_lt.mpr begun)).trans (if_pos past)
  · exact (if_neg (not_lt.mpr begun)).trans (if_neg (not_le.mpr live))

/-- Settles O18: the rule's effects stand in the answered state, since the bytes sent touch nothing that they read. -/
theorem clockAndFrontOfficeSettingsAreStored : Obligations.ClockAndFrontOfficeSettingsAreStored := by
  unfold Obligations.ClockAndFrontOfficeSettingsAreStored
  refine ⟨fun s p d ready => ⟨fun inDay => exec_answered rfl (s.takeRequest_carriedOut ready ?_),
    fun late => exec_answered rfl (s.takeRequest_refused ready (setClock_refused late p _))⟩, fun s =>
    ⟨fun ready g => exec_answered rfl (State.takeRequest_carriedOut ready ?_), fun ready prices =>
      exec_answered rfl (State.takeRequest_carriedOut ready ?_), fun ready reserve =>
      exec_answered rfl (State.takeRequest_carriedOut ready ?_)⟩⟩
  · exact (setClock_accepted inDay p _).trans (congrArg (accept · _) (s.clockChanged_sendZeros p p _ _))
  · simp only [ruleOf, setGrace, clamp, Config.maxGrace, Nat.zero_max]
    rfl
  · rfl
  · rfl

end

section
/-! The Decision Unit's tables (R110 to R112) and the claims (R31 to R33). -/

namespace Sys2Proof.Machine

-- One theorem at a time: each check by the kernel then needs one stack.
set_option Elab.async false

open Sys2Proof

/-! ## The Decision Unit's tables -/

theorem Vector.toList_eq_map_finRange {α : Type} {n : Nat} (v : Vector α n) : v.toList = (List.finRange n).map fun j => v[j] := by
  refine List.ext_getElem (by simp) fun k _ _ => ?_
  simp

theorem conditionOf?_code (c : Condition) : conditionOf? (BitVec.ofNat 8 c.code) = some c := by
  cases c <;> rfl

theorem conditionOf?_eq_none {b : Byte} (h : 15 < b.toNat) : conditionOf? b = none := by
  unfold conditionOf?
  split
  case h_17 => rfl
  all_goals omega

/-- A row after one cell of it was set. -/
theorem conditionRow_setCell (t : DecisionTables) (k e : Fin 8) (c : Condition) :
    conditionRow (t.setCell k e c) k
      = (List.finRange 8).flatMap fun j => byte (if j = e then c.code else t.conditions[k][j].code) := by
  simp only [conditionRow, DecisionTables.setCell, Vector.toList_eq_map_finRange, List.flatMap_map]
  refine congrArg List.flatten (List.map_congr_left fun j _ => ?_)
  simp [Vector.getElem_set, Fin.ext_iff, eq_comm (a := e.val), apply_ite Condition.code]

theorem setCondition_accepted (k e : Fin 8) (c : Condition) (s : State) :
    setCondition (BitVec.ofNat 8 k.val) (BitVec.ofNat 8 e.val) (BitVec.ofNat 8 c.code) s
      = accept { s with decision := s.decision.setCell k e c } (conditionRow (s.decision.setCell k e c) k) := by
  simp only [setCondition, indexOf?_ofNat, conditionOf?_code]

theorem setCondition_refused {k e c : Byte} (bad : 7 < k.toNat ∨ 7 < e.toNat ∨ 15 < c.toNat) (s : State) :
    setCondition k e c s = refuse .badValue s := by
  simp only [setCondition]
  split
  · rename_i hk he hc
    rcases bad with bad | bad | bad
    · rw [indexOf?_eq_none bad] at hk
      cases hk
    · rw [indexOf?_eq_none bad] at he
      cases he
    · rw [conditionOf?_eq_none bad] at hc
      cases hc
  · rfl

theorem setEntranceClass_accepted (e : Fin 8) (unlock exposed : Byte) (ajar : Half) (s : State) :
    setEntranceClass (BitVec.ofNat 8 e.val) unlock ajar exposed s
      = accept { s with decision := { s.decision with entrances := s.decision.entrances.set e (clampEntrance unlock ajar exposed) } }
        (byte (clampEntrance unlock ajar exposed).unlock ++ be 2 (clampEntrance unlock ajar exposed).ajarLimit
          ++ flag (clampEntrance unlock ajar exposed).exposed) := by
  simp only [setEntranceClass, indexOf?_ofNat]

theorem setEntranceClass_refused {e : Byte} (bad : 7 < e.toNat) (unlock exposed : Byte) (ajar : Half) (s : State) :
    setEntranceClass e unlock ajar exposed s = refuse .badValue s := by
  simp only [setEntranceClass, indexOf?_eq_none bad]

theorem setShift_accepted (k : Fin 8) {o c : Half} (opens : o.toNat ≤ 1439) (closes : c.toNat ≤ 1439) (s : State) :
    setShift (BitVec.ofNat 8 k.val) o c s
      = accept { s with decision := { s.decision with shifts := s.decision.shifts.set k { opens := o.toNat, closes := c.toNat } } }
        (be 2 o.toNat ++ be 2 c.toNat ++ flag ({ opens := o.toNat, closes := c.toNat : Shift }.covers s.clock.minute)) := by
  simp only [setShift, indexOf?_ofNat]
  exact if_neg (by omega)

theorem setShift_refused {k : Byte} {o c : Half} (bad : 7 < k.toNat ∨ 1439 < o.toNat ∨ 1439 < c.toNat) (s : State) :
    setShift k o c s = refuse .badValue s := by
  simp only [setShift]
  split
  · rfl
  · rename_i hk
    rcases bad with bad | bad
    · rw [indexOf?_eq_none bad] at hk
      cases hk
    · exact if_pos bad

theorem State.setDecision_sendZeros (s : State) (p : Port) (n : Nat) (t : DecisionTables) :
    ({ s.sendZeros p n with decision := t } : State) = ({ s with decision := t } : State).sendZeros p n := by
  cases p <;> rfl

@[simp] theorem State.sendZeros_decision (s : State) (p : Port) (n : Nat) : (s.sendZeros p n).decision = s.decision := by
  cases p <;> rfl

/-! ## Claims -/

section
variable {s : State} {i : Slot} {p : Port}

theorem flagOf_eq_true {b : Byte} (set : b ≠ 0) : flagOf b = true := decide_eq_true set

theorem claim_badSlot {slot : Byte} (bad : 128 ≤ slot.toNat) (preempt : Byte) (s : State) (p : Port) :
    claim p slot preempt s = refuse .badValue s := by
  simp only [claim, slotOf?_eq_none bad]

theorem claim_notPermitted {preempt : Byte} (asked : preempt ≠ 0) (s : State) (i : Slot) :
    claim .fo (slotByte i) preempt s = refuse .notPermitted s := by
  simp [claim, flagOf_eq_true asked]

theorem claim_taken {preempt : Byte} (allowed : ¬(p = .fo ∧ preempt ≠ 0)) (free : s.holder i = none ∨ s.holder i = some p) :
    claim p (slotByte i) preempt s = accept (s.setClaim i (some { holder := p, lease := 120 })) (byte (portCode p) ++ byte 120) := by
  have allowed : ¬(p = .fo ∧ flagOf preempt = true) := by simpa [flagOf] using allowed
  simp only [claim, slotOf?_slotByte, if_neg allowed]
  split
  · rfl
  · rename_i c held
    have mine : c.holder = p := by simpa [State.holder, held] using free
    rw [if_pos mine]
    rfl

theorem claim_elsewhere {lease : Nat} (held : s.claims[i] = some { holder := otherPort p, lease := lease }) :
    claim p (slotByte i) 0 s
      = (s, { status := .claimedElsewhere, body := byte (portCode (otherPort p)) ++ byte lease }) := by
  simp [claim, flagOf, held, claimBody, holderCode]

theorem claim_preempted {preempt : Byte} {lease : Nat} (held : s.claims[i] = some { holder := .fo, lease := lease })
    (asked : preempt ≠ 0) :
    claim .se (slotByte i) preempt s
      = accept (((s.setClaim i (some { holder := .se, lease := 120 })).raise .fo (.claimLost i .preempted)).append (.port .se) none
        (some i) (.claimPreempt lease)) (byte 2 ++ byte 120) := by
  simp [claim, flagOf_eq_true asked, held, preemptClaim, State.loadLease, claimBody, holderCode, portCode, Config.leaseSeconds]

theorem releaseClaim_badSlot {slot : Byte} (bad : 128 ≤ slot.toNat) (s : State) (p : Port) :
    releaseClaim p slot s = refuse .badValue s := by
  simp only [releaseClaim, slotOf?_eq_none bad]

theorem releaseClaim_own (mine : s.holder i = some p) : releaseClaim p (slotByte i) s = accept (s.setClaim i none) [] := by
  simp [releaseClaim, mine]

theorem releaseClaim_other (other : s.holder i ≠ some p) : releaseClaim p (slotByte i) s = refuse .notClaimed s := by
  simp [releaseClaim, other]

@[simp] theorem State.sendZeros_claims (s : State) (p : Port) (n : Nat) : (s.sendZeros p n).claims = s.claims := by
  cases p <;> rfl

end

end Sys2Proof.Machine

open Sys2Proof Sys2Proof.Machine

/-- Settles O19: each setting's accepted equation and its refusal. -/
theorem decisionTablesAreSet : Obligations.DecisionTablesAreSet := by
  unfold Obligations.DecisionTablesAreSet
  intro s
  refine ⟨fun ready k e c => exec_answered rfl (State.takeRequest_carriedOut ready ?_),
    fun ready k e c bad => exec_answered rfl (State.takeRequest_refused ready (setCondition_refused bad _)),
    fun ready e unlock exposed ajar => exec_answered rfl (State.takeRequest_carriedOut ready ?_),
    fun ready e unlock exposed ajar bad => exec_answered rfl
      (State.takeRequest_refused ready (setEntranceClass_refused bad _ _ _ _)),
    fun ready k o c opens closes => exec_answered rfl (State.takeRequest_carriedOut ready ?_),
    fun ready k o c bad => exec_answered rfl (State.takeRequest_refused ready (setShift_refused bad _))⟩
  · rw [← conditionRow_setCell]
    exact setCondition_accepted k e c _
  · exact setEntranceClass_accepted e unlock exposed ajar _
  · exact setShift_accepted k opens closes _

/-- Settles O23: a CLAIM by the holder it meets, a RELEASE CLAIM by whose the claim is. -/
theorem claimsAreTakenAndReleased : Obligations.ClaimsAreTakenAndReleased := by
  unfold Obligations.ClaimsAreTakenAndReleased
  intro s p slot preempt ready
  have release : s.Ready .releaseClaim p := ready
  refine ⟨fun bad => ⟨exec_answered rfl (State.takeRequest_refused ready (claim_badSlot bad _ _ _)),
    exec_answered rfl (State.takeRequest_refused release (releaseClaim_badSlot bad _ _))⟩, ?_⟩
  rintro i rfl
  refine ⟨fun fo asked => ?_, fun allowed free => exec_answered rfl (State.takeRequest_carriedOut ready ?_), fun lease held plain => ?_,
    fun lease held se asked => ?_, fun mine => exec_answered rfl (State.takeRequest_carriedOut release ?_), fun other =>
    exec_answered rfl (State.takeRequest_refused release (releaseClaim_other (by simpa using other)))⟩
  · subst fo
    exact exec_answered rfl (State.takeRequest_refused ready (claim_notPermitted asked _ _))
  · rw [← State.setClaim_sendZeros]
    exact claim_taken allowed (by simpa using free)
  · subst plain
    exact exec_answered rfl (State.takeRequest_refused ready (claim_elsewhere (by simpa using held)))
  · subst se
    refine exec_answered rfl (State.takeRequest_carriedOut ready ?_)
    rw [← State.append_sendZeros, ← State.raise_sendZeros, ← State.setClaim_sendZeros]
    exact claim_preempted (by simpa using held) asked
  · rw [← State.setClaim_sendZeros]
    exact releaseClaim_own (by simpa using mine)

end

section
/-! READ LOG, SET LOG POLICY and SET LOG THRESHOLD (R176, R178, R180). -/

namespace Sys2Proof.Machine

-- One theorem at a time: each check by the kernel then needs one stack.
set_option Elab.async false

open Sys2Proof

section
variable {l : EntryLog} (sound : l.Sound) (p : Port)
include sound

/-- The records from a sound cursor on are the last unread ones. -/
theorem EntryLog.readable_eq (count : Nat) :
    l.readable p count = (l.records.drop (l.records.length - l.unread p)).take count := by
  obtain ⟨cursor, unread, -⟩ := sound.reader p
  obtain ⟨-, next, -, numbers, -⟩ := sound
  have numbers := consecutive_iff.mpr numbers
  match records : l.records with
  | [] => simp [EntryLog.readable, records]
  | oldest :: rest =>
    rw [records] at numbers unread
    obtain ⟨bound, distance⟩ := numbers.head
    have between := seqDistance_between bound next cursor (by rw [distance]; exact unread)
    have first : l.oldest = oldest.seq := by simp [EntryLog.oldest, records]
    rw [EntryLog.readable, first, between, distance, records]
    rfl

/-- Records taken are no longer unread. -/
theorem EntryLog.unread_taken (count skipped : Nat) :
    (l.setReader p { l.reader p with
        cursor := ((l.reader p).cursor + (l.readable p count).length) % 4294967296, skipped := skipped }).unread p
      = l.unread p - (l.readable p count).length := by
  have within := EntryLog.readable_length_le sound p count
  obtain ⟨cursor, -⟩ := sound.reader p
  obtain ⟨-, next, -⟩ := sound
  cases p <;> exact seqDistance_add cursor next within

end

theorem EntryLog.setReader_oldest (l : EntryLog) (p : Port) (r : Reader) : (l.setReader p r).oldest = l.oldest := by
  cases p <;> rfl

theorem EntryLog.setReader_next (l : EntryLog) (p : Port) (r : Reader) : (l.setReader p r).next = l.next := by
  cases p <;> rfl

theorem EntryLog.setReader_lost (l : EntryLog) (p : Port) (r : Reader) : (l.setReader p r).lost = l.lost := by
  cases p <;> rfl

theorem State.setLog_sendZeros (s : State) (p : Port) (n : Nat) (l : EntryLog) :
    ({ s.sendZeros p n with log := l } : State) = ({ s with log := l } : State).sendZeros p n := by
  cases p <;> rfl

/-- A count in range reads the records from the cursor on and moves the cursor past them. -/
theorem readLog_accepted {s : State} (sound : s.log.Sound) {count : Byte} (few : 1 ≤ count.toNat) (most : count.toNat ≤ 8) (p : Port) :
    let taken := (s.log.records.drop (s.log.records.length - s.log.unread p)).take count.toNat
    readLog p count s = accept { s with log := s.log.setReader p { s.log.reader p with
        cursor := ((s.log.reader p).cursor + taken.length) % 4294967296, skipped := 0 } }
      (byte taken.length ++ taken.flatMap LogRecord.bytes ++ be 2 (s.log.reader p).skipped
        ++ be 2 (s.log.unread p - taken.length) ++ be 4 s.log.oldest ++ be 4 s.log.next ++ be 2 s.log.lost
        ++ byte (s.log.reader p).policy.code ++ be 2 (s.log.reader p).threshold) := by
  have range : ¬(count = 0 ∨ 8 < count.toNat) := by
    rintro (rfl | large)
    · cases few
    · omega
  have left := EntryLog.unread_taken sound p count.toNat 0
  rw [EntryLog.readable_eq sound] at left
  simp only [readLog, if_neg range, EntryLog.readable_eq sound, Config.seqModulus, EntryLog.setReader_oldest, EntryLog.setReader_next,
    EntryLog.setReader_lost, left]

theorem readLog_refused {count : Byte} (bad : count.toNat = 0 ∨ 8 < count.toNat) (p : Port) (s : State) :
    readLog p count s = refuse .badValue s :=
  if_pos (bad.imp_left BitVec.eq_of_toNat_eq)

theorem policyOf?_code (policy : Policy) : policyOf? (BitVec.ofNat 8 policy.code) = some policy := by
  cases policy <;> rfl

theorem policyOf?_eq_none {b : Byte} (hold : b ≠ 1) (yields : b ≠ 2) : policyOf? b = none := by
  rw [policyOf?, if_neg hold, if_neg yields]

theorem setLogPolicy_accepted (policy : Policy) (p : Port) (s : State) :
    setLogPolicy p (BitVec.ofNat 8 policy.code) s
      = accept { s with log := s.log.setReader p { s.log.reader p with policy := policy } }
        (byte policy.code ++ be 2 (s.log.unread p) ++ be 2 (s.log.reader p).skipped) := by
  simp only [setLogPolicy, policyOf?_code]

theorem setLogPolicy_refused {b : Byte} (hold : b ≠ 1) (yields : b ≠ 2) (p : Port) (s : State) :
    setLogPolicy p b s = refuse .badValue s := by
  simp only [setLogPolicy, policyOf?_eq_none hold yields]

end Sys2Proof.Machine

open Sys2Proof Sys2Proof.Machine

/-- Settles O14: in a sound log the records from the cursor on are the unread ones (`EntryLog.readable_eq`). -/
theorem logRequestsActOnOwnReader : Obligations.LogRequestsActOnOwnReader := by
  unfold Obligations.LogRequestsActOnOwnReader
  intro s p sound
  refine ⟨fun count ready few most => exec_answered rfl (State.takeRequest_carriedOut ready ?_),
    fun count ready bad => exec_answered rfl (State.takeRequest_refused ready (readLog_refused bad _ _)),
    fun policy ready => exec_answered rfl (State.takeRequest_carriedOut ready ?_),
    fun b ready hold yields => exec_answered rfl (State.takeRequest_refused ready (setLogPolicy_refused hold yields _ _)),
    fun threshold ready => exec_answered rfl (State.takeRequest_carriedOut ready ?_)⟩
  · refine (readLog_accepted (by simpa using sound) few most p).trans ?_
    simp only [State.sendZeros_log]
    exact congrArg (accept · _) (s.setLog_sendZeros p _ _)
  · refine (setLogPolicy_accepted policy p _).trans ?_
    simp only [State.sendZeros_log]
    exact congrArg (accept · _) (s.setLog_sendZeros p _ _)
  · show setLogThreshold p threshold _ = _
    simp only [setLogThreshold, State.sendZeros_log]
    exact congrArg (accept · _) (s.setLog_sendZeros p _ _)

end

section
/-! SET GATE and the edits of the gate schedule (R148, R150, R151), and SETTLE (R145). -/

namespace Sys2Proof.Machine

-- One theorem at a time: each check by the kernel then needs one stack.
set_option Elab.async false

open Sys2Proof

/-! ## Sets of gates and levels -/

theorem gateSetOf?_setWidth (gates : GateSet) : gateSetOf? (gates.setWidth 8) = some gates := by
  have small : (gates.setWidth 8).toNat = gates.toNat := by
    rw [BitVec.toNat_setWidth]
    exact Nat.mod_eq_of_lt (by have := gates.isLt; omega)
  rw [gateSetOf?, small, if_pos gates.isLt, BitVec.ofNat_toNat, BitVec.setWidth_eq]

theorem gateSetOf?_eq_none {b : Byte} (large : 64 ≤ b.toNat) : gateSetOf? b = none := if_neg (not_lt.mpr large)

theorem gateSetOf?_zero : gateSetOf? 0 = some 0 := rfl

theorem levelOf?_code (level : GateLevel) : levelOf? (BitVec.ofNat 8 level.code) = some level := by
  cases level <;> rfl

theorem levelOf?_eq_none {b : Byte} (opened : b ≠ 1) (shut : b ≠ 2) : levelOf? b = none := by
  rw [levelOf?, if_neg opened, if_neg shut]

/-! ## SET GATE -/

theorem setGate_accepted (enabled exposed : GateSet) (s : State) :
    let gates : Gates := { s.gates with
      enabled := enabled, exposed := exposed
      pulses := Vector.ofFn fun g : Gate => if hasGate enabled g then s.gates.pulses[g] else none }
    let outputs : Vector GateLevel 6 := Vector.ofFn fun g => outputLevel gates s.wing.mode g
    setGate (enabled.setWidth 8) (exposed.setWidth 8) s = accept { s with gates := { gates with outputs := outputs } }
      (byte enabled.toNat ++ byte exposed.toNat ++ outputs.toList.flatMap fun l : GateLevel => byte l.code) := by
  simp only [setGate, gateSetOf?_setWidth]
  rfl

theorem setGate_refused {enabled exposed : Byte} (large : 64 ≤ enabled.toNat ∨ 64 ≤ exposed.toNat) (s : State) :
    setGate enabled exposed s = refuse .badValue s := by
  simp only [setGate]
  split
  · rename_i en ex
    rcases large with large | large
    · rw [gateSetOf?_eq_none large] at en
      cases en
    · rw [gateSetOf?_eq_none large] at ex
      cases ex
  · rfl

/-! ## The schedule -/

section
variable {schedule : List ScheduleEntry} (sorted : schedule.Pairwise fun a b => a.minute ≤ b.minute) (m : Nat)
include sorted

/-- In a sorted schedule the entries up to a minute stand first. -/
theorem takeWhile_eq_filter :
    schedule.takeWhile (fun e => decide (e.minute ≤ m)) = schedule.filter fun e => decide (e.minute ≤ m) := by
  have first : (schedule.takeWhile fun e => decide (e.minute ≤ m)).filter (fun e => decide (e.minute ≤ m))
      = schedule.takeWhile fun e => decide (e.minute ≤ m) :=
    List.filter_eq_self.mpr fun _ => List.mem_takeWhile_imp
  have rest : (schedule.dropWhile fun e => decide (e.minute ≤ m)).filter (fun e => decide (e.minute ≤ m)) = [] :=
    List.filter_eq_nil_iff.mpr fun e mem => by simpa using lt_of_mem_dropWhile sorted mem
  conv_rhs => rw [← List.takeWhile_append_dropWhile (p := fun e => decide (e.minute ≤ m)) (l := schedule)]
  rw [List.filter_append, first, rest, List.append_nil]

/-- In a sorted schedule the entries past a minute stand last. -/
theorem dropWhile_eq_filter :
    schedule.dropWhile (fun e => decide (e.minute ≤ m)) = schedule.filter fun e => decide (m < e.minute) := by
  have first : (schedule.takeWhile fun e => decide (e.minute ≤ m)).filter (fun e => decide (m < e.minute)) = [] :=
    List.filter_eq_nil_iff.mpr fun e mem => by simpa using List.mem_takeWhile_imp mem
  have rest : (schedule.dropWhile fun e => decide (e.minute ≤ m)).filter (fun e => decide (m < e.minute))
      = schedule.dropWhile fun e => decide (e.minute ≤ m) :=
    List.filter_eq_self.mpr fun e mem => by simpa using lt_of_mem_dropWhile sorted mem
  conv_rhs => rw [← List.takeWhile_append_dropWhile (p := fun e => decide (e.minute ≤ m)) (l := schedule)]
  rw [List.filter_append, first, rest, List.nil_append]

end

theorem addScheduleEntry_refused {minute : Half} {gates level : Byte}
    (bad : 1439 < minute.toNat ∨ gates = 0 ∨ 64 ≤ gates.toNat ∨ (level ≠ 1 ∧ level ≠ 2)) (s : State) :
    addScheduleEntry minute gates level s = refuse .badValue s := by
  simp only [addScheduleEntry]
  split
  · rename_i gs lv set lev
    rcases bad with late | rfl | large | ⟨opened, shut⟩
    · exact if_pos (.inl late)
    · rw [gateSetOf?_zero] at set
      cases set
      exact if_pos (.inr rfl)
    · rw [gateSetOf?_eq_none large] at set
      cases set
    · rw [levelOf?_eq_none opened shut] at lev
      cases lev
  · rfl

section
variable {minute : Half} {gates : GateSet} (level : GateLevel) (inDay : minute.toNat ≤ 1439) (nonempty : gates ≠ 0) {s : State}
include inDay nonempty

theorem addScheduleEntry_full (full : 32 ≤ s.gates.schedule.length) :
    addScheduleEntry minute (gates.setWidth 8) (BitVec.ofNat 8 level.code) s = refuse .tableFull s := by
  have range : ¬(1439 < minute.toNat ∨ gates = 0) := not_or.mpr ⟨not_lt.mpr inDay, nonempty⟩
  simp only [addScheduleEntry, gateSetOf?_setWidth, levelOf?_code, if_neg range]
  exact if_pos full

theorem addScheduleEntry_accepted (room : s.gates.schedule.length < 32)
    (sorted : s.gates.schedule.Pairwise fun a b => a.minute ≤ b.minute) :
    let before := s.gates.schedule.filter fun e => decide (e.minute ≤ minute.toNat)
    let after := s.gates.schedule.filter fun e => decide (minute.toNat < e.minute)
    let entry : ScheduleEntry := { minute := minute.toNat, gates := gates, level := level }
    addScheduleEntry minute (gates.setWidth 8) (BitVec.ofNat 8 level.code) s
      = accept { s with gates := { s.gates with schedule := before ++ entry :: after } }
        (byte before.length ++ byte (s.gates.schedule.length + 1)) := by
  have range : ¬(1439 < minute.toNat ∨ gates = 0) := not_or.mpr ⟨not_lt.mpr inDay, nonempty⟩
  have room : ¬Config.maxSchedule ≤ s.gates.schedule.length := not_le.mpr room
  simp only [addScheduleEntry, gateSetOf?_setWidth, levelOf?_code, if_neg range, if_neg room, insertEntry, insertPosition,
    takeWhile_eq_filter sorted, dropWhile_eq_filter sorted]

end

theorem removeScheduleEntry_refused {position : Byte} (large : 31 < position.toNat) (s : State) :
    removeScheduleEntry position s = refuse .badValue s := if_pos large

theorem removeScheduleEntry_notFound {position : Byte} (small : position.toNat ≤ 31) {s : State}
    (beyond : s.gates.schedule.length ≤ position.toNat) : removeScheduleEntry position s = refuse .notFound s := by
  simp only [removeScheduleEntry, if_neg (not_lt.mpr small), List.getElem?_eq_none beyond]

theorem removeScheduleEntry_accepted {position : Byte} (small : position.toNat ≤ 31) {s : State} {before after : List ScheduleEntry}
    {e : ScheduleEntry} (there : s.gates.schedule = before ++ e :: after) (place : before.length = position.toNat) :
    removeScheduleEntry position s = accept { s with gates := { s.gates with schedule := before ++ after } }
      (be 2 e.minute ++ byte e.gates.toNat ++ byte e.level.code ++ byte (before.length + after.length)) := by
  have entry : s.gates.schedule[position.toNat]? = some e := by rw [there, ← place, List.getElem?_append_right le_rfl]; simp
  have left : s.gates.schedule.eraseIdx position.toNat = before ++ after := by
    rw [there, ← place, List.eraseIdx_append_of_length_le le_rfl]
    simp
  simp only [removeScheduleEntry, if_neg (not_lt.mpr small), entry, left, List.length_append]
  rfl

/-! ## SETTLE -/

theorem State.sessionAt_iff (s : State) (i : Slot) : s.sessionAt i = true ↔ ∃ u ∈ s.minibarLockOf i, s.sessions[u].isSome = true := by
  unfold State.sessionAt
  cases s.minibarLockOf i <;> simp

/-- What SETTLE's own rule finds at a room that is configured. -/
theorem settleRule_eq {s : State} {i : Slot} (configured : s.rooms[i].occupancy ≠ .unused) (p : Port) :
    (match s.rooms[i].occupancy with
      | .unused => refuse .wrongState s
      | .letTo _ _ => if s.sessionAt i then refuse .sessionOpen s else settleRoom p i true s
      | .vacant _ => if s.sessionAt i then refuse .sessionOpen s else settleRoom p i false s
      | .held _ => if s.sessionAt i then refuse .sessionOpen s else settleRoom p i false s)
    = if s.sessionAt i then refuse .sessionOpen s else settleRoom p i s.rooms[i].occupancy.stay?.isSome s := by
  cases occupied : s.rooms[i].occupancy with
  | unused => exact absurd occupied configured
  | letTo | vacant | held => rfl

theorem settleRoom_sendZeros (s : State) (p q : Port) (n : Nat) (i : Slot) (interim : Bool) :
    settleRoom p i interim (s.sendZeros q n)
      = accept (((s.setAccount i (s.accounts[i].settle interim)).append (.port p) none (some i)
          (.settle s.accounts[i].charge s.accounts[i].overdraft s.accounts[i].remaining s.accounts[i].ceilingMet interim)).sendZeros q n)
        (s.accounts[i].settleBody interim) := by
  simp only [settleRoom, State.sendZeros_accounts, State.setAccount_sendZeros, State.append_sendZeros]

end Sys2Proof.Machine

open Sys2Proof Sys2Proof.Machine

/-- Settles O46: SET GATE and the edits by their equations; in a sorted schedule an entry's place splits it as two filters do. -/
theorem gatesAndScheduleAreSet : Obligations.GatesAndScheduleAreSet := by
  unfold Obligations.GatesAndScheduleAreSet
  intro s ready
  have add : s.Ready .addScheduleEntry .se := ready
  have remove : s.Ready .removeScheduleEntry .se := ready
  have clear : s.Ready .clearSchedule .se := ready
  refine ⟨fun enabled exposed large => exec_answered rfl (State.takeRequest_refused ready (setGate_refused large _)),
    fun enabled exposed => exec_answered rfl (State.takeRequest_carriedOut ready (setGate_accepted enabled exposed _)),
    fun minute gates level bad => exec_answered rfl (State.takeRequest_refused add (addScheduleEntry_refused bad _)),
    fun minute gates level inDay nonempty => ⟨fun full => exec_answered rfl
      (State.takeRequest_refused add (addScheduleEntry_full level inDay nonempty full)), fun room sorted => exec_answered rfl
      (State.takeRequest_carriedOut add (addScheduleEntry_accepted level inDay nonempty room sorted))⟩,
    fun position => ⟨fun large => exec_answered rfl (State.takeRequest_refused remove (removeScheduleEntry_refused large _)),
      fun small beyond => exec_answered rfl (State.takeRequest_refused remove (removeScheduleEntry_notFound small beyond)),
      fun small before e after there place => exec_answered rfl
        (State.takeRequest_carriedOut remove (removeScheduleEntry_accepted small there place))⟩,
    exec_answered rfl (State.takeRequest_carriedOut clear rfl)⟩

/-- Settles O44: SETTLE's rule by the room's occupancy and the session at its minibar lock. -/
theorem settleClearsTheAccount : Obligations.SettleClearsTheAccount := by
  unfold Obligations.SettleClearsTheAccount
  intro s i ready mine
  refine ⟨fun unused => exec_answered rfl (State.takeRequest_claimed_refused ready mine (by simp) ?_),
    fun configured session => exec_answered rfl (State.takeRequest_claimed_refused ready mine (by simp) ?_),
    fun configured noSession => exec_answered rfl (State.takeRequest_claimed_accepted ready mine ?_)⟩
  · simp only [State.sendZeros_rooms, unused]
  · refine (settleRule_eq (by simpa using configured) .fo).trans (if_pos ?_)
    exact (State.sessionAt_iff _ i).mpr session
  · refine ((settleRule_eq (by simpa using configured) .fo).trans (if_neg ?_)).trans ?_
    · exact fun held => noSession ((State.sessionAt_iff _ i).mp held)
    · exact settleRoom_sendZeros s .fo .fo _ i _

end

section
/-! The reading requests (R9, R29, R66, R75, R93, R157, R195): each changes nothing and sends the items its rule lists. -/

namespace Sys2Proof.Machine

-- One theorem at a time: each check by the kernel then needs one stack.
set_option Elab.async false

open Sys2Proof

/-! ## Items -/

theorem stateAndReason_eq (st : CardState) : byte st.code ++ byte st.reasonCode
    = match st with
      | .active => byte 1 ++ byte 0
      | .suspended => byte 2 ++ byte 0
      | .revoked why => byte 3 ++ byte why.code := by
  cases st <;> rfl

theorem portCode_eq (p : Port) : portCode p = match p with | .fo => 1 | .se => 2 := by
  cases p <;> rfl

theorem holderCode_eq (p : Option Port) : holderCode p = match p with | none => 0 | some .fo => 1 | some .se => 2 := by
  match p with
  | none | some .fo | some .se => rfl

theorem statusItem_eq (x : Option UnitStatus) : statusItem x
    = match x with | none => byte 0 ++ byte 0 | some x => byte x.mode.code ++ byte (if x.released then 1 else 0) := by
  cases x <;> rfl

theorem answerBitCode_eq (b : Option Bool) :
    answerBitCode b = match b with | none => 0xFF | some b => if b then 1 else 0 := by
  cases b <;> rfl

theorem entranceItem_eq (r : UnitRec) : r.entranceItem = match r.kind with | .gateReader _ => 0 | _ => r.entrance.code := rfl

theorem grantItems_eq (g : Option Grant) : grantItems g = match g with
    | none => [0, 0, 0, 0, 0]
    | some g => byte 1 ++ be 3 (g.card.getD 0) ++ flag g.acknowledged := by
  cases g <;> rfl

theorem sessionItems_eq (x : Option Session) : sessionItems x = match x with
    | none => [0, 0, 0, 0]
    | some x => byte 1 ++ byte (match x.phase with | .awaitingOpen _ => 2 | .inUse => 3)
      ++ byte (match x.kind with | .guest => 1 | .restock => 2) ++ byte x.slot.val := by
  match x with
  | none => rfl
  | some { kind, phase, .. } => cases kind <;> cases phase <;> rfl

theorem lockItem_eq (u : Option UnitId) : optUnitBytes u = match u with
    | none => [0, 0]
    | some u => byte (match busOf u with | .a => 1 | .b => 2) ++ byte (addressOf u) := by
  match u with
  | none => rfl
  | some u =>
    simp only [optUnitBytes, unitBytes, busCode] <;> cases busOf u <;> rfl

/-- A record's items, its state and its reason together. -/
theorem Credential.bytes_eq (c : Credential) (site : Nat) : c.bytes site = be 3 c.number ++ byte c.cls.val
    ++ byte ((c.slot?.map Fin.val).getD 0) ++ byte ((c.binding.map RoomBinding.generation).getD 0) ++ be 2 c.issueNumber
    ++ byte ((if c.first then 1 else 0) + (if c.final then 2 else 0))
    ++ be 2 c.window.start.day ++ be 2 c.window.start.minute ++ be 2 c.window.stop.day ++ be 2 c.window.stop.minute
    ++ (match c.state with
        | .active => byte 1 ++ byte 0
        | .suspended => byte 2 ++ byte 0
        | .revoked why => byte 3 ++ byte why.code)
    ++ byte (match c.issuedBy with | .fo => 1 | .se => 2) ++ c.imageBytes site := by
  rw [← stateAndReason_eq, ← portCode_eq]
  simp only [Credential.bytes, Window.bytes, Moment.bytes, List.append_assoc] <;> rfl

/-- The schedule's entries, each with its position. -/
theorem scheduleBytes_eq (schedule : List ScheduleEntry) (n : Nat) : scheduleBytes n schedule
    = (schedule.zipIdx n).flatMap fun e => byte e.2 ++ be 2 e.1.minute ++ byte e.1.gates.toNat ++ byte e.1.level.code := by
  induction schedule generalizing n with
  | nil => rfl
  | cons e rest ih =>
    rw [scheduleBytes, ih, List.zipIdx_cons, List.flatMap_cons]
    simp only [ScheduleEntry.bytes, gateSetByte, List.append_assoc]

theorem stayItem_eq (x : Option Stay) : stayBytes x = match x with
    | none => List.replicate 16 0
    | some st => st.arrival.bytes ++ st.departure.bytes ++ st.window.bytes := by
  cases x <;> rfl

/-! ## Readings -/

/-- A reading answers from the state as it stands, whatever bytes were sent meanwhile. -/
theorem State.takeRequest_read {s : State} {rq : Request} {p : Port} {rule : State → Reply} {st : Status} {body : List Byte}
    (ready : s.Ready rq p) (reads : ∀ x, rule x = (x, { status := st, body := (rule x).2.body }))
    (blind : ∀ n, (rule (s.sendZeros p n)).2.body = (rule s).2.body) (items : (rule s).2.body = body) :
    s.takeRequest rq p rule = s.withAnswer rq p st body := by
  refine State.takeRequest_refused ready ?_
  rw [reads, blind, items]

end Sys2Proof.Machine

open Sys2Proof Sys2Proof.Machine

/-- Settles O11: each reading leaves the state, and its body is the items of its rule, item by item. -/
theorem readRequestsChangeNothing : Obligations.ReadRequestsChangeNothing := by
  unfold Obligations.ReadRequestsChangeNothing
  refine ⟨fun s p => ?_, fun _ _ _ _ => ⟨rfl, rfl⟩, rfl, rfl, rfl, rfl, rfl, rfl⟩
  refine ⟨fun ready => exec_answered rfl (State.takeRequest_read ready (fun _ => rfl) (fun n => by cases p <;> rfl) rfl),
    fun ready i => exec_answered rfl (State.takeRequest_read ready (fun x => ?_) (fun n => ?_) ?_),
    fun ready b bad => exec_answered rfl (State.takeRequest_refused ready ?_),
    fun ready => exec_answered rfl (State.takeRequest_refused ready rfl),
    fun ready number named => ⟨fun missing => exec_answered rfl (State.takeRequest_refused ready ?_), fun c found =>
      exec_answered rfl (State.takeRequest_refused ready ?_)⟩,
    fun ready u => exec_answered rfl (State.takeRequest_read ready (fun x => ?_) (fun n => ?_) ?_),
    fun ready b a bad => exec_answered rfl (State.takeRequest_refused ready ?_),
    fun ready line => exec_answered rfl (State.takeRequest_read ready (fun x => ?_) (fun n => ?_) ?_),
    fun ready b a other => exec_answered rfl (State.takeRequest_refused ready ?_),
    fun ready => exec_answered rfl (State.takeRequest_read ready (fun x => rfl) (fun n => by cases p <;> rfl) ?_),
    fun ready => exec_answered rfl (State.takeRequest_read ready (fun x => rfl) (fun n => by cases p <;> rfl) ?_)⟩
  · simp only [ruleOf, readRoom, slotOf?_slotByte] <;> rfl
  · simp only [ruleOf, readRoom, slotOf?_slotByte] <;> cases p <;> rfl
  · simp only [ruleOf, readRoom, slotOf?_slotByte, accept, stayItem_eq, holderCode_eq, lockItem_eq, CardTable.liveOf_length] <;> rfl
  · simp only [ruleOf, readRoom, slotOf?_eq_none bad] <;> rfl
  · simp only [ruleOf, readCard, State.sendZeros_table, missing, if_neg named] <;> rfl
  · have found : s.table.find number.toNat = some c := found
    simp only [ruleOf, readCard, State.sendZeros_table, found, if_neg named, accept, Credential.bytes_eq] <;> rfl
  · simp only [ruleOf, readUnit, unitOf?_bytes] <;> rfl
  · simp only [ruleOf, readUnit, unitOf?_bytes] <;> cases p <;> rfl
  · simp only [ruleOf, readUnit, unitOf?_bytes, accept, grantItems_eq, sessionItems_eq, UnitRec.bytes, statusItem_eq,
      answerBitCode_eq] <;> rfl
  · simp only [ruleOf, readUnit, unitOf?_eq_none bad] <;> rfl
  · simp only [ruleOf, readBus, busOf?_code] <;> rfl
  · simp only [ruleOf, readBus, busOf?_code] <;> cases p <;> rfl
  · simp only [ruleOf, readBus, busOf?_code] <;> rfl
  · simp only [ruleOf, readBus, busOf?_eq_none a other] <;> rfl
  · simp only [ruleOf, readGates, accept, scheduleBytes_eq] <;> rfl
  · cases p <;> rfl

end

section
/-! CHECK IN and ADD CARDS (R25, R26, R54 to R56): the admission's checks in order, the batch's ISSUE records, and each request's
own rule. -/

namespace Sys2Proof.Machine

-- One theorem at a time: each check by the kernel then needs one stack.
set_option Elab.async false

open Sys2Proof

/-! ## Admission (R54) -/

section
variable {t : CardTable} {i : Slot} {n : Nat}

theorem CardTable.admitBatch_noSite (site : t.site = 0) : t.admitBatch i n = some .noSite := if_pos site

variable (site : t.site ≠ 0)
include site

theorem CardTable.admitBatch_limit (many : 8 < (t.liveOf i).length + n) : t.admitBatch i n = some .limit :=
  (if_neg site).trans (if_pos many)

variable (few : (t.liveOf i).length + n ≤ 8)
include few

theorem CardTable.admitBatch_tableFull (full : t.revoked.length < n - (1024 - t.cards.length)) :
    t.admitBatch i n = some .tableFull := by
  have none' : t.hasSpace n = false := decide_eq_false (not_le.mpr full)
  simp [CardTable.admitBatch, Config.maxRoomCards, site, not_lt.mpr few, none']

theorem CardTable.admitBatch_admitted (space : n - (1024 - t.cards.length) ≤ t.revoked.length) : t.admitBatch i n = none := by
  have some' : t.hasSpace n = true := decide_eq_true space
  simp [CardTable.admitBatch, Config.maxRoomCards, site, not_lt.mpr few, some']

end

/-! ## The fields -/

theorem batchClass_ofNat {cls : Fin 8} (guest : cls.val < 4) : batchClass (BitVec.ofNat 8 cls.val) = cls := by
  simp [batchClass, guestClass?, indexOf?_ofNat, Option.filter, guest]

theorem count_toNat {n : Nat} (most : n ≤ 8) : (BitVec.ofNat 8 n).toNat = n := by
  rw [BitVec.toNat_ofNat]
  exact Nat.mod_eq_of_lt (by omega)

theorem batchFields_ofNat {cls : Fin 8} {n : Nat} (guest : cls.val < 4) (least : 1 ≤ n) (most : n ≤ 8) :
    batchFields (BitVec.ofNat 8 cls.val) (BitVec.ofNat 8 n) = true := by
  have small : (BitVec.ofNat 8 cls.val).toNat = cls.val := by
    rw [BitVec.toNat_ofNat]
    exact Nat.mod_eq_of_lt (by omega)
  rw [batchFields_iff, small, count_toNat most]
  exact ⟨guest, least, most⟩

/-! ## The ISSUE records of a batch (R56) -/

/-- One ISSUE record, of the card at a place of the batch; the first carries the number of records reclaimed. -/
def State.logIssue (p : Port) (reclaimed : Nat) (s : State) (card : Credential × Nat) : State :=
  s.append (.port p) (some card.1.number) card.1.slot? (.issue card.1.cls card.1.issueNumber card.1.first card.1.final
    (card.1.binding.map RoomBinding.generation) (if card.2 = 0 then reclaimed else 0))

theorem logIssues_rest (p : Port) (reclaimed : Nat) (cards : List Credential) (k : Nat) (s : State) :
    logIssues p 0 cards s = (cards.zipIdx (k + 1)).foldl (State.logIssue p reclaimed) s := by
  induction cards generalizing s k with
  | nil => rfl
  | cons c cards ih => exact ih (k + 1) _

theorem logIssues_eq (p : Port) (reclaimed : Nat) (cards : List Credential) (s : State) :
    logIssues p reclaimed cards s = cards.zipIdx.foldl (State.logIssue p reclaimed) s := by
  cases cards with
  | nil => rfl
  | cons c cards => exact logIssues_rest p reclaimed cards 0 _

section
variable (p : Port) (i : Slot) (cls : Fin 8) (w : Window) (n : Nat)

/-- The records of a batch: each card's place tells its flags. -/
theorem logIssues_issueCards (reclaimed : Nat) (s t : State) :
    logIssues p reclaimed (issueCards p i cls w n n s).2 t = (issueCards p i cls w n n s).2.zipIdx.foldl (fun x c =>
      x.append (.port p) (some c.1.number) (some i) (.issue cls.val c.1.issueNumber (decide (c.2 = 0)) (decide (c.2 + 1 = n))
        (some s.rooms[i].generation) (if c.2 = 0 then reclaimed else 0))) t := by
  rw [logIssues_eq]
  refine List.foldl_ext _ _ _ fun x c mem => ?_
  obtain ⟨card, k⟩ := c
  have there : card ∈ (issueCards p i cls w n n s).2[k]? := List.mem_zipIdx_iff_getElem?.mp mem
  have first : decide (n = n + k) = decide (k = 0) := decide_eq_decide.mpr (by omega)
  rw [issueCards_mem there]
  simp only [State.logIssue, batchCardAt, Credential.slot?, Option.map_some, first]

theorem logIssues_issueBatch (reclaimed : Nat) (s t : State) :
    logIssues p reclaimed (s.issueBatch p i cls w n).2 t = (s.issueBatch p i cls w n).2.zipIdx.foldl (fun x c =>
      x.append (.port p) (some c.1.number) (some i) (.issue cls.val c.1.issueNumber (decide (c.2 = 0)) (decide (c.2 + 1 = n))
        (some s.rooms[i].generation) (if c.2 = 0 then reclaimed else 0))) t :=
  logIssues_issueCards p i cls w n reclaimed { s with table := s.table.reclaim n } t

theorem issueCards_succ (left : Nat) (s : State) :
    issueCards p i cls w n (left + 1) s
      = ((issueCards p i cls w n left ((s.setRoom i { s.rooms[i] with
          issueCounter := (s.batchCard p i cls w n left).issueNumber }).setTable (s.table.create (s.batchCard p i cls w n left)))).1,
        s.batchCard p i cls w n left :: (issueCards p i cls w n left ((s.setRoom i { s.rooms[i] with
          issueCounter := (s.batchCard p i cls w n left).issueNumber }).setTable (s.table.create (s.batchCard p i cls w n left)))).2) :=
  rfl

theorem issueCards_sendZeros (q : Port) (m left : Nat) (s : State) :
    issueCards p i cls w n left (s.sendZeros q m)
      = ((issueCards p i cls w n left s).1.sendZeros q m, (issueCards p i cls w n left s).2) := by
  induction left generalizing s with
  | zero => rfl
  | succ left ih =>
    have card : (s.sendZeros q m).batchCard p i cls w n left = s.batchCard p i cls w n left := by
      simp only [State.batchCard, State.sendZeros_rooms, State.sendZeros_table]
    simp only [issueCards_succ, card, State.sendZeros_rooms, State.sendZeros_table, State.setRoom_sendZeros, State.setTable_sendZeros,
      ih]

theorem State.issueBatch_sendZeros (q : Port) (m : Nat) (s : State) :
    (s.sendZeros q m).issueBatch p i cls w n = ((s.issueBatch p i cls w n).1.sendZeros q m, (s.issueBatch p i cls w n).2) := by
  rw [State.issueBatch, State.sendZeros_table]
  exact (congrArg (issueCards p i cls w n n) (s.setTable_sendZeros q m _)).trans (issueCards_sendZeros p i cls w n q m n _)

theorem logIssues_sendZeros (q : Port) (m reclaimed : Nat) (cards : List Credential) (s : State) :
    logIssues p reclaimed cards (s.sendZeros q m) = (logIssues p reclaimed cards s).sendZeros q m := by
  induction cards generalizing s reclaimed with
  | nil => rfl
  | cons c cards ih => simp only [logIssues, State.append_sendZeros, ih]

theorem State.issueBatch_site (s : State) : (s.issueBatch p i cls w n).1.table.site = s.table.site := by
  rw [State.issueBatch, issueCards_table, CardTable.createAll_site]
  rfl

theorem State.issueBatch_length (s : State) : (s.issueBatch p i cls w n).2.length = n := issueCards_length p i cls w n n _

end

end Sys2Proof.Machine
end

section
/-! CHECK IN's and ADD CARDS' own rules (R25, R26), check by check. -/

namespace Sys2Proof.Machine

-- One theorem at a time: each check by the kernel then needs one stack.
set_option Elab.async false

open Sys2Proof

section
variable (s : State) (i : Slot) (number : Nat) (cls : Fin 8) (n : Nat) (allowance : Nat)

/-- The room let and its account opened by a check-in (R25). -/
def State.house (stay : Stay) : State :=
  (s.setRoom i { s.rooms[i] with generation := (s.rooms[i].generation + 1) % 256, occupancy := .letTo number stay }).setAccount i
    { s.accounts[i] with granted := min 999999 allowance, remaining := min 999999 allowance, ceilingMet := false,
                         blocked := decide (min 999999 allowance = 0) }

/-- The batch of a check-in with its STAY and ISSUE records. -/
def State.checkedIn (stay : Stay) : State :=
  let issued := (s.house i number allowance stay).issueBatch .fo i cls stay.window n
  logIssues .fo (s.table.shortfall n) issued.2
    (issued.1.append (.port .fo) none (some i) (.stayCheckIn ((s.rooms[i].generation + 1) % 256) stay.window n))

theorem State.house_sendZeros (q : Port) (m : Nat) (stay : Stay) :
    (s.sendZeros q m).house i number allowance stay = (s.house i number allowance stay).sendZeros q m := by
  simp only [State.house, State.sendZeros_rooms, State.sendZeros_accounts, State.setRoom_sendZeros, State.setAccount_sendZeros]

theorem logIssues_table (p : Port) (k : Nat) (cards : List Credential) : (logIssues p k cards s).table = s.table :=
  (logIssues_same s p k cards).agree .table

theorem State.house_room (stay : Stay) : (s.house i number allowance stay).rooms[i].generation = (s.rooms[i].generation + 1) % 256 :=
  congrArg Room.generation (Vector.getElem_set_self i.isLt)

theorem State.checkedIn_eq (stay : Stay) : s.checkedIn i number cls n allowance stay
    = ((s.house i number allowance stay).issueBatch .fo i cls stay.window n).2.zipIdx.foldl (fun x c =>
      x.append (.port .fo) (some c.1.number) (some i)
        (.issue cls.val c.1.issueNumber (decide (c.2 = 0)) (decide (c.2 + 1 = n)) (some ((s.rooms[i].generation + 1) % 256))
          (if c.2 = 0 then s.table.shortfall n else 0)))
      (((s.house i number allowance stay).issueBatch .fo i cls stay.window n).1.append (.port .fo) none (some i)
        (.stayCheckIn ((s.rooms[i].generation + 1) % 256) stay.window n)) := by
  simp only [State.checkedIn, logIssues_issueBatch, State.house_room]

theorem State.checkedIn_sendZeros (q : Port) (m : Nat) (stay : Stay) :
    (s.sendZeros q m).checkedIn i number cls n allowance stay = (s.checkedIn i number cls n allowance stay).sendZeros q m := by
  simp only [State.checkedIn, State.house_sendZeros, State.issueBatch_sendZeros, State.append_sendZeros, logIssues_sendZeros,
    State.sendZeros_table, State.sendZeros_rooms]

theorem State.checkedIn_site (stay : Stay) : (s.checkedIn i number cls n allowance stay).table.site = s.table.site := by
  simp only [State.checkedIn, logIssues_table, State.append_table, State.issueBatch_site]
  rfl

theorem checkInRoom_eq (stay : Stay) :
    checkInRoom .fo i number cls n stay allowance s = accept (s.checkedIn i number cls n allowance stay)
      (byte ((s.rooms[i].generation + 1) % 256) ++ stay.window.bytes ++ be 3 (min 999999 allowance)
        ++ (byte n ++ ((s.house i number allowance stay).issueBatch .fo i cls stay.window n).2.flatMap fun c =>
          c.imageBytes s.table.site) ++ byte (s.table.shortfall n)) := by
  have stored : clamp 0 Config.allowanceCeiling allowance = min 999999 allowance := Nat.zero_max _
  have images : imageList (s.checkedIn i number cls n allowance stay).table.site
        ((s.house i number allowance stay).issueBatch .fo i cls stay.window n).2
      = byte n ++ ((s.house i number allowance stay).issueBatch .fo i cls stay.window n).2.flatMap fun c =>
        c.imageBytes s.table.site := by
    rw [imageList, State.issueBatch_length, State.checkedIn_site]
  rw [← images]
  simp only [checkInRoom, stored]
  rfl

/-- The batch of an ADD CARDS with its ISSUE records. -/
def State.cardsAdded (w : Window) : State :=
  logIssues .fo (s.table.shortfall n) (s.issueBatch .fo i cls w n).2 (s.issueBatch .fo i cls w n).1

theorem State.cardsAdded_eq (w : Window) : s.cardsAdded i cls n w
    = (s.issueBatch .fo i cls w n).2.zipIdx.foldl (fun x c => x.append (.port .fo) (some c.1.number) (some i)
      (.issue cls.val c.1.issueNumber (decide (c.2 = 0)) (decide (c.2 + 1 = n)) (some s.rooms[i].generation)
        (if c.2 = 0 then s.table.shortfall n else 0))) (s.issueBatch .fo i cls w n).1 :=
  logIssues_issueBatch .fo i cls w n _ s _

theorem State.cardsAdded_sendZeros (q : Port) (m : Nat) (w : Window) :
    (s.sendZeros q m).cardsAdded i cls n w = (s.cardsAdded i cls n w).sendZeros q m := by
  simp only [State.cardsAdded, State.issueBatch_sendZeros, logIssues_sendZeros, State.sendZeros_table]

theorem addCardsTo_eq (w : Window) : addCardsTo .fo i cls n w s = accept (s.cardsAdded i cls n w)
    ((byte n ++ (s.issueBatch .fo i cls w n).2.flatMap fun c => c.imageBytes s.table.site) ++ byte (s.table.shortfall n)) := by
  have site : (s.cardsAdded i cls n w).table.site = s.table.site := by
    rw [State.cardsAdded, logIssues_table, State.issueBatch_site]
  have images : imageList (s.cardsAdded i cls n w).table.site (s.issueBatch .fo i cls w n).2
      = byte n ++ (s.issueBatch .fo i cls w n).2.flatMap fun c => c.imageBytes s.table.site := by
    rw [imageList, State.issueBatch_length, site]
  rw [← images]
  rfl

end

/-! ## The rules after R24's checks -/

/-- What CHECK IN does once its fields and its claim are in order (R25). -/
def checkInRule (cls : Fin 8) (n : Nat) (a d : DayMinute) (allowance : Triple) (i : Slot) (s : State) : Reply :=
  match s.rooms[i].occupancy with
  | .vacant number =>
    if s.unsettled i then refuse .unsettled s
    else if !s.clock.clockSet then refuse .noClock s
    else
      match deriveWindow (momentOf a) (momentOf d) s.clock.grace s.nowIndex with
      | none => refuse .badWindow s
      | some w =>
        match s.table.admitBatch i n with
        | some st => refuse st s
        | none =>
          checkInRoom .fo i number cls n { arrival := momentOf a, departure := momentOf d, window := w } allowance.toNat s
  | _ => refuse .wrongState s

/-- What ADD CARDS does once its fields and its claim are in order (R26). -/
def addCardsRule (cls : Fin 8) (n : Nat) (i : Slot) (s : State) : Reply :=
  match s.rooms[i].occupancy with
  | .letTo _ stay =>
    if !s.clock.clockSet then refuse .noClock s
    else if stay.window.stop.index ≤ s.nowIndex then refuse .badWindow s
    else
      match s.table.admitBatch i n with
      | some st => refuse st s
      | none => addCardsTo .fo i cls n stay.window s
  | _ => refuse .wrongState s

section
variable {cls : Fin 8} {n : Nat} (guest : cls.val < 4) (least : 1 ≤ n) (most : n ≤ 8)
include guest least most

theorem checkIn_eq (i : Slot) (a d : DayMinute) (allowance : Triple) :
    checkIn .fo (slotByte i) (BitVec.ofNat 8 cls.val) (BitVec.ofNat 8 n) a d allowance
      = claimed .fo (slotByte i) true (checkInRule cls n a d allowance) := by
  unfold checkIn
  rw [batchFields_ofNat guest least most, batchClass_ofNat guest, count_toNat most]
  rfl

theorem addCards_eq (i : Slot) :
    addCards .fo (slotByte i) (BitVec.ofNat 8 cls.val) (BitVec.ofNat 8 n) = claimed .fo (slotByte i) true (addCardsRule cls n) := by
  unfold addCards
  rw [batchFields_ofNat guest least most, batchClass_ofNat guest, count_toNat most]
  rfl

end

section
variable {cls : Fin 8} {n : Nat} {a d : DayMinute} {allowance : Triple} {i : Slot} {s : State}

theorem checkInRule_notVacant (h : ∀ number, s.rooms[i].occupancy ≠ .vacant number) :
    checkInRule cls n a d allowance i s = refuse .wrongState s := by
  unfold checkInRule
  split
  · rename_i number vacant
    exact absurd vacant (h number)
  · rfl

section
variable {number : Nat} (vacant : s.rooms[i].occupancy = .vacant number)
include vacant

theorem checkInRule_unsettled (owing : s.unsettled i = true) : checkInRule cls n a d allowance i s = refuse .unsettled s := by
  simp only [checkInRule, vacant, owing, if_true]

variable (settled : s.unsettled i = false)
include settled

theorem checkInRule_noClock (notSet : s.clock.clockSet = false) : checkInRule cls n a d allowance i s = refuse .noClock s := by
  simp only [checkInRule, vacant, settled, notSet, Bool.not_false, Bool.false_eq_true, if_true, if_false]

variable (set : s.clock.clockSet = true)
include set

theorem checkInRule_badWindow (failed : deriveWindow (momentOf a) (momentOf d) s.clock.grace s.nowIndex = none) :
    checkInRule cls n a d allowance i s = refuse .badWindow s := by
  simp only [checkInRule, vacant, settled, set, failed, Bool.not_true, Bool.false_eq_true, if_false]

variable {w : Window} (derived : deriveWindow (momentOf a) (momentOf d) s.clock.grace s.nowIndex = some w)
include derived

theorem checkInRule_notAdmitted {st : Status} (refused : s.table.admitBatch i n = some st) :
    checkInRule cls n a d allowance i s = refuse st s := by
  simp only [checkInRule, vacant, settled, set, derived, refused, Bool.not_true, Bool.false_eq_true, if_false]

theorem checkInRule_admitted (admitted : s.table.admitBatch i n = none) : checkInRule cls n a d allowance i s
    = checkInRoom .fo i number cls n { arrival := momentOf a, departure := momentOf d, window := w } allowance.toNat s := by
  simp only [checkInRule, vacant, settled, set, derived, admitted, Bool.not_true, Bool.false_eq_true, if_false]

end

theorem addCardsRule_notLet (h : ∀ number stay, s.rooms[i].occupancy ≠ .letTo number stay) :
    addCardsRule cls n i s = refuse .wrongState s := by
  unfold addCardsRule
  split
  · rename_i number stay occupied
    exact absurd occupied (h number stay)
  · rfl

section
variable {number : Nat} {stay : Stay} (occupied : s.rooms[i].occupancy = .letTo number stay)
include occupied

theorem addCardsRule_noClock (notSet : s.clock.clockSet = false) : addCardsRule cls n i s = refuse .noClock s := by
  simp only [addCardsRule, occupied, notSet, Bool.not_false, if_true]

variable (set : s.clock.clockSet = true)
include set

theorem addCardsRule_badWindow (past : stay.window.stop.index ≤ s.nowIndex) : addCardsRule cls n i s = refuse .badWindow s := by
  simp only [addCardsRule, occupied, set, Bool.not_true, Bool.false_eq_true, if_false, if_pos past]

variable (live : s.nowIndex < stay.window.stop.index)
include live

theorem addCardsRule_notAdmitted {st : Status} (refused : s.table.admitBatch i n = some st) :
    addCardsRule cls n i s = refuse st s := by
  simp only [addCardsRule, occupied, set, Bool.not_true, Bool.false_eq_true, if_false, if_neg (not_le.mpr live), refused]

theorem addCardsRule_admitted (admitted : s.table.admitBatch i n = none) :
    addCardsRule cls n i s = addCardsTo .fo i cls n stay.window s := by
  simp only [addCardsRule, occupied, set, Bool.not_true, Bool.false_eq_true, if_false, if_neg (not_le.mpr live), admitted]

end

end

end Sys2Proof.Machine

open Sys2Proof Sys2Proof.Machine

/-- Settles O25: each request's checks in their order, the admission's checks in theirs, and the batch's records by its places. -/
theorem checkInAndAddCardsIssueABatch : Obligations.CheckInAndAddCardsIssueABatch := by
  unfold Obligations.CheckInAndAddCardsIssueABatch
  intro s i cls n a d allowance ready mine guest least most
  have add : s.Ready .addCards .fo := ready
  have checkInAs {t : State} (taken : s.takeRequest .checkIn .fo (claimed .fo (slotByte i) true (checkInRule cls n a d allowance)) = t) :
      exec (.checkIn .fo (slotByte i) (BitVec.ofNat 8 cls.val) (BitVec.ofNat 8 n) a d allowance) s = .next t :=
    exec_answered rfl (by rw [← taken, ← checkIn_eq guest least most]; rfl)
  have addAs {t : State} (taken : s.takeRequest .addCards .fo (claimed .fo (slotByte i) true (addCardsRule cls n)) = t) :
      exec (.addCards .fo (slotByte i) (BitVec.ofNat 8 cls.val) (BitVec.ofNat 8 n)) s = .next t :=
    exec_answered rfl (by rw [← taken, ← addCards_eq guest least most]; rfl)
  simp only [← CardTable.liveOf_length, ← State.unsettled_iff, Bool.not_eq_true]
  refine ⟨fun h => checkInAs (State.takeRequest_claimed_refused ready mine (by simp) (checkInRule_notVacant h)),
    fun h => addAs (State.takeRequest_claimed_refused add mine (by simp) (addCardsRule_notLet h)),
    fun number vacant => ⟨fun owing => checkInAs (State.takeRequest_claimed_refused ready mine (by simp)
        (checkInRule_unsettled vacant owing)),
      fun settled notSet => checkInAs (State.takeRequest_claimed_refused ready mine (by simp)
        (checkInRule_noClock vacant settled notSet)),
      fun settled set failed => checkInAs (State.takeRequest_claimed_refused ready mine (by simp)
        (checkInRule_badWindow vacant settled set failed)),
      fun settled set w derived => ?_⟩,
    fun number stay occupied => ⟨fun notSet => addAs (State.takeRequest_claimed_refused add mine (by simp)
        (addCardsRule_noClock occupied notSet)),
      fun set past => addAs (State.takeRequest_claimed_refused add mine (by simp) (addCardsRule_badWindow occupied set past)),
      fun set live => ?_⟩⟩
  · have refused {st : Status} (failed : st ≠ .ok) (out : s.table.admitBatch i n = some st) :=
      checkInAs (State.takeRequest_claimed_refused ready mine failed (checkInRule_notAdmitted (s := s.sendZeros .fo _) vacant settled set derived out))
    refine ⟨fun site => refused (by simp) (CardTable.admitBatch_noSite site), fun site many => refused (by simp)
      (CardTable.admitBatch_limit site many), fun site few full => refused (by simp) (CardTable.admitBatch_tableFull site few full),
      fun site few space => checkInAs (State.takeRequest_claimed_accepted ready mine
        ((checkInRule_admitted (s := s.sendZeros .fo _) vacant settled set derived (CardTable.admitBatch_admitted site few space)).trans ?_))⟩
    rw [checkInRoom_eq, State.checkedIn_sendZeros, State.checkedIn_eq, State.house_sendZeros, State.issueBatch_sendZeros]
    rfl
  · have refused {st : Status} (failed : st ≠ .ok) (out : s.table.admitBatch i n = some st) :=
      addAs (State.takeRequest_claimed_refused add mine failed (addCardsRule_notAdmitted (s := s.sendZeros .fo _) occupied set live out))
    refine ⟨fun site => refused (by simp) (CardTable.admitBatch_noSite site), fun site many => refused (by simp)
      (CardTable.admitBatch_limit site many), fun site few full => refused (by simp) (CardTable.admitBatch_tableFull site few full),
      fun site few space => addAs (State.takeRequest_claimed_accepted add mine
        ((addCardsRule_admitted (s := s.sendZeros .fo _) occupied set live (CardTable.admitBatch_admitted site few space)).trans ?_))⟩
    rw [addCardsTo_eq, State.cardsAdded_sendZeros, State.cardsAdded_eq, State.issueBatch_sendZeros]
    rfl

end

section
/-! ISSUE STAFF (R58, R59): the five checks in order, the card, and the card it supersedes. -/

namespace Sys2Proof.Machine

-- One theorem at a time: each check by the kernel then needs one stack.
set_option Elab.async false

open Sys2Proof

/-! ## The checks -/

theorem admitStaff_noSite {t : CardTable} (site : t.site = 0) : t.admitStaff = some .noSite := if_pos site

theorem admitStaff_tableFull {t : CardTable} (site : t.site ≠ 0) (full : t.cards.length = 1024) (empty : t.revoked = []) :
    t.admitStaff = some .tableFull := by
  simp [CardTable.admitStaff, site, CardTable.hasSpace, CardTable.shortfall, full, empty, Config.maxCards]

theorem shortfall_one {t : CardTable} (le : t.cards.length ≤ 1024) : t.shortfall 1 = if t.cards.length < 1024 then 0 else 1 := by
  simp only [CardTable.shortfall, Config.maxCards]
  split <;> omega

theorem admitStaff_admitted {t : CardTable} (site : t.site ≠ 0)
    (room : t.cards.length < 1024 ∨ (t.cards.length = 1024 ∧ t.revoked ≠ [])) : t.admitStaff = none := by
  have space : t.shortfall 1 ≤ t.revoked.length := by
    rw [shortfall_one (by omega)]
    rcases room with room | ⟨full, revoked⟩
    · simp [room]
    · have := List.length_pos_iff.mpr revoked
      split <;> omega
  simp [CardTable.admitStaff, site, CardTable.hasSpace, space]

theorem replaceCheck_notFound {t : CardTable} {n : Nat} (named : n ≠ 0) (missing : t.find n = none) :
    t.replaceCheck n = some .notFound := by
  simp [CardTable.replaceCheck, named, missing]

theorem replaceCheck_wrongState {t : CardTable} {n : Nat} (named : n ≠ 0) {c : Credential} (found : t.find n = some c)
    (bound : c.binding.isSome = true) : t.replaceCheck n = some .wrongState := by
  simp [CardTable.replaceCheck, named, found, bound]

theorem replaceCheck_passed {t : CardTable} {n : Nat} (staff : n = 0 ∨ ∃ c ∈ t.find n, c.binding = none) : t.replaceCheck n = none := by
  by_cases named : n = 0
  · exact if_pos named
  · obtain ⟨c, found, free⟩ := staff.resolve_left named
    have found : t.find n = some c := found
    simp [CardTable.replaceCheck, named, found, free]

/-- A record found after reclamation is the one that was found before. -/
theorem find_reclaim {t : CardTable} {k n : Nat} {c : Credential} (found : (t.reclaim k).find n = some c) : t.find n = some c := by
  have kept : t.cards.find? (fun c => !(t.revoked.take (t.shortfall k)).contains c.number && c.number == n) = some c := by
    simpa only [CardTable.find, CardTable.reclaim, List.find?_filter, Bool.decide_and, Bool.decide_eq_true] using found
  have both := List.find?_some kept
  simp only [Bool.and_eq_true, beq_iff_eq] at both
  obtain ⟨free, number⟩ := both
  have same : (fun d : Credential => !(t.revoked.take (t.shortfall k)).contains d.number && d.number == n) = fun d => d.number == n := by
    funext d
    cases there : d.number == n with
    | false => exact Bool.and_false _
    | true => rw [beq_iff_eq.mp there, ← number, free, Bool.true_and]
  rwa [same] at kept

section
variable {cls : Byte} {start stop : DayMinute} {old : Triple} {s : State}

theorem issueStaff_badClass (bad : cls.toNat < 4 ∨ 7 < cls.toNat) : issueStaff .se cls start stop old s = refuse .badValue s := by
  rcases bad with guest | unknown
  · simp only [issueStaff, indexOf?_eq_some (by omega : cls.toNat < 8), if_pos guest]
  · simp only [issueStaff, indexOf?_eq_none unknown]

variable {k : Fin 8} (staff : 4 ≤ k.val)
include staff

theorem issueStaff_noClock (notSet : s.clock.clockSet = false) :
    issueStaff .se (BitVec.ofNat 8 k.val) start stop old s = refuse .noClock s := by
  simp only [issueStaff, indexOf?_ofNat, if_neg (not_lt.mpr staff), notSet, Bool.not_false, if_true]

variable (set : s.clock.clockSet = true)
include set

theorem issueStaff_badWindow (failed : windowChecks (momentOf start) (momentOf stop) s.nowIndex = false) :
    issueStaff .se (BitVec.ofNat 8 k.val) start stop old s = refuse .badWindow s := by
  simp only [issueStaff, indexOf?_ofNat, if_neg (not_lt.mpr staff), set, failed, Bool.not_true, Bool.not_false, Bool.false_eq_true,
    if_true, if_false]

variable (passed : windowChecks (momentOf start) (momentOf stop) s.nowIndex = true)
include passed

theorem issueStaff_notReplaced {st : Status} (refused : s.table.replaceCheck old.toNat = some st) :
    issueStaff .se (BitVec.ofNat 8 k.val) start stop old s = refuse st s := by
  simp only [issueStaff, indexOf?_ofNat, if_neg (not_lt.mpr staff), set, passed, refused, Bool.not_true, Bool.false_eq_true, if_false]

variable (replaced : s.table.replaceCheck old.toNat = none)
include replaced

theorem issueStaff_notAdmitted {st : Status} (refused : s.table.admitStaff = some st) :
    issueStaff .se (BitVec.ofNat 8 k.val) start stop old s = refuse st s := by
  simp only [issueStaff, indexOf?_ofNat, if_neg (not_lt.mpr staff), set, passed, replaced, refused, Bool.not_true,
    Bool.false_eq_true, if_false]

theorem issueStaff_admitted (admitted : s.table.admitStaff = none) :
    issueStaff .se (BitVec.ofNat 8 k.val) start stop old s
      = issueStaffCard .se k { start := momentOf start, stop := momentOf stop } old.toNat s := by
  simp only [issueStaff, indexOf?_ofNat, if_neg (not_lt.mpr staff), set, passed, replaced, admitted, Bool.not_true,
    Bool.false_eq_true, if_false]

end

/-! ## The card and the card it supersedes -/

theorem supersede_filter (t : CardTable) (old : Option Credential) : t.supersede old
    = match old.filter fun c => !c.isRevoked with
      | some c => t.revoke c.number .superseded
      | none => t := by
  cases old with
  | none => rfl
  | some c => cases revoked : c.isRevoked <;> simp [CardTable.supersede, Option.filter, revoked]

theorem logSuperseded_filter (p : Port) {old : Option Credential} (staff : ∀ c ∈ old, c.slot? = none) (s : State) :
    logSuperseded p old s = match old.filter fun c => !c.isRevoked with
      | some c => s.append (.port p) (some c.number) none (.revoke .superseded)
      | none => s := by
  cases old with
  | none => rfl
  | some c => cases revoked : c.isRevoked <;> simp [logSuperseded, Option.filter, revoked, State.logRevoke, staff c rfl]

theorem logSuperseded_sendZeros (p q : Port) (m : Nat) (old : Option Credential) (s : State) :
    logSuperseded p old (s.sendZeros q m) = (logSuperseded p old s).sendZeros q m := by
  simp only [logSuperseded, State.logRevoke]
  split
  · split
    · rfl
    · exact s.append_sendZeros q m _ _ _ _
  · rfl

/-- The effects of an ISSUE STAFF carried out: the card, the card it supersedes, and their records. -/
def State.staffIssued (s : State) (k : Fin 8) (w : Window) (n : Nat) : State :=
  logSuperseded .se ((s.table.reclaim 1).replacedRecord n)
    ((s.setTable (((s.table.reclaim 1).create ((s.table.reclaim 1).staffCard .se k w)).supersede
      ((s.table.reclaim 1).replacedRecord n))).append (.port .se) (some ((s.table.reclaim 1).staffCard .se k w).number) none
      (.issue k.val 1 true true none (s.table.shortfall 1)))

theorem State.staffIssued_sendZeros (s : State) (q : Port) (m : Nat) (k : Fin 8) (w : Window) (n : Nat) :
    (s.sendZeros q m).staffIssued k w n = (s.staffIssued k w n).sendZeros q m := by
  simp only [State.staffIssued, State.sendZeros_table, State.setTable_sendZeros, State.append_sendZeros, logSuperseded_sendZeros]

theorem issueStaffCard_eq (k : Fin 8) (w : Window) (n : Nat) (s : State) :
    issueStaffCard .se k w n s = accept (s.staffIssued k w n)
      (be 3 ((s.table.reclaim 1).staffCard .se k w).number ++ ((s.table.reclaim 1).staffCard .se k w).imageBytes s.table.site
        ++ byte (s.table.shortfall 1) ++ be 3 n
        ++ byte (if ((s.table.reclaim 1).replacedRecord n).isSome then 3 else 0)) := by
  have site (x : State) (same : x.table.site = s.table.site) :
      (logSuperseded .se ((s.table.reclaim 1).replacedRecord n) x).table.site = s.table.site :=
    (congrArg CardTable.site ((logSuperseded_same x .se _).agree .table)).trans same
  simp only [issueStaffCard]
  rw [site _ (by simp only [logIssues_table, CardTable.supersede_site]; rfl)]
  rfl

theorem replacedRecord_eq (t : CardTable) (old : Triple) :
    t.replacedRecord old.toNat = if old = 0 then none else t.find old.toNat := by
  have zero : old.toNat = 0 ↔ old = 0 := BitVec.toNat_eq (y := 0#24) |>.symm
  simp only [CardTable.replacedRecord, zero]

end Sys2Proof.Machine

open Sys2Proof Sys2Proof.Machine

/-- Settles O29: ISSUE STAFF's checks in their order; the card to replace is a staff card, before reclamation and after. -/
theorem issueStaffIssuesAndReplaces : Obligations.IssueStaffIssuesAndReplaces := by
  unfold Obligations.IssueStaffIssuesAndReplaces
  intro s cls start stop old ready
  refine ⟨fun bad => exec_answered rfl (State.takeRequest_refused ready (issueStaff_badClass bad)), ?_⟩
  rintro k rfl staff
  refine ⟨fun notSet => exec_answered rfl (State.takeRequest_refused ready (issueStaff_noClock staff notSet)), fun set => ?_⟩
  have window : windowChecks (momentOf start) (momentOf stop) s.nowIndex = true ↔ ¬(1439 < start.minute.toNat
      ∨ 1439 < stop.minute.toNat ∨ stop.day.toNat * 1440 + stop.minute.toNat ≤ start.day.toNat * 1440 + start.minute.toNat
      ∨ stop.day.toNat * 1440 + stop.minute.toNat ≤ s.nowIndex) := by
    simp only [windowChecks_iff, Moment.index, momentOf]
    omega
  refine ⟨fun fails => exec_answered rfl (State.takeRequest_refused ready (issueStaff_badWindow staff set ?_)), fun passes => ?_⟩
  · exact Bool.eq_false_iff.mpr fun passed => window.mp passed fails
  have passed := window.mpr passes
  have named {n : Triple} (h : n ≠ 0) : n.toNat ≠ 0 := fun zero => h (BitVec.eq_of_toNat_eq zero)
  refine ⟨fun asked missing => exec_answered rfl (State.takeRequest_refused ready
      (issueStaff_notReplaced (s := s.sendZeros .se _) staff set passed (replaceCheck_notFound (named asked) missing))),
    fun asked c found bound => exec_answered rfl (State.takeRequest_refused ready
      (issueStaff_notReplaced (s := s.sendZeros .se _) staff set passed (replaceCheck_wrongState (named asked) found bound))), fun free => ?_⟩
  have replaced : s.table.replaceCheck old.toNat = none := replaceCheck_passed (free.imp_left (congrArg BitVec.toNat))
  refine ⟨fun site => exec_answered rfl (State.takeRequest_refused ready
      (issueStaff_notAdmitted (s := s.sendZeros .se _) staff set passed replaced (admitStaff_noSite site))),
    fun site full empty => exec_answered rfl (State.takeRequest_refused ready
      (issueStaff_notAdmitted (s := s.sendZeros .se _) staff set passed replaced (admitStaff_tableFull site full empty))),
    fun site room => exec_answered rfl (State.takeRequest_carriedOut ready
      ((issueStaff_admitted (s := s.sendZeros .se _) staff set passed replaced (admitStaff_admitted site room)).trans ?_))⟩
  have staffOnly : ∀ c ∈ (s.table.reclaim 1).replacedRecord old.toNat, c.slot? = none := fun c mem => by
    rw [replacedRecord_eq] at mem
    split at mem
    · cases mem
    · rename_i asked
      obtain ⟨d, found, unbound⟩ := free.resolve_left asked
      have same : s.table.find old.toNat = some c := find_reclaim mem
      obtain rfl : d = c := Option.some.inj (found.symm.trans same)
      rw [Credential.slot?, unbound, Option.map_none]
  rw [issueStaffCard_eq, State.staffIssued_sendZeros, State.staffIssued, logSuperseded_filter .se staffOnly, supersede_filter,
    State.sendZeros_table, replacedRecord_eq, shortfall_one (by omega)]
  rfl

end

section
/-! The card image (R46 to R48): words of two bytes read back, the end-around sum, and the fields decoded. -/

namespace Sys2Proof.Machine

-- One theorem at a time: each check by the kernel then needs one stack.
set_option Elab.async false

open Sys2Proof

/-! ## Words in two bytes -/

/-- A word, as two bytes carry it. -/
abbrev Word (n : Nat) : Prop := n ≤ 65535

theorem ofBe_be_two {n : Nat} (word : Word n) : ofBe (be 2 n) = n := by
  simp only [be, ofBe, List.nil_append, List.cons_append, List.foldl_cons, List.foldl_nil, BitVec.toNat_ofNat]
  omega

/-- Each word is read back from its own two bytes. -/
theorem ofBe_flatMap {words : List Nat} (fits : ∀ w ∈ words, Word w) (k : Nat) :
    ofBe (((words.flatMap (be 2)).drop (2 * k)).take 2) = words.getD k 0 := by
  induction words generalizing k with
  | nil => simp [ofBe]
  | cons w words ih =>
    cases k with
    | zero => exact ofBe_be_two (fits w (List.mem_cons_self ..))
    | succ k => exact ih (fun w mem => fits w (List.mem_cons_of_mem _ mem)) k

/-- Ten words sent are the ten words read. -/
theorem imageOfBytes_toList {words : List Nat} (ten : words.length = 10) (fits : ∀ w ∈ words, Word w) :
    (imageOfBytes (words.flatMap (be 2))).toList = words := by
  refine List.ext_getElem (by simp [ten]) fun k _ inside => ?_
  simp only [imageOfBytes, Vector.getElem_toList, Vector.getElem_ofFn, ofBe_flatMap fits, List.getD_eq_getElem?_getD,
    List.getElem?_eq_getElem inside, Option.getD_some]

/-! ## The end-around sum (R47) -/

theorem endAround_append (words : List Nat) (w : Nat) : endAround (words ++ [w])
    = if 65535 < endAround words + w then endAround words + w - 65535 else endAround words + w := by
  rw [endAround, List.foldl_append]
  rfl

theorem endAround_word {words : List Nat} (fits : ∀ w ∈ words, Word w) : Word (endAround words) := by
  induction words using List.reverseRecOn with
  | nil => exact Nat.zero_le _
  | append_singleton words w ih =>
    have sum := ih fun w mem => fits w (List.mem_append_left _ mem)
    have last := fits w (by simp)
    rw [endAround_append]
    split <;> omega

/-- The check word makes the sum 65535. -/
theorem endAround_checkWord {words : List Nat} (fits : ∀ w ∈ words, Word w) : endAround (words ++ [checkWord words]) = 65535 := by
  have sum := endAround_word fits
  rw [endAround_append, checkWord]
  split <;> omega

/-! ## A record's image (R46) -/

theorem batchFlags_le (first final : Bool) : batchFlags first final ≤ 3 := by
  cases first <;> cases final <;> decide

/-- A sound record under a site code, with a generation and a window in range. -/
structure Credential.Sendable (c : Credential) (site : Nat) : Prop where
  sound : c.Sound
  site : Word site
  generation : c.imageGeneration ≤ 255
  slot : c.imageSlot ≤ 255
  startDay : Word c.window.start.day
  startMinute : Word c.window.start.minute
  stopDay : Word c.window.stop.day
  stopMinute : Word c.window.stop.minute

section
variable {c : Credential} {site : Nat} (sendable : c.Sendable site)
include sendable

theorem Credential.Sendable.words : ∀ w ∈ c.words site, Word w := by
  obtain ⟨⟨-, number, -, -, issue, -⟩, site, generation, slot, startDay, startMinute, stopDay, stopMinute⟩ := sendable
  have flags := batchFlags_le c.first c.final
  have number : c.number ≤ 16777215 := number
  have cls := c.cls.isLt
  simp only [Credential.words, List.forall_mem_cons]
  refine ⟨site, by omega, by omega, by omega, issue, startDay, startMinute, stopDay, stopMinute, by simp⟩

/-- The image of a record is its nine words and their check word. -/
theorem Credential.Sendable.image_toList :
    (imageOfBytes (c.imageBytes site)).toList = c.words site ++ [checkWord (c.words site)] :=
  imageOfBytes_toList rfl fun w mem => by
    rcases List.mem_append.mp mem with word | check
    · exact sendable.words w word
    · rw [List.mem_singleton.mp check]
      exact Nat.sub_le _ _

/-- The word at a place of the image. -/
theorem Credential.Sendable.image_getElem {k : Nat} (inside : k < 10) :
    (imageOfBytes (c.imageBytes site))[k] = (c.words site ++ [checkWord (c.words site)])[k]'inside := by
  simp only [← sendable.image_toList, Vector.getElem_toList]

theorem Credential.Sendable.intact : (imageOfBytes (c.imageBytes site)).intact = true := by
  rw [CardImage.intact, sendable.image_toList, endAround_checkWord sendable.words]
  rfl

/-! The fields decoded (R48): each is a word, or a part of one. -/

theorem Credential.Sendable.cardNumber : (imageOfBytes (c.imageBytes site)).cardNumber = c.number := by
  have high : (imageOfBytes (c.imageBytes site))[1] = c.number / 256 := sendable.image_getElem (by decide)
  have low : (imageOfBytes (c.imageBytes site))[2] = c.number % 256 * 256 + c.cls.val * 16 + batchFlags c.first c.final :=
    sendable.image_getElem (by decide)
  have flags := batchFlags_le c.first c.final
  have cls := c.cls.isLt
  simp only [CardImage.cardNumber, high, low]
  omega

theorem Credential.Sendable.cls : (imageOfBytes (c.imageBytes site)).cls = c.cls.val := by
  have low : (imageOfBytes (c.imageBytes site))[2] = c.number % 256 * 256 + c.cls.val * 16 + batchFlags c.first c.final :=
    sendable.image_getElem (by decide)
  have flags := batchFlags_le c.first c.final
  have cls := c.cls.isLt
  simp only [CardImage.cls, low]
  omega

theorem Credential.Sendable.batchFlags :
    (imageOfBytes (c.imageBytes site)).batchFlags = Machine.batchFlags c.first c.final := by
  have low : (imageOfBytes (c.imageBytes site))[2] = c.number % 256 * 256 + c.cls.val * 16 + Machine.batchFlags c.first c.final :=
    sendable.image_getElem (by decide)
  have flags := batchFlags_le c.first c.final
  simp only [CardImage.batchFlags, low]
  omega

theorem Credential.Sendable.imageSlot : (imageOfBytes (c.imageBytes site)).slot = c.imageSlot := by
  have place : (imageOfBytes (c.imageBytes site))[3] = c.imageSlot * 256 + c.imageGeneration := sendable.image_getElem (by decide)
  have small := sendable.generation
  simp only [CardImage.slot, place]
  omega

theorem Credential.Sendable.imageGeneration : (imageOfBytes (c.imageBytes site)).generation = c.imageGeneration := by
  have place : (imageOfBytes (c.imageBytes site))[3] = c.imageSlot * 256 + c.imageGeneration := sendable.image_getElem (by decide)
  have small := sendable.generation
  simp only [CardImage.generation, place]
  omega

theorem Credential.Sendable.issueNumber : (imageOfBytes (c.imageBytes site)).issueNumber = c.issueNumber :=
  sendable.image_getElem (k := 4) (by decide)

theorem Credential.Sendable.imageSite : (imageOfBytes (c.imageBytes site)).site = site :=
  sendable.image_getElem (k := 0) (by decide)

theorem Credential.Sendable.window : (imageOfBytes (c.imageBytes site)).window = c.window := by
  have startDay : (imageOfBytes (c.imageBytes site))[5] = c.window.start.day := sendable.image_getElem (by decide)
  have startMinute : (imageOfBytes (c.imageBytes site))[6] = c.window.start.minute := sendable.image_getElem (by decide)
  have stopDay : (imageOfBytes (c.imageBytes site))[7] = c.window.stop.day := sendable.image_getElem (by decide)
  have stopMinute : (imageOfBytes (c.imageBytes site))[8] = c.window.stop.minute := sendable.image_getElem (by decide)
  simp only [CardImage.window, startDay, startMinute, stopDay, stopMinute]

theorem Credential.Sendable.agrees : c.agrees (imageOfBytes (c.imageBytes site)) = true :=
  decide_eq_true ⟨sendable.cls, sendable.imageSlot, sendable.imageGeneration, sendable.issueNumber⟩

end

theorem imageSlot_eq (c : Credential) : c.imageSlot = (c.slot?.map Fin.val).getD 255 := by
  unfold Credential.imageSlot Credential.slot?
  cases c.binding <;> rfl

theorem imageGeneration_eq (c : Credential) : c.imageGeneration = (c.binding.map RoomBinding.generation).getD 0 := by
  unfold Credential.imageGeneration
  cases c.binding <;> rfl

end Sys2Proof.Machine

open Sys2Proof Sys2Proof.Machine

/-- Settles O28: the words are read back as they were sent, and the check word completes their sum to 65535. -/
theorem formedImageIsIntactAndDecodes : Obligations.FormedImageIsIntactAndDecodes := by
  unfold Obligations.FormedImageIsIntactAndDecodes
  refine ⟨fun c site sound siteWord generation startDay startMinute stopDay stopMinute => ?_,
    fun image => beq_iff_eq, rfl, endAround_append⟩
  have sendable : c.Sendable site :=
    { sound, site := siteWord, startDay, stopDay
      generation := by
        rw [imageGeneration_eq]
        cases bound : c.binding with
        | none => exact Nat.zero_le _
        | some b => exact generation b bound
      slot := by
        unfold Credential.imageSlot
        cases c.binding with
        | none => exact Nat.le_refl _
        | some b => exact b.slot.isLt.le.trans (by decide)
      startMinute := startMinute.trans (by decide)
      stopMinute := stopMinute.trans (by decide) }
  rw [← imageSlot_eq, ← imageGeneration_eq]
  exact ⟨sendable.image_toList, sendable.intact, sendable.imageSite, sendable.cardNumber, sendable.cls, sendable.imageSlot,
    sendable.imageGeneration, sendable.issueNumber, sendable.batchFlags, sendable.window, sendable.agrees⟩

end

section
/-! The edges of the EVAC line (R162, R163), and what power, reset and the starts do (chapter 10). -/

namespace Sys2Proof.Machine

-- One theorem at a time: each check by the kernel then needs one stack.
set_option Elab.async false

open Sys2Proof

/-! ## The EVAC line -/

section
variable {s : State} {asserted : Bool}

theorem evacEdge_still (there : s.wing.evacPin = asserted) : evacEdge asserted s = s := if_pos there

variable (moves : s.wing.evacPin ≠ asserted)
include moves

theorem evacEdge_stopped (stopped : s.running = false) :
    evacEdge asserted s = { s with wing := { s.wing with evacPin := asserted } } := by
  have still : ({ s with wing := { s.wing with evacPin := asserted } } : State).running = false := stopped
  simp only [evacEdge, if_neg moves, still, Bool.not_false, if_true]

theorem evacEdge_taken (running : s.running = true) :
    evacEdge asserted s = if asserted = true then ({ s with wing := { s.wing with evacPin := asserted } } : State).evacRises
      else ({ s with wing := { s.wing with evacPin := asserted } } : State).evacFalls := by
  have live : (!({ s with wing := { s.wing with evacPin := asserted } } : State).running) = false := congrArg (!·) running
  rw [evacEdge, if_neg moves]
  show (if (!({ s with wing := { s.wing with evacPin := asserted } } : State).running) = true then _ else _) = _
  rw [live]
  exact if_neg Bool.false_ne_true

end

section
variable {s logged : State} (line : logged
  = ({ s with wing := { s.wing with evacSampled := true } } : State).append .evacLine none none (.evac s.wing.mode))
include line

/-- A rising edge in EVACUATION already is no change of mode. -/
theorem State.evacRises_inEvacuation (there : s.wing.mode = .evacuation) :
    s.evacRises = ((logged.markEvac.stopPulses.endAllSessions.setOutputs).raise .fo (.evacLine true)).raise .se (.evacLine true) := by
  have same : decide (s.wing.mode ≠ .evacuation) = false := decide_eq_false (not_not.mpr there)
  subst line
  simp only [State.evacRises, same, Bool.false_eq_true, if_false]
  rfl

theorem State.evacRises_enters (other : s.wing.mode ≠ .evacuation) :
    s.evacRises = ((((logged.enterMode .evacLine .evacuation).markEvac.stopPulses.endAllSessions.setOutputs).raise .fo
      (.evacLine true)).raise .se (.evacLine true)).announceMode .evacuation := by
  have changes : decide (s.wing.mode ≠ .evacuation) = true := decide_eq_true other
  subst line
  simp only [State.evacRises, changes, if_true]
  rfl

theorem State.evacRises_oldMode : logged.wing.mode = s.wing.mode := by
  rw [line, State.append_wing]

end

/-! ## Power and reset -/

section
variable {s : State}

theorem assertReset_on (on : s.power.phase ≠ .off) :
    assertReset s = { s.abandonTransactions with power := { s.power with phase := .inReset } } := if_neg on

theorem assertReset_off (off : s.power.phase = .off) : assertReset s = s := if_pos off

theorem mainPowerFall_on (on : s.power.phase ≠ .off) :
    mainPowerFall s = { s.loseVolatile with power := { s.power with phase := .off } } := if_neg on

theorem mainPowerFall_off (off : s.power.phase = .off) : mainPowerFall s = s := if_pos off

theorem retentionLost_on (on : s.power.phase ≠ .off) : retentionLost s = s := if_neg on

theorem retentionLost_off (off : s.power.phase = .off) :
    retentionLost s = { s with power := { s.power with retained := false, latch := true } } := if_pos off

/-! ## The starts -/

theorem exec_warmStart_clear (clear : s.power.latch = false) : exec .warmStart s = .next (beginWarm s) := by
  show Host.Outcome.next (if s.power.latch = true then s else beginWarm s) = _
  rw [clear]
  rfl

theorem exec_warmStart_latched (latched : s.power.latch = true) : exec .warmStart s = .next s := by
  show Host.Outcome.next (if s.power.latch = true then s else beginWarm s) = _
  rw [if_pos latched]

theorem exec_coldStart_clear (clear : s.power.latch = false) : exec .coldStart s = .next s := by
  show Host.Outcome.next (if s.power.latch = true then beginCold s else s) = _
  rw [clear]
  rfl

theorem exec_coldStart_latched (latched : s.power.latch = true) : exec .coldStart s = .next (beginCold s) := by
  show Host.Outcome.next (if s.power.latch = true then beginCold s else s) = _
  rw [if_pos latched]

theorem endStart_starting {start : Start} (starting : s.power.phase = .starting start) :
    endStart s = (s.commitStart start).takeLineDifference := by
  simp only [endStart, starting]

theorem endStart_other (other : s.power.phase = .running ∨ s.power.phase = .inReset ∨ s.power.phase = .off) : endStart s = s := by
  rcases other with phase | phase | phase <;> simp only [endStart, phase]

end

end Sys2Proof.Machine

open Sys2Proof Sys2Proof.Machine

/-- Settles O49: an edge moves the pin, and while the part runs it is taken, as a change of mode where the wing was elsewhere. -/
theorem evacEdgesAreTaken : Obligations.EvacEdgesAreTaken := by
  unfold Obligations.EvacEdgesAreTaken
  intro s
  refine ⟨fun high => congrArg Host.Outcome.next (evacEdge_still high), fun low => congrArg Host.Outcome.next (evacEdge_still low),
    fun stopped low => congrArg Host.Outcome.next (evacEdge_stopped (by simp [low]) stopped),
    fun stopped high => congrArg Host.Outcome.next (evacEdge_stopped (by simp [high]) stopped),
    fun running high => congrArg Host.Outcome.next
      ((evacEdge_taken (asserted := false) (by simp [high]) running).trans (if_neg Bool.false_ne_true)),
    fun running low => ?_⟩
  intro logged entered marked ended told
  refine congrArg Host.Outcome.next ((evacEdge_taken (asserted := true) (by simp [low]) running).trans ((if_pos rfl).trans ?_))
  have line : logged = ({ s with wing := { s.wing with evacPin := true, evacSampled := true } } : State).append .evacLine none none
    (.evac s.wing.mode) := rfl
  have pinned : ({ s with wing := { s.wing with evacPin := true, evacSampled := true } } : State)
      = { ({ s with wing := { s.wing with evacPin := true } } : State) with
          wing := { ({ s with wing := { s.wing with evacPin := true } } : State).wing with evacSampled := true } } := rfl
  rw [pinned] at line
  clear_value logged
  have said : told = ((entered.markEvac.stopPulses.endAllSessions.setOutputs).raise .fo (.evacLine true)).raise .se
      (.evacLine true) := by
    clear_value entered
    rfl
  by_cases there : s.wing.mode = .evacuation
  · have stays : entered = logged := if_pos there
    rw [if_pos there, State.evacRises_inEvacuation (logged := logged) line there, ← stays, ← said]
  · have enters : entered = logged.enterMode .evacLine .evacuation := by
      rw [State.enterMode_eq, State.evacRises_oldMode (s := { s with wing := { s.wing with evacPin := true } }) line]
      exact if_neg there
    rw [if_neg there, State.evacRises_enters (logged := logged) line there, ← enters, ← said]
    clear_value told
    rfl

/-- Settles O50: each power step by the phase it meets, and the values each start begins and ends with. -/
theorem startsRebuildVolatileState : Obligations.StartsRebuildVolatileState := by
  unfold Obligations.StartsRebuildVolatileState
  intro s
  refine ⟨fun on => ⟨congrArg Host.Outcome.next (assertReset_on on), congrArg Host.Outcome.next (mainPowerFall_on on),
      congrArg Host.Outcome.next (retentionLost_on on)⟩,
    fun off => ⟨congrArg Host.Outcome.next (assertReset_off off), congrArg Host.Outcome.next (mainPowerFall_off off),
      congrArg Host.Outcome.next (retentionLost_off off)⟩,
    fun clear => ⟨exec_coldStart_clear clear, exec_warmStart_clear clear⟩,
    fun latched => ⟨exec_warmStart_latched latched, exec_coldStart_latched latched⟩,
    fun mode record starting => congrArg Host.Outcome.next (endStart_starting starting),
    fun starting => congrArg Host.Outcome.next (endStart_starting starting),
    fun other => congrArg Host.Outcome.next (endStart_other other)⟩

end

section
/-! The expiries of leases, grants, ajar timers, sessions and pulses (R34, R115, R125, R134, R155): due and not due. -/

namespace Sys2Proof.Machine

-- One theorem at a time: each check by the kernel then needs one stack.
set_option Elab.async false

open Sys2Proof

section
variable {s : State}

/-! ## Leases and pulses -/

section
variable {i : Slot}

theorem expireLease_due (running : s.running = true) {holder : Port} (due : s.claims[i] = some { holder := holder, lease := 0 }) :
    expireLease i s = (s.setClaim i none).raise holder (.claimLost i .expired) := by
  simp only [expireLease, due, running, decide_true, Bool.and_true, if_true]

theorem expireLease_kept (kept : s.running = false ∨ s.claims[i] = none ∨ s.leaseOf i ≠ 0) : expireLease i s = s := by
  unfold expireLease
  split
  · rename_i c held
    refine if_neg fun due => ?_
    obtain ⟨running, zero⟩ := Bool.and_eq_true_iff.mp due
    rcases kept with stopped | free | lease
    · exact Bool.noConfusion (running.symm.trans stopped)
    · exact nomatch held.symm.trans free
    · exact lease (by simpa [State.leaseOf, held] using zero)
  · rfl

end

theorem expirePulse_due {g : Gate} (running : s.running = true) (due : s.gates.pulses[g] = some 0) :
    expirePulse g s = ({ s with gates := { s.gates with pulses := s.gates.pulses.set g none } } : State).setOutputs := by
  rw [expirePulse, running, due]
  rfl

theorem expirePulse_kept {g : Gate} (kept : s.running = false ∨ s.gates.pulses[g] ≠ some 0) : expirePulse g s = s := by
  refine if_neg fun due => ?_
  obtain ⟨running, zero⟩ := Bool.and_eq_true_iff.mp due
  exact kept.elim (fun stopped => Bool.noConfusion (running.symm.trans stopped)) fun other => other (of_decide_eq_true zero)

theorem expireSupervision_kept {p : Port} (kept : s.running = false ∨ (s.port p).timer = none) : expireSupervision p s = s := by
  rcases kept with stopped | idle
  · rw [expireSupervision, stopped]
    rfl
  · exact expireSupervision_notDue (by simp [idle])

/-! ## Grants -/

section
variable {u : UnitId}

theorem expireGrant_kept (kept : s.running = false ∨ s.grants[u] = none ∨ ∃ g, s.grants[u] = some g ∧ g.expiry ≠ 0) :
    expireGrant u s = s := by
  unfold expireGrant
  split
  · rename_i g held
    refine if_neg fun due => ?_
    obtain ⟨running, zero⟩ := Bool.and_eq_true_iff.mp due
    rcases kept with stopped | free | ⟨g', held', left⟩
    · exact Bool.noConfusion (running.symm.trans stopped)
    · exact nomatch held.symm.trans free
    · obtain rfl : g = g' := Option.some.inj (held.symm.trans held')
      exact left (of_decide_eq_true zero)
  · rfl

theorem State.concludeUnused_same (u : UnitId) : State.SameBut [.grants, .tallies, .log, .ports] s (s.concludeUnused u) :=
  s.concludeGrant_same u _

/-- A due expiry concludes the grant, and at a minibar lock gives the notice that ends a session with no opening seen. -/
theorem expireGrant_due (running : s.running = true) {g : Grant} (held : s.grants[u] = some g) (due : g.expiry = 0) :
    expireGrant u s = match s.units[u].kind with
      | .minibarLock _ => (s.concludeUnused u).endUnopened u
      | _ => s.concludeUnused u := by
  have units : (s.concludeUnused u).units = s.units := (s.concludeUnused_same u).agree .units
  simp only [expireGrant, held, running, due, decide_true, Bool.and_true, if_true, units] <;> rfl

theorem endUnopened_awaiting {x : Session} {n : Nat} (held : s.sessions[u] = some x) (awaiting : x.phase = .awaitingOpen n) :
    s.endUnopened u = s.endSession u .unopened := by
  simp [State.endUnopened, held, Session.openedSeen, awaiting]

theorem endUnopened_inUse (used : ∀ x ∈ s.sessions[u], x.phase = .inUse) : s.endUnopened u = s := by
  unfold State.endUnopened
  split
  · rename_i x held
    simp [Session.openedSeen, used x held]
  · rfl

/-! ## Ajar timers -/

theorem expireAjar_due (running : s.running = true) {t : AjarTimer} (held : s.ajar[u] = some t) (due : t.remaining = 0) :
    expireAjar u s = ((({ s with
      units := s.units.set u { s.units[u] with entrance := .ajar }, ajar := s.ajar.set u none } : State).append (.unit u) none
        s.units[u].kind.slot? (.ajar t.limit)).raise .se (.ajar u)) := by
  have place : ((s.setUnit u { s.units[u] with entrance := .ajar }).setAjar u none).unitSlot u = s.units[u].kind.slot? := by
    show (s.units.set u { s.units[u] with entrance := .ajar })[u].kind.slot? = _
    rw [getElem_set_same]
  simp only [expireAjar, held, running, due, decide_true, Bool.and_true, if_true, State.appendUnit, place]
  rfl

theorem expireAjar_kept (kept : s.running = false ∨ s.ajar[u] = none ∨ ∃ t, s.ajar[u] = some t ∧ t.remaining ≠ 0) :
    expireAjar u s = s := by
  unfold expireAjar
  split
  · rename_i t held
    refine if_neg fun due => ?_
    obtain ⟨running, zero⟩ := Bool.and_eq_true_iff.mp due
    rcases kept with stopped | free | ⟨t', held', left⟩
    · exact Bool.noConfusion (running.symm.trans stopped)
    · exact nomatch held.symm.trans free
    · obtain rfl : t = t' := Option.some.inj (held.symm.trans held')
      exact left (of_decide_eq_true zero)
  · rfl

/-! ## Sessions -/

theorem expireSession_due (running : s.running = true) {x : Session} (held : s.sessions[u] = some x) (due : x.phase = .awaitingOpen 0) :
    expireSession u s = s.endSession u .unopened := by
  simp only [expireSession, held, running, due, decide_true, Bool.and_true, if_true]

theorem expireSession_kept (kept : s.running = false ∨ s.sessions[u] = none ∨ ∃ x, s.sessions[u] = some x ∧ x.phase ≠ .awaitingOpen 0) :
    expireSession u s = s := by
  unfold expireSession
  split
  · rename_i x held
    refine if_neg fun due => ?_
    obtain ⟨running, zero⟩ := Bool.and_eq_true_iff.mp due
    rcases kept with stopped | free | ⟨x', held', left⟩
    · exact Bool.noConfusion (running.symm.trans stopped)
    · exact nomatch held.symm.trans free
    · obtain rfl : x = x' := Option.some.inj (held.symm.trans held')
      exact left (of_decide_eq_true zero)
  · rfl

theorem openedSeen_eq (x : Session) : x.openedSeen = decide (x.phase = SessionPhase.inUse) := by
  cases phase : x.phase <;> simp [Session.openedSeen, phase]

/-- A session ended: it is removed, the tally falls, and its record carries the sum of its removed counts. -/
theorem State.endSession_held {x : Session} (held : s.sessions[u] = some x) (reason : EndReason) :
    s.endSession u reason = ({ s with
      sessions := s.sessions.set u none
      power := { s.power with sessionTally := s.power.sessionTally - 1 } } : State).append (.unit u) (some x.card) (some x.slot)
        (.minibarSession x.kind reason (decide (x.phase = SessionPhase.inUse)) x.removed.toList.sum) := by
  have sum : x.removedSum = x.removed.toList.sum := List.sum_eq_foldl.symm
  simp only [State.endSession, held, openedSeen_eq, sum]
  rfl

end

end

end Sys2Proof.Machine

open Sys2Proof Sys2Proof.Machine

/-- Settles O45: each expiry by whether its timer runs and stands at 0. -/
theorem expiriesActWhenDue : Obligations.ExpiriesActWhenDue := by
  unfold Obligations.ExpiriesActWhenDue
  refine ⟨fun s => ⟨fun i kept => congrArg Host.Outcome.next (expireLease_kept (kept.imp_right .inl)),
      fun u kept => congrArg Host.Outcome.next (expireGrant_kept (kept.imp_right .inl)),
      fun u kept => congrArg Host.Outcome.next (expireAjar_kept (kept.imp_right .inl)),
      fun u kept => congrArg Host.Outcome.next (expireSession_kept (kept.imp_right .inl)),
      fun g kept => congrArg Host.Outcome.next (expirePulse_kept (kept.imp_right fun idle => by simp [idle])),
      fun p kept => congrArg Host.Outcome.next (expireSupervision_kept kept)⟩, fun s running => ?_⟩
  refine ⟨fun i holder due => congrArg Host.Outcome.next (expireLease_due running due),
    fun i kept => congrArg Host.Outcome.next (expireLease_kept (.inr kept.symm)),
    fun u g held => ⟨fun due other => congrArg Host.Outcome.next ((expireGrant_due running held due).trans ?_),
      fun due minibar => ⟨fun x n session awaiting => congrArg Host.Outcome.next ((expireGrant_due running held due).trans ?_),
        fun used => congrArg Host.Outcome.next ((expireGrant_due running held due).trans ?_)⟩,
      fun left => congrArg Host.Outcome.next (expireGrant_kept (.inr (.inr ⟨g, held, left⟩)))⟩,
    fun u t held => ⟨fun due => congrArg Host.Outcome.next (expireAjar_due running held due),
      fun left => congrArg Host.Outcome.next (expireAjar_kept (.inr (.inr ⟨t, held, left⟩)))⟩,
    fun u x held => ⟨fun due => congrArg Host.Outcome.next (expireSession_due running held due),
      fun left => congrArg Host.Outcome.next (expireSession_kept (.inr (.inr ⟨x, held, left⟩)))⟩,
    fun g => ⟨fun due => congrArg Host.Outcome.next (expirePulse_due running due),
      fun left => congrArg Host.Outcome.next (expirePulse_kept (.inr left))⟩,
    fun u x reason held => State.endSession_held held reason⟩
  · split
    · rename_i i kind
      exact absurd kind (other i)
    · rfl
  · obtain ⟨i, kind⟩ := minibar
    have sessions : (s.concludeUnused u).sessions = s.sessions := (s.concludeUnused_same u).agree .sessions
    rw [kind]
    exact endUnopened_awaiting (by rw [sessions]; exact session) awaiting
  · obtain ⟨i, kind⟩ := minibar
    have sessions : (s.concludeUnused u).sessions = s.sessions := (s.concludeUnused_same u).agree .sessions
    rw [kind]
    exact endUnopened_inUse (by rw [sessions]; exact used)

end

section
/-! A second tick (R1 to R3, R10): the timers it brings to 0 expire in it, no expiry starts a timer, and so none is left at 0. -/

namespace Sys2Proof.Machine

-- One theorem at a time: each check by the kernel then needs one stack.
set_option Elab.async false

open Sys2Proof

/-! ## Timers that stop -/

/-- Some entries have gone, and the others are as they were. -/
def Fewer {α : Type} {n : Nat} (v w : Vector (Option α) n) : Prop := ∀ i : Fin n, w[i] = v[i] ∨ w[i] = none

theorem Fewer.of_eq {α : Type} {n : Nat} {v w : Vector (Option α) n} (same : w = v) : Fewer v w := fun i => .inl (by rw [same])

theorem Fewer.set_none {α : Type} {n : Nat} (v : Vector (Option α) n) (i : Fin n) : Fewer v (v.set i none) := fun j => by
  by_cases here : j = i
  · subst here
    exact .inr (getElem_set_same v j none)
  · exact .inl (getElem_set_other v none here)

theorem Fewer.trans {α : Type} {n : Nat} {u v w : Vector (Option α) n} (first : Fewer u v) (second : Fewer v w) : Fewer u w :=
  fun i => (second i).elim (fun same => same ▸ first i) .inr

theorem Fewer.held {α : Type} {n : Nat} {v w : Vector (Option α) n} (fewer : Fewer v w) {i : Fin n} {x : α} (held : w[i] = some x) :
    v[i] = some x :=
  (fewer i).elim (fun same => same ▸ held) fun gone => nomatch held.symm.trans gone

/-! ## The faces of the ports -/

/-- Each port's face is as given. -/
def State.HasFaces (f : Port → PortState) (s : State) : Prop := ∀ q, (s.port q).face = f q

theorem State.HasFaces.dependsOn (f : Port → PortState) : DependsOn [.ports] (State.HasFaces f) := fun s t same faces q => by
  obtain ⟨fo, se⟩ : s.Agree t .ports := same .ports (List.mem_singleton_self _)
  have port : t.port q = s.port q := by
    cases q with
    | fo => exact fo
    | se => exact se
  rw [port, faces q]

theorem State.HasFaces.raise {f : Port → PortState} {s : State} (faces : s.HasFaces f) (p : Port) (e : Event) :
    (s.raise p e).HasFaces f := fun q => by
  by_cases own : q = p
  · subst own
    simpa [State.raise, PortState.queue_face] using faces q
  · obtain rfl : q = otherPort p := by cases p <;> cases q <;> simp_all [otherPort]
    simpa using faces (otherPort p)

theorem State.HasFaces.telling (f : Port → PortState) : Telling (State.HasFaces f) where
  dep := (State.HasFaces.dependsOn f).weaken
  raise := fun _ p e faces => faces.raise p e
  append := fun s source card room detail faces => by
    have noted {x : State} (before : EntryLog) (q : Port) (hx : x.HasFaces f) : (x.notify before q).HasFaces f := by
      simp only [State.notify]
      split
      · exact hx.raise q _
      · exact hx
    exact noted _ _ (noted _ _ faces)

theorem State.superviseExpire_face (s : State) (p q : Port) : ((s.superviseExpire p).port q).face = ((s.loseLink p).port q).face := by
  have tell := State.HasFaces.telling fun q => ((s.loseLink p).port q).face
  have freed : ((s.loseLink p).freeClaims p).HasFaces fun q => ((s.loseLink p).port q).face :=
    foldl_keeps (fun x i hx => by
      simp only [freeForLink]
      split
      · exact State.HasFaces.raise ((State.HasFaces.dependsOn _).of_same (x.setClaim_same i _) hx) p _
      · exact hx) allSlots fun _ => rfl
  exact tell.raise _ _ _ (tell.append _ _ _ _ _ ((State.HasFaces.dependsOn _).of_same (State.setLog_same _ _) freed)) q

/-! ## No expiry starts a timer -/

section
variable (t : Timer) (s : State)

theorem expireTimer_claims : Fewer s.claims (expireTimer t s).claims := by
  cases t with
  | lease i =>
    simp only [expireTimer, expireLease]
    repeat' split
    · rw [State.raise_claims]
      exact .set_none _ i
    · exact .of_eq rfl
    · exact .of_eq rfl
  | grant u => exact .of_eq ((expireGrant_same s u).agree .claims)
  | ajar u => exact .of_eq ((expireAjar_same s u).agree .claims)
  | session u => exact .of_eq ((expireSession_same s u).agree .claims)
  | pulse g => exact .of_eq ((expirePulse_same s g).agree .claims)
  | supervision p =>
    simp only [expireTimer, expireSupervision]
    split
    · intro j
      rw [State.superviseExpire_claims]
      split
      · exact .inr rfl
      · exact .inl rfl
    · exact .of_eq rfl

theorem State.dropGrant_fewer (u : UnitId) : Fewer s.grants (s.dropGrant u).grants := by
  unfold State.dropGrant
  split
  · exact .set_none _ u
  · exact .of_eq rfl

theorem State.dropSession_fewer (u : UnitId) : Fewer s.sessions (s.dropSession u).sessions := by
  unfold State.dropSession
  split
  · exact .set_none _ u
  · exact .of_eq rfl

theorem State.concludeUnused_fewer (u : UnitId) : Fewer s.grants (s.concludeUnused u).grants := by
  rw [State.concludeUnused, (s.concludeGrant_drops u _).agree .grants]
  exact s.dropGrant_fewer u

theorem State.endSession_fewer (u : UnitId) (reason : EndReason) : Fewer s.sessions (s.endSession u reason).sessions := by
  rw [(s.endSession_drops u reason).agree .sessions]
  exact s.dropSession_fewer u

theorem State.endUnopened_fewer (u : UnitId) : Fewer s.sessions (s.endUnopened u).sessions := by
  unfold State.endUnopened
  repeat' split
  · exact .of_eq rfl
  · exact s.endSession_fewer u _
  · exact .of_eq rfl

theorem expireTimer_grants : Fewer s.grants (expireTimer t s).grants := by
  cases t with
  | grant u =>
    simp only [expireTimer, expireGrant]
    repeat' split
    · rw [(State.endUnopened_same _ u).agree .grants]
      exact s.concludeUnused_fewer u
    · exact s.concludeUnused_fewer u
    · exact .of_eq rfl
    · exact .of_eq rfl
  | lease i => exact .of_eq ((expireLease_same s i).agree .grants)
  | ajar u => exact .of_eq ((expireAjar_same s u).agree .grants)
  | session u => exact .of_eq ((expireSession_same s u).agree .grants)
  | pulse g => exact .of_eq ((expirePulse_same s g).agree .grants)
  | supervision p => exact .of_eq ((expireSupervision_same s p).agree .grants)

theorem expireTimer_ajar : Fewer s.ajar (expireTimer t s).ajar := by
  cases t with
  | ajar u =>
    simp only [expireTimer, expireAjar]
    repeat' split
    · rw [(State.raise_same _ _ _).agree .ajar, (State.appendUnit_same _ _ _ _).agree .ajar]
      exact .set_none _ u
    · exact .of_eq rfl
    · exact .of_eq rfl
  | lease i => exact .of_eq ((expireLease_same s i).agree .ajar)
  | grant u => exact .of_eq ((expireGrant_same s u).agree .ajar)
  | session u => exact .of_eq ((expireSession_same s u).agree .ajar)
  | pulse g => exact .of_eq ((expirePulse_same s g).agree .ajar)
  | supervision p => exact .of_eq ((expireSupervision_same s p).agree .ajar)

theorem expireTimer_sessions : Fewer s.sessions (expireTimer t s).sessions := by
  cases t with
  | session u =>
    simp only [expireTimer, expireSession]
    repeat' split
    · exact s.endSession_fewer u _
    · exact .of_eq rfl
    · exact .of_eq rfl
  | grant u =>
    have same : (s.concludeUnused u).sessions = s.sessions := (s.concludeUnused_same u).agree .sessions
    simp only [expireTimer, expireGrant]
    repeat' split
    · exact (Fewer.of_eq same).trans (State.endUnopened_fewer _ u)
    · exact .of_eq same
    · exact .of_eq rfl
    · exact .of_eq rfl
  | lease i => exact .of_eq ((expireLease_same s i).agree .sessions)
  | ajar u => exact .of_eq ((expireAjar_same s u).agree .sessions)
  | pulse g => exact .of_eq ((expirePulse_same s g).agree .sessions)
  | supervision p => exact .of_eq ((expireSupervision_same s p).agree .sessions)

theorem expireTimer_pulses : Fewer s.gates.pulses (expireTimer t s).gates.pulses := by
  cases t with
  | pulse g =>
    simp only [expireTimer, expirePulse]
    split
    · exact .set_none _ g
    · exact .of_eq rfl
  | lease i => exact .of_eq (congrArg Gates.pulses ((expireLease_same s i).agree .gates))
  | grant u => exact .of_eq (congrArg Gates.pulses ((expireGrant_same s u).agree .gates))
  | ajar u => exact .of_eq (congrArg Gates.pulses ((expireAjar_same s u).agree .gates))
  | session u => exact .of_eq (congrArg Gates.pulses ((expireSession_same s u).agree .gates))
  | supervision p => exact .of_eq (congrArg Gates.pulses ((expireSupervision_same s p).agree .gates))

/-- A port's timer and link stay, or the timer stops. -/
theorem expireTimer_links (q : Port) : ((expireTimer t s).port q).face = (s.port q).face ∨ ((expireTimer t s).port q).timer = none := by
  by_cases link : ∃ p, t = .supervision p
  · obtain ⟨p, rfl⟩ := link
    simp only [expireTimer, expireSupervision]
    split
    · have face := s.superviseExpire_face p q
      by_cases own : q = p
      · subst own
        exact .inr ((congrArg PortState.timer face :).trans (congrArg PortState.timer (s.setPort_port q _)))
      · obtain rfl : q = otherPort p := by cases p <;> cases q <;> simp_all [otherPort]
        exact .inl (face.trans (congrArg PortState.face (s.setPort_port_other p _)))
    · exact .inl rfl
  · exact .inl ((State.HasFaces.telling fun q => (s.port q).face).expireTimer t (fun p same => link ⟨p, same⟩) (fun _ => rfl) q)

end

/-! ## A timer at 0 -/

/-- A running timer stands at 0. -/
def State.zeroAt (s : State) : Timer → Prop
  | .lease i => ∃ c, s.claims[i] = some c ∧ c.lease = 0
  | .grant u => ∃ g, s.grants[u] = some g ∧ g.expiry = 0
  | .ajar u => ∃ x, s.ajar[u] = some x ∧ x.remaining = 0
  | .session u => ∃ x, s.sessions[u] = some x ∧ x.phase = .awaitingOpen 0
  | .pulse g => s.gates.pulses[g] = some 0
  | .supervision p => (s.port p).timer = some 0

/-- A port whose timer runs has its link up. -/
def State.TimersUp (s : State) : Prop := ∀ p : Port, (s.port p).timer.isSome = true → (s.port p).linkLost = false

theorem State.TimersUp.expireTimer {s : State} (up : s.TimersUp) (t : Timer) : (expireTimer t s).TimersUp := fun p runs => by
  rcases expireTimer_links t s p with face | stopped
  · obtain ⟨-, -, -, -, timer, link⟩ := PortState.of_face face
    rw [link]
    exact up p (timer ▸ runs)
  · rw [stopped] at runs
    exact Bool.noConfusion runs

/-- An expiry brings no timer to 0. -/
theorem zeroAt_of_expireTimer {d t : Timer} {s : State} (zero : (expireTimer d s).zeroAt t) : s.zeroAt t := by
  cases t with
  | lease i =>
    obtain ⟨c, held, count⟩ := zero
    exact ⟨c, (expireTimer_claims d s).held held, count⟩
  | grant u =>
    obtain ⟨g, held, count⟩ := zero
    exact ⟨g, (expireTimer_grants d s).held held, count⟩
  | ajar u =>
    obtain ⟨x, held, count⟩ := zero
    exact ⟨x, (expireTimer_ajar d s).held held, count⟩
  | session u =>
    obtain ⟨x, held, count⟩ := zero
    exact ⟨x, (expireTimer_sessions d s).held held, count⟩
  | pulse g => exact (expireTimer_pulses d s).held zero
  | supervision p =>
    rcases expireTimer_links d s p with face | stopped
    · obtain ⟨-, -, -, -, timer, -⟩ := PortState.of_face face
      exact timer.symm.trans zero
    · exact nomatch zero.symm.trans stopped

/-- A timer at 0 stops in its own expiry. -/
theorem not_zeroAt_expireTimer {t : Timer} {s : State} (running : s.running = true) (up : s.TimersUp) (zero : s.zeroAt t) :
    ¬ (expireTimer t s).zeroAt t := by
  cases t with
  | lease i =>
    obtain ⟨⟨holder, lease⟩, held, count⟩ := zero
    have count : lease = 0 := count
    subst count
    rintro ⟨c, left, -⟩
    rw [expireTimer, expireLease_due running held, State.raise_claims, State.setClaim, getElem_set_same] at left
    cases left
  | grant u =>
    obtain ⟨g, held, count⟩ := zero
    rintro ⟨c, left, -⟩
    have gone : (s.concludeUnused u).grants[u] = none := s.concludeGrant_grants_self u _
    rw [expireTimer, expireGrant_due running held count] at left
    split at left
    · rw [(State.endUnopened_same _ u).agree .grants, gone] at left
      cases left
    · rw [gone] at left
      cases left
  | ajar u =>
    obtain ⟨x, held, count⟩ := zero
    rintro ⟨c, left, -⟩
    rw [expireTimer, expireAjar_due running held count, (State.raise_same _ _ _).agree .ajar, (State.append_same _ _ _ _ _).agree .ajar,
      getElem_set_same] at left
    cases left
  | session u =>
    obtain ⟨x, held, count⟩ := zero
    rintro ⟨c, left, -⟩
    rw [expireTimer, expireSession_due running held count, (s.endSession_drops u _).agree .sessions, State.dropSession_of_some held,
      State.setSession, getElem_set_same] at left
    cases left
  | pulse g =>
    intro left
    rw [State.zeroAt, expireTimer, expirePulse_due running zero] at left
    exact nomatch left.symm.trans (getElem_set_same s.gates.pulses g none)
  | supervision p =>
    intro left
    have live : (s.port p).linkLost = false := up p (by rw [show (s.port p).timer = some 0 from zero]; rfl)
    have stopped : ((s.superviseExpire p).port p).timer = none := by
      obtain ⟨-, -, -, -, timer, -⟩ := PortState.of_face (s.superviseExpire_face p p)
      rw [timer, State.loseLink, State.setPort_port]
    rw [State.zeroAt, expireTimer, expireSupervision_due running zero live] at left
    exact nomatch left.symm.trans stopped

/-- After the expiries of all the timers at 0, none is at 0. -/
theorem not_zeroAt_expireTimers (due : List Timer) {s : State} (running : s.running = true) (up : s.TimersUp)
    (all : ∀ t, s.zeroAt t → t ∈ due) (t : Timer) : ¬ (s.expireTimers due).zeroAt t := by
  induction due generalizing s with
  | nil => exact fun zero => List.not_mem_nil (all t zero)
  | cons d rest ih =>
    have runs : (expireTimer d s).running = true := by
      obtain ⟨-, phase, -⟩ := expireTimer_frame d s
      rw [State.running, phase]
      exact running
    refine ih runs (up.expireTimer d) fun x zero => ?_
    have before : s.zeroAt x := zeroAt_of_expireTimer zero
    refine (List.mem_cons.mp (all x before)).resolve_left fun same => ?_
    subst same
    exact not_zeroAt_expireTimer running up before zero

end Sys2Proof.Machine
end

section
/-! A second tick and a crystal cycle, each by what the tick finds (R1 to R3, R10). -/

namespace Sys2Proof.Machine

-- One theorem at a time: each check by the kernel then needs one stack.
set_option Elab.async false

open Sys2Proof

/-! ## The timers a tick brings to 0 -/

/-- The commands of the expiries that a tick takes, each by its test. -/
theorem State.lastSecondTimers_commands (s : State) :
    s.lastSecondTimers.map Timer.command
      = (allSlots.filter fun i => s.claims[i].any fun c => decide (c.lease ≤ 1)).map .claimLeaseExpiry
      ++ (allUnits.filter fun u => s.grants[u].any fun g => decide (g.expiry ≤ 1)).map .pendingGrantExpiry
      ++ (allUnits.filter fun u => s.ajar[u].any fun t => decide (t.remaining ≤ 1)).map .ajarTimerExpiry
      ++ (allUnits.filter fun u => s.sessions[u].any fun x => x.phase.lastSecond).map .minibarSessionExpiry
      ++ ((List.finRange 6).filter fun g => s.gates.pulses[g].any fun n => decide (n ≤ 1)).map .gatePulseExpiry
      ++ ([Port.fo, .se].filter fun p => (s.port p).timer.any fun n => decide (n ≤ 1)).map .supervisionTimerExpiry := by
  simp only [State.lastSecondTimers, indicesWhere_eq_filter, List.map_append, List.map_map]
  rfl

/-- What a command leaves, where it completes. -/
def State.after (x : State) (c : Instr) : State :=
  match exec c x with
  | .next y => y
  | .fault _ => x
  | .refused _ => x

/-- The commands of the expiries, one after the other, take the expiries. -/
theorem State.foldl_after_commands (due : List Timer) (s : State) : (due.map Timer.command).foldl State.after s = s.expireTimers due := by
  rw [List.foldl_map, State.expireTimers]
  congr 1
  funext x t
  simp only [State.after, exec_command]

/-- The timers with their counts one lower. -/
theorem State.tickTimers_timer (s : State) (p : Port) : (s.tickTimers.port p).timer = (s.port p).timer.map fun n => n - 1 := by
  cases p <;> rfl

theorem State.tickTimers_linkLost (s : State) (p : Port) : (s.tickTimers.port p).linkLost = (s.port p).linkLost := by cases p <;> rfl

theorem State.tickTimers_claims_slot (s : State) (i : Slot) :
    s.tickTimers.claims[i] = s.claims[i].map fun c => { c with lease := c.lease - 1 } := by
  simp [State.tickTimers]

theorem State.tickTimers_grants_unit (s : State) (u : UnitId) :
    s.tickTimers.grants[u] = s.grants[u].map fun g => { g with expiry := g.expiry - 1 } := by
  simp [State.tickTimers]

theorem State.tickTimers_ajar_unit (s : State) (u : UnitId) :
    s.tickTimers.ajar[u] = s.ajar[u].map fun t => { t with remaining := t.remaining - 1 } := by
  simp [State.tickTimers]

/-- A session a second later. -/
def Session.tick (x : Session) : Session :=
  match x.phase with
  | .awaitingOpen n => { x with phase := .awaitingOpen (n - 1) }
  | .inUse => x

theorem Session.tick_awaitingOpen {x : Session} {n : Nat} (phase : x.phase = .awaitingOpen n) :
    x.tick = { x with phase := .awaitingOpen (n - 1) } := by
  simp only [Session.tick, phase]

theorem Session.tick_inUse {x : Session} (phase : x.phase = .inUse) : x.tick = x := by simp only [Session.tick, phase]

theorem State.tickTimers_sessions_unit (s : State) (u : UnitId) : s.tickTimers.sessions[u] = s.sessions[u].map Session.tick := by
  simp only [State.tickTimers, Fin.getElem_fin, Vector.getElem_map]
  rfl

theorem State.tickTimers_pulses_gate (s : State) (g : Gate) :
    s.tickTimers.gates.pulses[g] = s.gates.pulses[g].map fun n => n - 1 := by
  simp [State.tickTimers]

/-- A timer that stands at 0 after a tick ran with its last second before it. -/
theorem State.zeroAt_tickTimers {s : State} {t : Timer} (zero : s.tickTimers.zeroAt t) : t ∈ s.lastSecondTimers := by
  simp only [State.lastSecondTimers, List.mem_append, List.mem_map, mem_indicesWhere, List.mem_filter]
  cases t with
  | lease i =>
    obtain ⟨c, held, count⟩ := zero
    obtain ⟨d, before, rfl⟩ := Option.map_eq_some_iff.mp ((s.tickTimers_claims_slot i).symm.trans held)
    have last : d.lease ≤ 1 := Nat.sub_eq_zero_iff_le.mp count
    exact .inl (.inl (.inl (.inl (.inl ⟨i, by simp only [before, Option.any_some, last, decide_true], rfl⟩))))
  | grant u =>
    obtain ⟨c, held, count⟩ := zero
    obtain ⟨d, before, rfl⟩ := Option.map_eq_some_iff.mp ((s.tickTimers_grants_unit u).symm.trans held)
    have last : d.expiry ≤ 1 := Nat.sub_eq_zero_iff_le.mp count
    exact .inl (.inl (.inl (.inl (.inr ⟨u, by simp only [before, Option.any_some, last, decide_true], rfl⟩))))
  | ajar u =>
    obtain ⟨c, held, count⟩ := zero
    obtain ⟨d, before, rfl⟩ := Option.map_eq_some_iff.mp ((s.tickTimers_ajar_unit u).symm.trans held)
    have last : d.remaining ≤ 1 := Nat.sub_eq_zero_iff_le.mp count
    exact .inl (.inl (.inl (.inr ⟨u, by simp only [before, Option.any_some, last, decide_true], rfl⟩)))
  | session u =>
    obtain ⟨c, held, count⟩ := zero
    obtain ⟨d, before, rfl⟩ := Option.map_eq_some_iff.mp ((s.tickTimers_sessions_unit u).symm.trans held)
    have last : d.phase.lastSecond = true := by
      cases phase : d.phase with
      | awaitingOpen n =>
        rw [Session.tick_awaitingOpen phase] at count
        exact decide_eq_true (Nat.sub_eq_zero_iff_le.mp (SessionPhase.awaitingOpen.inj count))
      | inUse =>
        rw [Session.tick_inUse phase, phase] at count
        cases count
    exact .inl (.inl (.inr ⟨u, by simp only [before, Option.any_some, last], rfl⟩))
  | pulse g =>
    obtain ⟨n, before, count⟩ := Option.map_eq_some_iff.mp ((s.tickTimers_pulses_gate g).symm.trans zero)
    have last : n ≤ 1 := Nat.sub_eq_zero_iff_le.mp count
    exact .inl (.inr ⟨g, by simp only [before, Option.any_some, last, decide_true], rfl⟩)
  | supervision p =>
    obtain ⟨n, before, count⟩ := Option.map_eq_some_iff.mp ((s.tickTimers_timer p).symm.trans zero)
    have last : n ≤ 1 := Nat.sub_eq_zero_iff_le.mp count
    exact .inr ⟨p, ⟨by cases p <;> decide, by simp only [before, Option.any_some, last, decide_true]⟩, rfl⟩

theorem State.TimersUp.tickTimers {s : State} (up : s.TimersUp) : s.tickTimers.TimersUp := fun p runs => by
  rw [s.tickTimers_linkLost]
  rw [s.tickTimers_timer, Option.isSome_map] at runs
  exact up p runs

/-! ## The tick -/

/-- The clock after a tick: held at the end of its range, within a minute, at a minute's end and at a day's end (R2, R3). -/
theorem Clock.tick_fst (c : Clock) :
    c.tick.1
      = (let held : Clock := { c with prescaler := 0 }
         if c.clockEnd then held
         else if c.second < 59 then
           { held with second := c.second + 1, clockEnd := decide (c.day = 65535 ∧ c.minute = 1439 ∧ c.second = 58) }
         else if c.minute < 1439 then { held with second := 0, minute := c.minute + 1 }
         else { held with second := 0, minute := 0, day := c.day + 1 }) := by
  simp only [Clock.tick]
  repeat' split
  · rfl
  · simp only [Nat.reduceEqDiff]
  · rfl
  · rfl

/-- A tick ends a minute where the clock runs and stands at the minute's last second (R2). -/
theorem Clock.tick_snd (c : Clock) : c.tick.2 = true ↔ c.clockEnd = false ∧ 59 ≤ c.second := by
  simp only [Clock.tick]
  repeat' split
  · simp_all
  · simp_all
  · simp_all
  · simp_all

/-- The state once a tick has moved the clock and lowered the timers, with no expiry taken yet. -/
def State.ticked (s : State) : State :=
  let moved := ({ s with clock := s.clock.tick.1 }).tickTimers
  if s.clock.tick.2 then moved.workLevels else moved

theorem secondTick_running {s : State} (retained : s.power.retained = true) (running : s.running = true) :
    secondTick s = s.ticked.expireTimers s.lastSecondTimers := by
  simp only [secondTick, retained, running, Bool.not_true, Bool.false_eq_true, if_false, State.ticked]

theorem secondTick_stopped {s : State} (retained : s.power.retained = true) (stopped : s.running = false) :
    secondTick s = { s with clock := s.clock.tick.1 } := by
  simp only [secondTick, retained, stopped, Bool.not_true, Bool.not_false, Bool.false_eq_true, if_false, if_true]

theorem secondTick_unretained {s : State} (dark : s.power.retained = false) : secondTick s = s := by
  simp only [secondTick, dark, Bool.not_false, if_true]

theorem crystalCycle_counts {s : State} (retained : s.power.retained = true) (below : s.clock.prescaler < 32767) :
    crystalCycle s = { s with clock := { s.clock with prescaler := s.clock.prescaler + 1 } } := by
  simp only [crystalCycle, retained, below, Bool.not_true, Bool.false_eq_true, if_false, if_true]

theorem crystalCycle_ticks {s : State} (full : ¬ s.clock.prescaler < 32767) : crystalCycle s = secondTick s := by
  simp only [crystalCycle, full, if_false]
  split
  · next dark => exact (secondTick_unretained (by simpa using dark)).symm
  · rfl

theorem crystalCycle_unretained {s : State} (dark : s.power.retained = false) : crystalCycle s = s := by
  simp only [crystalCycle, dark, Bool.not_false, if_true]

theorem State.ticked_zeroAt {s : State} {t : Timer} (zero : s.ticked.zeroAt t) : t ∈ s.lastSecondTimers := by
  refine State.zeroAt_tickTimers (s := { s with clock := s.clock.tick.1 }) (t := t) ?_
  unfold State.ticked at zero
  split at zero
  · cases t <;> exact zero
  · exact zero

theorem State.TimersUp.ticked {s : State} (up : s.TimersUp) : s.ticked.TimersUp := by
  have moved : ({ s with clock := s.clock.tick.1 }).tickTimers.TimersUp := State.TimersUp.tickTimers up
  unfold State.ticked
  split
  · intro p
    cases p with
    | fo => exact moved .fo
    | se => exact moved .se
  · exact moved

theorem State.ticked_running (s : State) : s.ticked.running = s.running := by
  unfold State.ticked
  split <;> rfl

/-- No tick leaves a running timer at 0. -/
theorem not_zeroAt_secondTick {s : State} (retained : s.power.retained = true) (running : s.running = true) (up : s.TimersUp)
    (t : Timer) : ¬ (secondTick s).zeroAt t := by
  rw [secondTick_running retained running]
  exact not_zeroAt_expireTimers _ (s.ticked_running.trans running) up.ticked (fun _ => State.ticked_zeroAt) t

end Sys2Proof.Machine

open Sys2Proof Sys2Proof.Machine

set_option Elab.async false in
/-- Settles O15: the expiries of a tick are the commands of the timers in their last second, no expiry starts a timer, and each timer
stops in its own. -/
theorem ticksAdvanceClockAndTimers : Obligations.TicksAdvanceClockAndTimers := by
  unfold Obligations.TicksAdvanceClockAndTimers
  refine ⟨fun s retained => ?_, fun s t retained running up ran => ?_, fun s retained below =>
      congrArg Host.Outcome.next (crystalCycle_counts retained below), fun s retained full =>
      congrArg Host.Outcome.next (crystalCycle_ticks (by omega)),
    fun s dark => ⟨congrArg Host.Outcome.next (secondTick_unretained dark), congrArg Host.Outcome.next (crystalCycle_unretained dark)⟩,
    fun s => ⟨s.tickTimers_claims_slot, s.tickTimers_grants_unit, s.tickTimers_ajar_unit, fun u x n held phase => ?_,
      fun u x held phase => ?_, fun u free => ?_, s.tickTimers_pulses_gate, s.tickTimers_timer, rfl⟩⟩
  · intro c held next expiries taken
    have moved : c.tick.1 = next := c.tick_fst
    have folded (x : State) : expiries.foldl taken x = x.expireTimers s.lastSecondTimers :=
      (congrArg (List.foldl State.after x) s.lastSecondTimers_commands.symm).trans (State.foldl_after_commands _ x)
    clear_value expiries taken next
    subst moved
    refine ⟨fun running within => ?_, fun running goes ends => ?_, fun stopped =>
      congrArg Host.Outcome.next (secondTick_stopped retained stopped)⟩
    · have minute : s.clock.tick.2 = false := by
        rw [Bool.eq_false_iff]
        intro ends
        obtain ⟨goes, last⟩ := s.clock.tick_snd.mp ends
        rcases within with stands | early
        · exact Bool.noConfusion (goes.symm.trans stands)
        · exact absurd early (Nat.not_lt.mpr last)
      rw [folded]
      refine congrArg Host.Outcome.next ((secondTick_running retained running).trans ?_)
      rw [State.ticked, minute]
      rfl
    · have minute : s.clock.tick.2 = true := s.clock.tick_snd.mpr ⟨goes, ends⟩
      rw [folded]
      refine congrArg Host.Outcome.next ((secondTick_running retained running).trans ?_)
      rw [State.ticked, minute]
      rfl
  · obtain rfl : secondTick s = t := Host.Outcome.next.inj ran
    have none0 := not_zeroAt_secondTick retained running up
    exact ⟨fun i c held zero => none0 (.lease i) ⟨c, held, zero⟩,
      fun u => ⟨fun g held zero => none0 (.grant u) ⟨g, held, zero⟩, fun x held zero => none0 (.ajar u) ⟨x, held, zero⟩,
        fun x held zero => none0 (.session u) ⟨x, held, zero⟩⟩,
      fun g => none0 (.pulse g), fun p => none0 (.supervision p)⟩
  · rw [s.tickTimers_sessions_unit, held, Option.map_some, Session.tick_awaitingOpen phase]
  · rw [s.tickTimers_sessions_unit, held, Option.map_some, Session.tick_inUse phase]
  · rw [s.tickTimers_sessions_unit, free, Option.map_none]
end

section
/-! Pending grants (R113, R120, R133, R154): what a grant creates at each kind of unit, and each of its conclusions. -/

namespace Sys2Proof.Machine

-- One theorem at a time: each check by the kernel then needs one stack.
set_option Elab.async false

open Sys2Proof

/-! ## What a grant hands on -/

theorem State.loadPulse_open {s : State} {g : Gate} (enabled : hasGate s.gates.enabled g = true) (unlock : Nat) :
    s.loadPulse g unlock false = (({ s with gates := { s.gates with pulses := s.gates.pulses.set g (some unlock) } }).setOutputs, true) := by
  simp only [State.loadPulse, enabled, Bool.not_false, Bool.and_self, if_true]

theorem State.loadPulse_shut {s : State} {g : Gate} {evac : Bool} (shut : hasGate s.gates.enabled g = false ∨ evac = true)
    (unlock : Nat) : s.loadPulse g unlock evac = (s, false) := by
  unfold State.loadPulse
  rcases shut with disabled | pass
  · simp only [disabled, Bool.false_and, Bool.false_eq_true, if_false]
  · simp only [pass, Bool.not_true, Bool.and_false, Bool.false_eq_true, if_false]

section
variable {s : State} {u : UnitId} (card : Nat) (guest : Bool) (i : Slot) (expiry : Nat)

theorem State.grantSession_free (free : s.sessions[u] = none) :
    s.grantSession u card guest i expiry = { s with
      sessions := s.sessions.set u (some { kind := if guest then .guest else .restock, card := card, slot := i,
                                           removed := .replicate 12 0, phase := .awaitingOpen expiry })
      power := { s.power with sessionTally := s.power.sessionTally + 1 } } := by
  simp only [State.grantSession, free, State.setSession]

theorem State.grantSession_awaiting {x : Session} {n : Nat} (held : s.sessions[u] = some x) (phase : x.phase = .awaitingOpen n) :
    s.grantSession u card guest i expiry = s.setSession u (some { x with phase := .awaitingOpen expiry }) := by
  simp only [State.grantSession, held, phase]

theorem State.grantSession_inUse {x : Session} (held : s.sessions[u] = some x) (phase : x.phase = .inUse) :
    s.grantSession u card guest i expiry = s := by
  simp only [State.grantSession, held, phase]

end

/-! ## The grant itself -/

/-- A grant newly held by a unit. -/
def State.holdGrant (s : State) (u : UnitId) (g : Grant) : State :=
  { s with grants := s.grants.set u (some g), power := { s.power with grantTally := s.power.grantTally + 1 } }

section
variable {s : State} {u : UnitId} (card : Option Nat) (guest : Bool) (unlock : Nat) (evac : Bool)

theorem State.concludeReplaced_same (s : State) (u : UnitId) : s.SameBut [.grants, .tallies, .log, .ports] (s.concludeReplaced u) :=
  s.concludeGrant_same u _

theorem State.concludeReplaced_kind (s : State) (u : UnitId) : (s.concludeReplaced u).units[u].kind = s.units[u].kind := by
  rw [(s.concludeReplaced_same u).agree .units]

theorem State.concludeReplaced_now (s : State) (u : UnitId) : (s.concludeReplaced u).now = s.now := by
  have clock : (s.concludeReplaced u).clock = s.clock := (s.concludeReplaced_same u).agree .clock
  simp only [State.now, clock]

/-- A door's grant, and one whose gate starts no pulse, is held and that is all. -/
theorem State.createGrant_door (gate : s.units[u].kind.gate? = none) (minibar : ∀ i, s.units[u].kind ≠ .minibarLock i) :
    s.createGrant u card guest unlock evac
      = (s.concludeReplaced u).holdGrant u { card := card, grantedAt := s.now, unlock := unlock, expiry := unlock + 2,
                                             acknowledged := false, evac := evac, pulsed := false } := by
  simp only [State.createGrant, State.unitGate, s.concludeReplaced_kind, gate, State.setGrant, s.concludeReplaced_now]
  rfl

theorem State.createGrant_gate {g : Gate} (kind : s.units[u].kind = .gateReader g) :
    s.createGrant u card guest unlock evac
      = ((s.concludeReplaced u).loadPulse g unlock evac).1.holdGrant u
          { card := card, grantedAt := s.now, unlock := unlock, expiry := unlock + 2, acknowledged := false, evac := evac,
            pulsed := ((s.concludeReplaced u).loadPulse g unlock evac).2 } := by
  have loaded := (s.concludeReplaced u).loadPulse_same g unlock evac
  have units : ((s.concludeReplaced u).loadPulse g unlock evac).1.units[u].kind = .gateReader g := by
    rw [loaded.agree .units, s.concludeReplaced_kind, kind]
  have gate : (s.concludeReplaced u).unitGate u = some g := by
    rw [State.unitGate, s.concludeReplaced_kind, kind]
    rfl
  simp only [State.createGrant, gate, State.setGrant]
  split
  · next i minibar => exact nomatch units.symm.trans minibar
  · rw [s.concludeReplaced_now]
    rfl

theorem State.createGrant_minibar {i : Slot} (kind : s.units[u].kind = .minibarLock i) :
    s.createGrant u card guest unlock evac
      = ((s.concludeReplaced u).holdGrant u { card := card, grantedAt := s.now, unlock := unlock, expiry := unlock + 2,
                                              acknowledged := false, evac := evac, pulsed := false }).grantSession u
          (card.getD 0) guest i (unlock + 2) := by
  have units : (s.concludeReplaced u).units[u].kind = .minibarLock i := (s.concludeReplaced_kind u).trans kind
  have gate : (s.concludeReplaced u).unitGate u = none := by
    rw [State.unitGate, units]
    rfl
  simp only [State.createGrant, gate, State.setGrant]
  split
  · next j other =>
    obtain rfl : j = i := UnitKind.minibarLock.inj (other.symm.trans units)
    rw [s.concludeReplaced_now]
    rfl
  · next other => exact absurd units (other i)

end

/-- An ENTRY says revoked since where the grant is no evac pass and its card, if any record holds it, is REVOKED (R119). -/
theorem State.revokedSince_iff (s : State) (g : Grant) :
    s.revokedSince g = true ↔ g.evac = false ∧ ∀ n ∈ g.card, ∀ c ∈ s.table.find n, c.isRevoked = true := by
  unfold State.revokedSince
  cases evac : g.evac with
  | true => simp
  | false =>
    cases card : g.card with
    | none => simp
    | some n =>
      cases found : s.table.find n with
      | none => simp [found]
      | some c => simp [found]

end Sys2Proof.Machine

open Sys2Proof Sys2Proof.Machine

set_option Elab.async false in
/-- Settles O40, by the kind of the unit that is granted, and by whether a grant is held. -/
theorem grantsAreHeldAndConcluded : Obligations.GrantsAreHeldAndConcluded := by
  unfold Obligations.GrantsAreHeldAndConcluded
  refine ⟨fun s u card guest unlock evac => ?_, fun s u => ?_⟩
  · intro before grant held r
    refine ⟨fun kinds => State.createGrant_door card guest unlock evac ?_ ?_, fun g kind => ⟨fun enabled pass => ?_, fun shut => ?_⟩,
      fun i kind => ?_⟩
    · rcases kinds with kind | ⟨i, kind⟩
      · rw [kind]
        rfl
      · rw [kind]
        rfl
    · rcases kinds with kind | ⟨i, kind⟩
      · exact fun _ other => nomatch kind.symm.trans other
      · exact fun _ other => nomatch kind.symm.trans other
    · subst pass
      have opens : hasGate (s.concludeReplaced u).gates.enabled g = true := by
        rw [(s.concludeReplaced_same u).agree .gates]
        exact enabled
      refine (State.createGrant_gate card guest unlock false kind).trans ?_
      rw [State.loadPulse_open opens]
      rfl
    · have stays : hasGate (s.concludeReplaced u).gates.enabled g = false ∨ evac = true := by
        rw [(s.concludeReplaced_same u).agree .gates]
        exact shut
      refine (State.createGrant_gate card guest unlock evac kind).trans ?_
      rw [State.loadPulse_shut stays]
      rfl
    · have sessions : (held before false).sessions = s.sessions := (s.concludeReplaced_same u).agree .sessions
      have made : r = (held before false).grantSession u (card.getD 0) guest i (unlock + 2) :=
        State.createGrant_minibar card guest unlock evac kind
      have at_u : (held before false).sessions[u] = s.sessions[u] := by rw [sessions]
      exact ⟨fun free => made.trans (State.grantSession_free _ _ _ _ (at_u.trans free)),
        fun x n open_ phase => made.trans (State.grantSession_awaiting _ _ _ _ (at_u.trans open_) phase),
        fun x open_ phase => made.trans (State.grantSession_inUse _ _ _ _ (at_u.trans open_) phase)⟩
  · intro concluded
    refine ⟨fun free => ⟨State.concludeGrant_none _ free, State.concludeGrant_none _ free, State.concludeGrant_none _ free,
      fun cause => State.concludeGrant_none _ free⟩, fun g holds => ?_⟩
    intro items since
    refine ⟨State.concludeGrant_some _ holds, State.concludeGrant_some _ holds, fun cause => State.concludeGrant_some _ holds,
      fun revoked => ?_, fun valid => ?_⟩
    · have said : s.revokedSince g = true := (s.revokedSince_iff g).mpr revoked
      refine (State.concludeGrant_some _ holds).trans ?_
      rw [said]
      rfl
    · have said : s.revokedSince g = false := Bool.eq_false_iff.mpr fun said => valid ((s.revokedSince_iff g).mp said)
      refine (State.concludeGrant_some _ holds).trans ?_
      rw [said]
      rfl
end

section
/-! Frames and the ANSWER (R68, R70, R203): what the checks find of a frame, and an ANSWER's payload read back. -/

namespace Sys2Proof.Machine

-- One theorem at a time: each check by the kernel then needs one stack.
set_option Elab.async false

open Sys2Proof

/-! ## The checks of a frame -/

theorem checkFrame_short {frame : List Byte} (short : frame.length < 5) (address kind : Nat) :
    checkFrame frame address kind = .crcError := by
  have cut : (frame.take Config.maxFrame).length < 5 := Nat.lt_of_le_of_lt (List.length_take_le' _ _) short
  simp only [checkFrame, cut, true_or, if_true]

section
variable {body tail : List Byte}

/-- A frame no longer than 53 bytes is examined whole. -/
theorem take_maxFrame (two : tail.length = 2) (fits : body.length ≤ 51) : (body ++ tail).take Config.maxFrame = body ++ tail :=
  List.take_of_length_le (by rw [List.length_append, two]; exact Nat.add_le_add_right fits 2)

theorem checkFrame_wrongCrc (two : tail.length = 2) (fits : body.length ≤ 51) (wrong : (crc16 body).toNat ≠ ofBe tail)
    (address kind : Nat) : checkFrame (body ++ tail) address kind = .crcError := by
  have back : (body ++ tail).length - 2 = body.length := by rw [List.length_append, two, Nat.add_sub_cancel]
  simp only [checkFrame, take_maxFrame two fits, back, List.take_left, List.drop_left, wrong, ne_eq, not_false_eq_true, or_true, if_true]

/-- A frame whose CRC agrees is judged by its address, its kind and its payload length. -/
theorem checkFrame_sealed {a k n : Byte} {payload : List Byte} (fits : payload.length ≤ 48) (address kind : Nat) :
    checkFrame (a :: k :: n :: payload ++ be 2 (crc16 (a :: k :: n :: payload)).toNat) address kind
      = if a.toNat ≠ address then .stray
        else if k.toNat ≠ kind ∨ n.toNat ≠ payload.length then .malformed
        else .wellFormed payload := by
  have inside : (a :: k :: n :: payload).length ≤ 51 := by
    simp only [List.length_cons]
    omega
  have crc : ofBe (be 2 (crc16 (a :: k :: n :: payload)).toNat) = (crc16 (a :: k :: n :: payload)).toNat :=
    ofBe_be_two (Nat.le_of_lt_succ (crc16 (a :: k :: n :: payload)).isLt)
  have two : (be 2 (crc16 (a :: k :: n :: payload)).toNat).length = 2 := rfl
  have back : (a :: k :: n :: payload ++ be 2 (crc16 (a :: k :: n :: payload)).toNat).length - 2
      = (a :: k :: n :: payload).length := by rw [List.length_append, two, Nat.add_sub_cancel]
  have long : ¬ (a :: k :: n :: payload ++ be 2 (crc16 (a :: k :: n :: payload)).toNat).length < 5 := by
    rw [List.length_append, two]
    simp only [List.length_cons]
    omega
  rw [checkFrame, take_maxFrame two inside]
  simp only [back, List.take_left, List.drop_left, crc, long, ne_eq, not_true_eq_false, or_self, if_false]

end

/-! ## Reports -/

/-- A report whose counts fit their bytes. -/
def Report.Fits (r : Report) : Prop := ∀ (item : Fin 12) (n m : Nat), r = .items item n m → n ≤ 255 ∧ m ≤ 255

theorem toNat_ofNat_byte {n : Nat} (fits : n ≤ 255) : (BitVec.ofNat 8 n).toNat = n := by
  rw [BitVec.toNat_ofNat]
  exact Nat.mod_eq_of_lt (Nat.lt_succ_of_le fits)

/-- A report is sent in four bytes, and they are read as that report. -/
theorem Report.bytes_read {r : Report} (fits : r.Fits) : ∃ k a b c, r.bytes = [k, a, b, c] ∧ reportOf? k a b c = some r := by
  cases r with
  | opened released => exact ⟨1, _, 0, 0, rfl, by cases released <;> rfl⟩
  | closed => exact ⟨2, 0, 0, 0, rfl, rfl⟩
  | deadboltOn => exact ⟨3, 0, 0, 0, rfl, rfl⟩
  | deadboltOff => exact ⟨4, 0, 0, 0, rfl, rfl⟩
  | tamper => exact ⟨5, 0, 0, 0, rfl, rfl⟩
  | items item n m =>
    obtain ⟨removed, returned⟩ := fits item n m rfl
    refine ⟨6, _, _, _, rfl, ?_⟩
    have slot : (BitVec.ofNat 8 item.val).toNat = item.val := toNat_ofNat_byte (by omega)
    have six : (6 : Byte).toNat = 6 := rfl
    simp only [reportOf?, six, slot, toNat_ofNat_byte removed, toNat_ofNat_byte returned, item.isLt, dif_pos, Fin.eta]

/-- Four bytes with an unknown kind, or an item slot above 11, are no report (R203). -/
theorem reportOf?_bad {kind x y z : Byte} (bad : kind.toNat = 0 ∨ 6 < kind.toNat ∨ (kind.toNat = 6 ∧ 11 < x.toNat)) :
    reportOf? kind x y z = none := by
  unfold reportOf?
  split
  case h_6 six => exact dif_neg (by omega)
  case h_7 => rfl
  all_goals omega

/-- The bytes that follow `n` reports begin after the reports' own. -/
theorem reportsOf?_rest {n : Nat} {bytes tail : List Byte} {rs : List Report} (read : reportsOf? n bytes = some (rs, tail)) :
    tail = bytes.drop (4 * n) := by
  induction n generalizing bytes rs with
  | zero =>
    obtain ⟨-, rfl⟩ := Prod.mk.inj (Option.some.inj read)
    rfl
  | succ n ih =>
    unfold reportsOf? at read
    split at read
    · next same => exact absurd same (Nat.succ_ne_zero n)
    · next m kind a b c rest same =>
      obtain rfl : n = m := Nat.succ.inj same
      split at read
      · next r rs' tail' _ later =>
        obtain ⟨-, rfl⟩ := Prod.mk.inj (Option.some.inj read)
        exact ih later
      · cases read
    · cases read

/-- A report that is none makes the whole none. -/
theorem reportsOf?_bad {n k : Nat} {before after : List Byte} {kind x y z : Byte} (place : before.length = 4 * k) (inside : k < n)
    (bad : reportOf? kind x y z = none) : reportsOf? n (before ++ kind :: x :: y :: z :: after) = none := by
  induction n generalizing k before with
  | zero => exact absurd inside (Nat.not_lt_zero k)
  | succ n ih =>
    cases k with
    | zero =>
      obtain rfl : before = [] := List.eq_nil_of_length_eq_zero place
      simp only [List.nil_append, reportsOf?, bad]
    | succ k =>
      match before, place with
      | p :: q :: r :: t :: rest, place =>
        have later := ih (k := k) (before := rest) (by simp only [List.length_cons] at place; omega) (Nat.lt_of_succ_lt_succ inside)
        simp only [List.cons_append, reportsOf?, later]
        cases reportOf? p q r t <;> rfl

/-- Reports sent are the reports read, and what follows them is left. -/
theorem reportsOf?_bytes {rs : List Report} (fits : ∀ r ∈ rs, r.Fits) (tail : List Byte) :
    reportsOf? rs.length (rs.flatMap Report.bytes ++ tail) = some (rs, tail) := by
  induction rs with
  | nil => rfl
  | cons r rs ih =>
    obtain ⟨k, a, b, c, bytes, read⟩ := Report.bytes_read (fits r (List.mem_cons_self ..))
    have later := ih fun x mem => fits x (List.mem_cons_of_mem _ mem)
    simp only [List.length_cons, List.flatMap_cons, bytes, List.cons_append, List.nil_append, reportsOf?, read, later]

theorem length_flatMap_bytes {rs : List Report} (fits : ∀ r ∈ rs, r.Fits) : (rs.flatMap Report.bytes).length = 4 * rs.length := by
  induction rs with
  | nil => rfl
  | cons r rs ih =>
    obtain ⟨k, a, b, c, bytes, -⟩ := Report.bytes_read (fits r (List.mem_cons_self ..))
    have later := ih fun x mem => fits x (List.mem_cons_of_mem _ mem)
    simp only [List.flatMap_cons, List.length_append, bytes, later, List.length_cons, List.length_nil]
    omega

/-! ## Presentations -/

/-- A presentation is sent in 21 bytes, and they are read as it. -/
theorem presentationOf?_bytes {card : Option (Side × CardImage)} (fits : ∀ x ∈ card, ∀ k : Fin 10, x.2[k] ≤ 65535) :
    presentationOf? card.isSome (presentationBytes card) = some card := by
  cases card with
  | none => rfl
  | some x =>
    obtain ⟨side, image⟩ := x
    have words : ∀ w ∈ image.toList, Word w := fun w mem => by
      obtain ⟨k, inside, rfl⟩ := List.getElem_of_mem mem
      exact fits _ rfl ⟨k, by simpa using inside⟩
    have read : imageOfBytes (image.toList.flatMap (be 2)) = image :=
      Vector.toList_inj.mp (imageOfBytes_toList image.length_toList words)
    have from_side : sideOf? (BitVec.ofNat 8 side.code) = some side := by cases side <;> rfl
    simp only [presentationOf?, presentationBytes, byte, List.cons_append, List.nil_append, Option.isSome_some, Bool.not_true,
      Bool.false_eq_true, if_false, from_side, Option.map_some, read]

theorem length_presentationBytes (card : Option (Side × CardImage)) :
    (presentationBytes card).length = if card.isSome then 21 else 0 := by
  cases card with
  | none => rfl
  | some x =>
    have twenty (words : List Nat) : (words.flatMap (be 2)).length = 2 * words.length := by
      induction words with
      | nil => rfl
      | cons w words ih =>
        simp only [List.flatMap_cons, List.length_append, ih, List.length_cons]
        exact (Nat.add_comm _ _).trans (Nat.mul_succ 2 _).symm
    simp only [presentationBytes, List.length_append, twenty, Vector.length_toList, Option.isSome_some, if_true]
    rfl

/-! ## The status byte -/

section
variable (a : AnswerContent) (few : a.reports.length ≤ 4)

theorem WingMode.code_le (m : WingMode) : m.code ≤ 3 := by cases m <;> decide

theorem WingMode.ofCode_code (m : WingMode) : WingMode.ofCode m.code = m := by cases m <;> rfl

include few in
theorem AnswerContent.statusByte_toNat :
    a.statusByte.toNat = a.status.mode.code + (if a.status.released then 4 else 0) + 16 * a.reports.length
      + (if a.card.isSome then 128 else 0) := by
  have mode := a.status.mode.code_le
  refine toNat_ofNat_byte ?_
  repeat' split
  all_goals omega

include few in
theorem AnswerContent.statusByte_mode : WingMode.ofCode (a.statusByte.toNat % 4) = a.status.mode := by
  have mode := a.status.mode.code_le
  have code : a.statusByte.toNat % 4 = a.status.mode.code := by
    rw [a.statusByte_toNat few]
    repeat' split
    all_goals omega
  rw [code, WingMode.ofCode_code]

include few in
theorem AnswerContent.statusByte_released : a.statusByte.getLsbD 2 = a.status.released := by
  have mode := a.status.mode.code_le
  rw [BitVec.getLsbD, Nat.testBit_eq_decide_div_mod_eq, a.statusByte_toNat few]
  cases a.status.released with
  | true =>
    refine decide_eq_true ?_
    rw [if_pos rfl]
    split <;> omega
  | false =>
    refine decide_eq_false ?_
    rw [if_neg Bool.false_ne_true]
    split <;> omega

include few in
theorem AnswerContent.statusByte_count : a.statusByte.toNat / 16 % 8 = a.reports.length := by
  have mode := a.status.mode.code_le
  rw [a.statusByte_toNat few]
  repeat' split
  all_goals omega

include few in
theorem AnswerContent.statusByte_present : a.statusByte.msb = a.card.isSome := by
  have mode := a.status.mode.code_le
  rw [BitVec.msb_eq_decide, a.statusByte_toNat few]
  cases a.card.isSome with
  | true =>
    refine decide_eq_true ?_
    rw [if_pos (c := true = true) rfl]
    split <;> omega
  | false =>
    refine decide_eq_false ?_
    rw [if_neg Bool.false_ne_true]
    split <;> omega

end

/-! ## The ANSWER -/

/-- Where its counts and its length are in order, an ANSWER is read part by part, and it is none where one part is none. -/
theorem answerOf?_cons (bit status : Byte) {rest : List Byte}
    (counts : ¬ (4 < status.toNat / 16 % 8 ∨ rest.length ≠ 4 * (status.toNat / 16 % 8) + (if status.msb then 21 else 0))) :
    answerOf? (bit :: status :: rest)
      = (answerBitOf? bit).bind fun answerBit => (reportsOf? (status.toNat / 16 % 8) rest).bind fun x =>
          (presentationOf? status.msb x.2).map fun card =>
            { bit := answerBit, status := { mode := WingMode.ofCode (status.toNat % 4), released := status.getLsbD 2 },
              reports := x.1, card := card } := by
  simp only [answerOf?, if_neg counts]
  cases answerBitOf? bit with
  | none => rfl
  | some answerBit =>
    cases reportsOf? (status.toNat / 16 % 8) rest with
    | none => rfl
    | some x => rfl

theorem answerOf?_counts (bit status : Byte) {rest : List Byte}
    (counts : 4 < status.toNat / 16 % 8 ∨ rest.length ≠ 4 * (status.toNat / 16 % 8) + (if status.msb then 21 else 0)) :
    answerOf? (bit :: status :: rest) = none := by
  simp only [answerOf?, if_pos counts]

theorem answerBitOf?_bad {bit : Byte} (bad : 1 < bit.toNat) : answerBitOf? bit = none := by
  have zero : bit ≠ 0 := fun same => by rw [same] at bad; exact absurd bad (by decide)
  have one : bit ≠ 1 := fun same => by rw [same] at bad; exact absurd bad (by decide)
  simp only [answerBitOf?, zero, one, if_false]

/-- An ANSWER sent by Table 11-1 is read back. -/
theorem AnswerContent.payload_read {a : AnswerContent} (few : a.reports.length ≤ 4) (fits : ∀ r ∈ a.reports, r.Fits)
    (words : ∀ x ∈ a.card, ∀ k : Fin 10, x.2[k] ≤ 65535) : answerOf? a.payload = some a := by
  have bytes : a.payload = BitVec.ofNat 8 (if a.bit then 1 else 0) :: a.statusByte
      :: (a.reports.flatMap Report.bytes ++ presentationBytes a.card) := by
    simp only [AnswerContent.payload, flag, byte, List.cons_append, List.nil_append]
  have answerBit : answerBitOf? (BitVec.ofNat 8 (if a.bit then 1 else 0)) = some a.bit := by cases a.bit <;> rfl
  rw [bytes, answerOf?_cons, answerBit, a.statusByte_count few, reportsOf?_bytes fits, Option.bind_some, Option.bind_some,
    a.statusByte_present few, presentationOf?_bytes words, a.statusByte_mode few, a.statusByte_released few]
  · rfl
  · rw [a.statusByte_count few, a.statusByte_present few, List.length_append, length_flatMap_bytes fits, length_presentationBytes]
    omega

end Sys2Proof.Machine

open Sys2Proof Sys2Proof.Machine

set_option Elab.async false in
/-- Settles O36: a frame's checks from its length on, and an ANSWER part by part. -/
theorem framesAreChecked : Obligations.FramesAreChecked := by
  unfold Obligations.FramesAreChecked
  refine ⟨⟨rfl, fun bytes b => ?_⟩, fun frame address kind short => checkFrame_short short address kind,
    fun body c d address kind _ fits wrong => checkFrame_wrongCrc rfl fits ?_ address kind,
    fun a k n payload address kind fits => ⟨fun stray => ?_, fun own bad => ?_, fun own right length => ?_⟩,
    fun bit status rest bad => ?_, fun bit status before after k kind x y z place inside bad => ?_,
    fun bit status side reports image present place inner outer => ?_,
    fun a few counts words => AnswerContent.payload_read few (fun r mem => counts r mem) words⟩
  · rw [crc16, List.foldl_append]
    rfl
  · simpa [ofBe] using wrong
  · exact (checkFrame_sealed fits address kind).trans (if_pos stray)
  · exact (checkFrame_sealed fits address kind).trans ((if_neg (not_not_intro own)).trans (if_pos bad))
  · exact (checkFrame_sealed fits address kind).trans
      ((if_neg (not_not_intro own)).trans (if_neg (not_or_intro (not_not_intro right) (not_not_intro length))))
  · by_cases counts : 4 < status.toNat / 16 % 8 ∨ rest.length ≠ 4 * (status.toNat / 16 % 8) + (if status.msb then 21 else 0)
    · exact answerOf?_counts bit status counts
    · rw [answerOf?_cons bit status counts, answerBitOf?_bad (bad.resolve_right counts)]
      rfl
  · by_cases counts : 4 < status.toNat / 16 % 8
        ∨ (before ++ kind :: x :: y :: z :: after).length ≠ 4 * (status.toNat / 16 % 8) + (if status.msb then 21 else 0)
    · exact answerOf?_counts bit status counts
    · rw [answerOf?_cons bit status counts, reportsOf?_bad place inside (reportOf?_bad bad)]
      cases answerBitOf? bit <;> rfl
  · by_cases counts : 4 < status.toNat / 16 % 8
        ∨ (reports ++ side :: image).length ≠ 4 * (status.toNat / 16 % 8) + (if status.msb then 21 else 0)
    · exact answerOf?_counts bit status counts
    · have unread : presentationOf? status.msb (side :: image) = none := by
        simp only [presentationOf?, present, Bool.not_true, Bool.false_eq_true, if_false, sideOf?, inner, outer, Option.map_none]
      rw [answerOf?_cons bit status counts]
      cases answerBitOf? bit with
      | none => rfl
      | some answerBit =>
        cases read : reportsOf? (status.toNat / 16 % 8) (reports ++ side :: image) with
        | none => rfl
        | some x =>
          obtain ⟨rs, tail⟩ := x
          obtain rfl : tail = side :: image := by rw [reportsOf?_rest read, ← place, List.drop_left]
          simp only [Option.bind_some, unread, Option.map_none]
end

section
/-! The verdict of a presentation (R96 to R106): what each of the twelve steps decides, and what its verdict leaves behind. -/

namespace Sys2Proof.Machine

-- One theorem at a time: each check by the kernel then needs one stack.
set_option Elab.async false

open Sys2Proof

section
variable {s : State} {u : UnitId} {image : CardImage}

/-! ## Steps 1 to 3 -/

section
variable (free : s.units[u].quarantined = false)

include free in
theorem State.rule_reread (damaged : endAround image.toList ≠ 65535) : s.rule u image = .reread := by
  have torn : image.intact = false := beq_eq_false_iff_ne.mpr damaged
  rw [State.rule, free, torn]
  rfl

variable (whole : endAround image.toList = 65535)

include free whole in
theorem State.rule_evacuation (mode : s.wing.mode = .evacuation) :
    s.rule u image
      = if s.units[u].kind.isMinibar then .deny .evacuation image.card? none false else .evacPass image.card? := by
  have intact : image.intact = true := beq_iff_eq.mpr whole
  rw [State.rule, free, intact, if_neg Bool.false_ne_true, Bool.not_true, if_neg Bool.false_ne_true, if_pos mode]

include free whole in
theorem State.rule_card (mode : s.wing.mode ≠ .evacuation) : s.rule u image = s.ruleCard u image := by
  have intact : image.intact = true := beq_iff_eq.mpr whole
  rw [State.rule, free, intact, if_neg Bool.false_ne_true, Bool.not_true, if_neg Bool.false_ne_true, if_neg mode]

end

theorem UnitKind.isMinibar_of {k : UnitKind} (minibar : ∃ i, k = .minibarLock i) : k.isMinibar = true := by
  obtain ⟨i, rfl⟩ := minibar
  rfl

theorem UnitKind.isMinibar_not {k : UnitKind} (other : ∀ i, k ≠ .minibarLock i) : k.isMinibar = false := by
  cases k with
  | minibarLock i => exact absurd rfl (other i)
  | _ => rfl

/-! ## Steps 4 to 6 -/

theorem State.ruleCard_noClock (unset : s.clock.clockSet = false) : s.ruleCard u image = .deny .noClock image.card? none false := by
  rw [State.ruleCard, unset]
  rfl

section
variable (set : s.clock.clockSet = true)

include set in
theorem State.ruleCard_foreign (foreign : s.table.site = 0 ∨ image.site ≠ s.table.site) :
    s.ruleCard u image = .deny .foreign image.card? none false := by
  rw [State.ruleCard, set, Bool.not_true, if_neg Bool.false_ne_true, if_pos foreign]

variable (here : s.table.site ≠ 0) (own : image.site = s.table.site)

include set here own in
theorem State.ruleCard_unknown (unknown : s.table.find image.cardNumber = none) :
    s.ruleCard u image = .deny .unknown image.card? none false := by
  rw [State.ruleCard, set, Bool.not_true, if_neg Bool.false_ne_true, if_neg (not_or_intro here (not_not_intro own)), unknown]

variable {c : Credential} (found : s.table.find image.cardNumber = some c)

include set here own found in
theorem State.ruleCard_revoked {reason : RevokeReason} (state : c.state = .revoked reason) :
    s.ruleCard u image = .deny .revoked image.card? none (decide (reason = .lost)) := by
  rw [State.ruleCard, set, Bool.not_true, if_neg Bool.false_ne_true, if_neg (not_or_intro here (not_not_intro own)), found]
  simp only [state]

include set here own found in
theorem State.ruleCard_suspended (state : c.state = .suspended) : s.ruleCard u image = .deny .suspended image.card? none false := by
  rw [State.ruleCard, set, Bool.not_true, if_neg Bool.false_ne_true, if_neg (not_or_intro here (not_not_intro own)), found]
  simp only [state]

include set here own found in
theorem State.ruleCard_active (state : c.state = .active) : s.ruleCard u image = s.ruleRecord u image c := by
  rw [State.ruleCard, set, Bool.not_true, if_neg Bool.false_ne_true, if_neg (not_or_intro here (not_not_intro own)), found]
  simp only [state]

end

/-! ## Steps 7 to 12 -/

/-- Whether the record gives what the image holds, with slot 255 and generation 0 for a card bound to no room (R46, R102). -/
theorem Credential.agrees_iff {c : Credential} :
    c.agrees image = true ↔ image.cls = c.cls.val ∧ image.slot = (c.slot?.map Fin.val).getD 255
      ∧ image.generation = (c.binding.map RoomBinding.generation).getD 0 ∧ image.issueNumber = c.issueNumber := by
  have slot : c.imageSlot = (c.slot?.map Fin.val).getD 255 := by
    unfold Credential.imageSlot Credential.slot?
    cases c.binding <;> rfl
  have generation : c.imageGeneration = (c.binding.map RoomBinding.generation).getD 0 := by
    unfold Credential.imageGeneration
    cases c.binding <;> rfl
  rw [Credential.agrees, decide_eq_true_iff, slot, generation]

section
variable {c : Credential}

theorem State.ruleRecord_stale (differs : c.agrees image = false) :
    s.ruleRecord u image c = .deny .stale image.card? none false := by
  rw [State.ruleRecord, differs]
  rfl

variable (agrees : c.agrees image = true)

include agrees in
theorem State.ruleRecord_outside {reason : Reason} (outside : windowTest c.window s.nowIndex = some reason) :
    s.ruleRecord u image c = .deny reason image.card? none false := by
  rw [State.ruleRecord, agrees, Bool.not_true, if_neg Bool.false_ne_true, outside]

theorem windowTest_early {w : Window} {present : Nat} (early : present < w.start.index) : windowTest w present = some .early :=
  if_pos early

theorem windowTest_expired {w : Window} {present : Nat} (begun : w.start.index ≤ present) (over_ : w.stop.index ≤ present) :
    windowTest w present = some .expired :=
  (if_neg (Nat.not_lt.mpr begun)).trans (if_pos over_)

theorem windowTest_inside {w : Window} {present : Nat} (begun : w.start.index ≤ present) (lasts : present < w.stop.index) :
    windowTest w present = none :=
  (if_neg (Nat.not_lt.mpr begun)).trans (if_neg (Nat.not_le.mpr lasts))

variable (inside : windowTest c.window s.nowIndex = none)

include agrees inside in
theorem State.ruleRecord_wrongRoom {j : Slot} (other : s.otherRoom u c = some j) :
    s.ruleRecord u image c = .deny .wrongRoom image.card? (some j) false := by
  rw [State.ruleRecord, agrees, Bool.not_true, if_neg Bool.false_ne_true, inside]
  simp only [other]

variable (room : s.otherRoom u c = none)

include agrees inside room in
theorem State.ruleRecord_account {reason : Reason} (account : s.accountDenial u c = some reason) :
    s.ruleRecord u image c = .deny reason image.card? none false := by
  rw [State.ruleRecord, agrees, Bool.not_true, if_neg Bool.false_ne_true, inside]
  simp only [room, account]

include agrees inside room in
theorem State.ruleRecord_condition (account : s.accountDenial u c = none) :
    s.ruleRecord u image c
      = if s.conditionHolds u c.cls then .grant c.number c.binding.isSome else .deny .condition image.card? none false := by
  rw [State.ruleRecord, agrees, Bool.not_true, if_neg Bool.false_ne_true, inside]
  simp only [room, account]

end

section
variable {c : Credential}

theorem State.otherRoom_some {i j : Slot} (unit : s.units[u].kind.slot? = some i) (card : c.slot? = some j) (differ : i ≠ j) :
    s.otherRoom u c = some j := by
  simp only [State.otherRoom, State.unitSlot, unit, card, if_neg differ]

theorem State.otherRoom_none (same : ∀ i ∈ s.units[u].kind.slot?, ∀ j ∈ c.slot?, i = j) : s.otherRoom u c = none := by
  unfold State.otherRoom
  split
  · next i j unit card => exact if_pos (same i unit j card)
  · rfl

theorem Credential.binding_isNone : c.binding.isNone = !c.slot?.isSome := by
  unfold Credential.slot?
  cases c.binding <;> rfl

theorem State.accountDenial_blocked {i : Slot} (kind : s.units[u].kind = .minibarLock i) (bound : c.slot?.isSome = true)
    (blocked : s.accounts[i].blocked = true) : s.accountDenial u c = some .minibarClosed := by
  simp only [State.accountDenial, kind, Credential.binding_isNone, bound, blocked, Bool.not_true, Bool.false_eq_true, if_false, if_true]

theorem State.accountDenial_low {i : Slot} (kind : s.units[u].kind = .minibarLock i) (bound : c.slot?.isSome = true)
    (admitted : s.accounts[i].blocked = false) (low : s.accounts[i].remaining < s.reserve) :
    s.accountDenial u c = some .allowance := by
  simp only [State.accountDenial, kind, Credential.binding_isNone, bound, admitted, low, Bool.not_true, Bool.false_eq_true, if_false,
    if_true]

theorem State.accountDenial_none (admits : ∀ i, s.units[u].kind = .minibarLock i → c.slot?.isSome = true →
    s.accounts[i].blocked = false ∧ s.reserve ≤ s.accounts[i].remaining) : s.accountDenial u c = none := by
  unfold State.accountDenial
  split
  · next i kind =>
    cases bound : c.slot?.isSome with
    | false => rw [Credential.binding_isNone, bound, Bool.not_false, if_pos rfl]
    | true =>
      obtain ⟨open_, enough⟩ := admits i kind bound
      rw [Credential.binding_isNone, bound, Bool.not_true, if_neg Bool.false_ne_true, open_, if_neg Bool.false_ne_true,
        if_neg (Nat.not_lt.mpr enough)]
  · rfl

end

/-! ## What a ruling leaves behind -/

/-- A record of a unit in the log, as a verdict appends it. -/
theorem State.appendUnit_setMisreads (n : Nat) (card : Option Nat) (d : Detail) :
    (s.setMisreads u n).appendUnit u card d = (s.setMisreads u n).append (.unit u) card s.units[u].kind.slot? d := by
  rw [State.appendUnit, State.unitSlot, State.setMisreads, State.getElem_setUnit, if_pos rfl]

theorem State.present_denied {reason : Reason} {card : Option Nat} {slot : Option Slot}
    (ruled : s.rule u image = .deny reason card slot false) (side : Side) :
    s.present u side image
      = ((s.setMisreads u 0).append (.unit u) card s.units[u].kind.slot? (.denial reason side slot), .deny reason) := by
  rw [State.present, ruled, State.carryOut, State.appendUnit_setMisreads]
  rfl

/-- The denial of a card that was reported lost is told to SE as well (R101). -/
theorem State.present_lost {reason : Reason} {card : Option Nat} {slot : Option Slot}
    (ruled : s.rule u image = .deny reason card slot true) (side : Side) :
    s.present u side image
      = (((s.setMisreads u 0).append (.unit u) card s.units[u].kind.slot? (.denial reason side slot)).raise .se (.revokedCardSeen u),
          .deny reason) := by
  rw [State.present, ruled, State.carryOut, State.appendUnit_setMisreads]
  rfl

theorem State.present_evacPass {card : Option Nat} (ruled : s.rule u image = .evacPass card) (side : Side) :
    s.present u side image
      = (((s.setMisreads u 0).createGrant u card false (s.unlockOf u) true).append (.unit u) card s.units[u].kind.slot?
          (.evacPass side (s.unlockOf u)), .grant (s.unlockOf u)) := by
  have units : ((s.setMisreads u 0).createGrant u card false (s.unlockOf u) true).units = (s.setMisreads u 0).units :=
    (State.createGrant_same _ u card false _ true).agree .units
  have kind : (s.setMisreads u 0).units[u].kind = s.units[u].kind := by rw [State.setMisreads, State.getElem_setUnit, if_pos rfl]
  rw [State.present, ruled, State.carryOut]
  simp only [State.appendUnit, State.unitSlot, units, kind]

theorem State.present_granted {card : Nat} {guest : Bool} (ruled : s.rule u image = .grant card guest) (side : Side) :
    s.present u side image = ((s.setMisreads u 0).createGrant u (some card) guest (s.unlockOf u) false, .grant (s.unlockOf u)) := by
  rw [State.present, ruled, State.carryOut]

theorem State.present_reread (ruled : s.rule u image = .reread) (side : Side) : s.present u side image = (s.misread u side, .reread) := by
  rw [State.present, ruled, State.carryOut]

/-- The first two misreads in a row raise the streak (R98). -/
theorem State.misread_early (early : s.units[u].misreads < 2) (side : Side) :
    s.misread u side = s.setMisreads u (s.units[u].misreads + 1) := if_pos early

/-- The third ends it with a CARD_FAULT (R98). -/
theorem State.misread_third (third : 2 ≤ s.units[u].misreads) (side : Side) :
    s.misread u side
      = ((s.setMisreads u 0).append (.unit u) none s.units[u].kind.slot? (.cardFault side)).raise .se (.cardFault u) := by
  rw [State.misread, if_neg (Nat.not_lt.mpr third), State.appendUnit_setMisreads]

end

end Sys2Proof.Machine

open Sys2Proof Sys2Proof.Machine

set_option Elab.async false in
/-- Settles O39: each step's own lemma, under the steps before it passed. -/
theorem verdictFollowsTheTwelveSteps : Obligations.VerdictFollowsTheTwelveSteps := by
  unfold Obligations.VerdictFollowsTheTwelveSteps
  intro s u side image steady number unlock record decided denied agrees
  refine ⟨fun quarantined => State.present_denied (s.rule_quarantined quarantined image) side, fun free =>
    ⟨fun damaged => ?_, fun whole => ⟨fun mode => ?_, fun mode => ?_⟩⟩⟩
  · have ruled := State.rule_reread free damaged
    refine ⟨fun early => ?_, fun third => ?_⟩
    · exact (State.present_reread ruled side).trans (congrArg (·, Verdict.reread) (State.misread_early early side))
    · exact (State.present_reread ruled side).trans (congrArg (·, Verdict.reread) (State.misread_third third side))
  · have ruled := State.rule_evacuation free whole mode
    refine ⟨fun minibar => ?_, fun other => ?_⟩
    · exact State.present_denied (ruled.trans (if_pos (UnitKind.isMinibar_of minibar))) side
    · exact State.present_evacPass (ruled.trans (if_neg (Bool.eq_false_iff.mp (UnitKind.isMinibar_not other)))) side
  · have ruled := State.rule_card free whole mode
    refine ⟨fun unset => State.present_denied (ruled.trans (State.ruleCard_noClock unset)) side,
      fun set foreign => State.present_denied (ruled.trans (State.ruleCard_foreign set foreign)) side, fun set here own =>
      ⟨fun unknown => State.present_denied (ruled.trans (State.ruleCard_unknown set here own unknown)) side, fun c found => ?_⟩⟩
    refine ⟨fun why revoked kept => ?_, fun lost => ?_, fun suspended =>
        State.present_denied (ruled.trans (State.ruleCard_suspended set here own found suspended)) side,
      fun active differs => ?_, fun active same => ?_⟩
    · refine State.present_denied (ruled.trans ((State.ruleCard_revoked set here own found revoked).trans ?_)) side
      rw [decide_eq_false kept]
      rfl
    · exact State.present_lost (ruled.trans (State.ruleCard_revoked set here own found lost)) side
    · exact State.present_denied ((ruled.trans (State.ruleCard_active set here own found active)).trans (State.ruleRecord_stale
        (Bool.eq_false_iff.mpr fun said => differs (Credential.agrees_iff.mp said)))) side
    have carded := ruled.trans (State.ruleCard_active set here own found active)
    have same := Credential.agrees_iff.mpr same
    refine ⟨fun early => State.present_denied (carded.trans (State.ruleRecord_outside same (windowTest_early early))) side,
      fun begun expired => State.present_denied (carded.trans (State.ruleRecord_outside same (windowTest_expired begun expired))) side,
      fun begun lasts => ?_⟩
    have inside := windowTest_inside begun lasts
    refine ⟨fun i unit j card differ => State.present_denied (carded.trans
      (State.ruleRecord_wrongRoom same inside (State.otherRoom_some unit card differ))) side, fun rooms => ?_⟩
    have room := State.otherRoom_none rooms
    refine ⟨fun i kind bound => ⟨fun blocked => ?_, fun admitted low => ?_⟩, fun admits => ?_⟩
    · exact State.present_denied (carded.trans
        (State.ruleRecord_account same inside room (State.accountDenial_blocked kind bound blocked))) side
    · exact State.present_denied (carded.trans
        (State.ruleRecord_account same inside room (State.accountDenial_low kind bound admitted low))) side
    · have ruled := carded.trans (State.ruleRecord_condition same inside room (State.accountDenial_none admits))
      refine ⟨fun fails => State.present_denied (ruled.trans (if_neg (Bool.eq_false_iff.mp fails))) side, fun holds => ?_⟩
      have bound : c.binding.isSome = c.slot?.isSome := by rw [Credential.slot?, Option.isSome_map]
      exact State.present_granted (ruled.trans ((if_pos holds).trans (by rw [bound]))) side
end

section
/-! The reports of an answer (R38, R84, R89, R122 to R126, R135): what each does at a unit of each kind. -/

namespace Sys2Proof.Machine

-- One theorem at a time: each check by the kernel then needs one stack.
set_option Elab.async false

open Sys2Proof

section
variable (s : State) (u : UnitId)

/-! ## Openings and closings -/

/-- An entrance that is OPEN, with its ajar timer at a limit (R124). -/
def State.swung (s : State) (u : UnitId) (limit : Nat) : State :=
  { s with units := s.units.set u { s.units[u] with entrance := .opened }, ajar := s.ajar.set u (some { remaining := limit, limit := limit }) }

/-- Where the units and the decision tables are still those of `s`, an opening loads the ajar limit of `s`. -/
theorem State.entranceOpened_limit {t : State} (units : t.units = s.units) (decision : t.decision = s.decision) :
    t.entranceOpened u = t.swung u s.decision.entrances[s.units[u].entranceClass].ajarLimit := by
  have limit : t.decision.entrances[t.units[u].entranceClass].ajarLimit
      = s.decision.entrances[s.units[u].entranceClass].ajarLimit := by simp only [decision, units]
  rw [← limit]
  rfl

theorem State.decideOpened_granted (granted : s.grants[u].isSome = true) :
    s.decideOpened u true = (s.concludeEntry u).swung u s.decision.entrances[s.units[u].entranceClass].ajarLimit := by
  have same : SameBut [.grants, .tallies, .log, .ports] s (s.concludeEntry u) := s.concludeGrant_same u _
  simp only [State.decideOpened, granted, if_true]
  exact s.entranceOpened_limit u (same.agree .units) (same.agree .decision)

theorem State.decideOpened_unattributed (bare : s.grants[u].isSome = false) :
    s.decideOpened u true = (s.append (.unit u) none s.units[u].kind.slot? .entryUnattributed).swung u
      s.decision.entrances[s.units[u].entranceClass].ajarLimit := by
  have same := s.append_same (.unit u) none s.units[u].kind.slot? .entryUnattributed
  simp only [State.decideOpened, bare, if_true, Bool.false_eq_true, if_false]
  exact s.entranceOpened_limit u (same.agree .units) (same.agree .decision)

theorem State.decideOpened_forced :
    s.decideOpened u false = ((s.append (.unit u) none s.units[u].kind.slot? .forced).raise .se (.forced u)).swung u
      s.decision.entrances[s.units[u].entranceClass].ajarLimit := by
  have logged := s.append_same (.unit u) none s.units[u].kind.slot? .forced
  have told := (s.append (.unit u) none s.units[u].kind.slot? .forced).raise_same .se (.forced u)
  simp only [State.decideOpened, Bool.false_eq_true, if_false]
  exact s.entranceOpened_limit u ((logged.agree .units).trans (told.agree .units))
    ((logged.agree .decision).trans (told.agree .decision))

theorem State.decideOpened_sessions (released : Bool) : (s.decideOpened u released).sessions = s.sessions :=
  (s.decideOpened_same u released).agree .sessions

/-- An opening at a minibar lock brings its session IN USE (R135). -/
theorem State.sessionOpened_at {t : State} (sessions : t.sessions = s.sessions) :
    t.sessionOpened u = match s.sessions[u] with
      | some x => { t with sessions := t.sessions.set u (some { x with phase := .inUse }) }
      | none => t := by
  unfold State.sessionOpened
  rw [sessions]
  cases s.sessions[u] with
  | none => rfl
  | some x =>
    simp only [State.setSession, sessions]

theorem State.sessionClosed_inUse {x : Session} (held : s.sessions[u] = some x) (phase : x.phase = .inUse) :
    s.sessionClosed u = s.endSession u .closed := by
  simp only [State.sessionClosed, held, openedSeen_eq, phase, decide_true, if_true]

theorem State.sessionClosed_other (waits : ∀ x ∈ s.sessions[u], x.phase ≠ .inUse) : s.sessionClosed u = s := by
  unfold State.sessionClosed
  split
  · next x held => rw [openedSeen_eq, decide_eq_false (waits x held), if_neg Bool.false_ne_true]
  · rfl

/-! ## Tampering (R89) -/

theorem State.tamper_eq :
    let marked := s.setUnit u { s.units[u] with quarantined := true }
    let cut := (marked.concludeCut u .quarantine).endSession u .quarantine
    s.tamper u = ((cut.setRelock u).append (.unit u) none s.units[u].kind.slot? (.unitTamper s.units[u].kind.gate?)).raise .se
      (.unitTamper u) := by
  intro marked cut
  have grants : SameBut [.grants, .tallies, .log, .ports] marked (marked.concludeCut u .quarantine) := marked.concludeGrant_same u _
  have units : cut.units = marked.units :=
    (grants.agree .units).trans ((State.endSession_same _ u _).agree .units)
  have kind : (cut.setRelock u).units[u].kind = s.units[u].kind := by
    rw [State.setRelock, State.getElem_setUnit, if_pos rfl, units, State.getElem_setUnit, if_pos rfl]
  simp only [State.tamper, State.appendUnit, State.unitSlot, State.unitGate]
  rw [kind]

/-! ## A report, by the kind of the unit -/

section
variable {s u}

theorem State.report_door (door : s.units[u].kind = .passageLock ∨ ∃ i, s.units[u].kind = .roomLock i) :
    (∀ released, s.report u (.opened released) = s.decideOpened u released) ∧ s.report u .closed = s.decideClosed u := by
  rcases door with kind | ⟨i, kind⟩
  · simp only [State.report, kind, implies_true, and_self]
  · simp only [State.report, kind, implies_true, and_self]

theorem State.report_minibar {i : Slot} (kind : s.units[u].kind = .minibarLock i) :
    (∀ released, s.report u (.opened released) = (s.decideOpened u released).sessionOpened u)
    ∧ s.report u .closed = (s.decideClosed u).sessionClosed u := by
  simp only [State.report, kind, implies_true, and_self]

theorem State.report_deadbolt {i : Slot} (kind : s.units[u].kind = .roomLock i) :
    s.report u .deadboltOn = s.setPrivacy i .on ∧ s.report u .deadboltOff = s.setPrivacy i .off := by
  simp only [State.report, kind, and_self]

theorem State.report_deadbolt_elsewhere (other : ∀ i, s.units[u].kind ≠ .roomLock i) :
    s.report u .deadboltOn = s ∧ s.report u .deadboltOff = s := by
  cases kind : s.units[u].kind with
  | roomLock i => exact absurd kind (other i)
  | _ => simp only [State.report, kind, and_self]

theorem State.report_items_elsewhere (other : ∀ i, s.units[u].kind ≠ .minibarLock i) (item : Fin 12) (n m : Nat) :
    s.report u (.items item n m) = s := by
  cases kind : s.units[u].kind with
  | minibarLock i => exact absurd kind (other i)
  | _ => simp only [State.report, kind]

theorem State.report_tamper (present : s.units[u].kind ≠ .absent) : s.report u .tamper = s.tamper u := by
  cases kind : s.units[u].kind with
  | absent => exact absurd kind present
  | _ => simp only [State.report, kind]

theorem State.report_doorless (doorless : s.units[u].kind = .absent ∨ ∃ g, s.units[u].kind = .gateReader g) (released : Bool) :
    s.report u (.opened released) = s ∧ s.report u .closed = s := by
  rcases doorless with kind | ⟨g, kind⟩
  · simp only [State.report, kind, and_self]
  · simp only [State.report, kind, and_self]

end

end

end Sys2Proof.Machine

open Sys2Proof Sys2Proof.Machine

set_option Elab.async false in
/-- Settles O41, by the kind of the unit that reports. -/
theorem reportsActOnTheirOwners : Obligations.ReportsActOnTheirOwners := by
  unfold Obligations.ReportsActOnTheirOwners
  intro s u kind limit swung entered forced shut opening marked cut relocked
  have released : s.decideOpened u true = swung entered := by
    cases granted : s.grants[u].isSome with
    | true =>
      have entry : entered = s.concludeEntry u := if_pos granted
      rw [entry]
      exact s.decideOpened_granted u granted
    | false =>
      have entry : entered = s.append (.unit u) none s.units[u].kind.slot? .entryUnattributed :=
        if_neg (Bool.eq_false_iff.mp granted)
      rw [entry]
      exact s.decideOpened_unattributed u granted
  have broken : s.decideOpened u false = swung forced := s.decideOpened_forced u
  have sessions (r : Bool) : (s.decideOpened u r).sessions = s.sessions := s.decideOpened_sessions u r
  have used (r : Bool) : (s.decideOpened u r).sessionOpened u = opening (s.decideOpened u r) :=
    (s.sessionOpened_at u (sessions r)).trans (by rfl)
  refine ⟨fun door => ?_, fun i minibar => ?_, fun i room => State.report_deadbolt room, fun present => ?_,
    State.report_deadbolt_elsewhere, State.report_items_elsewhere, State.report_doorless⟩
  · obtain ⟨opened, closed⟩ := State.report_door door
    exact ⟨(opened true).trans released, (opened false).trans broken, closed⟩
  · obtain ⟨opened, closed⟩ := State.report_minibar minibar
    refine ⟨?_, ?_, fun x held phase => closed.trans (State.sessionClosed_inUse (s := s.decideClosed u) (u := u) held phase),
      fun waits => closed.trans (State.sessionClosed_other (s.decideClosed u) u waits)⟩
    · rw [opened true, used true, released]
    · rw [opened false, used false, broken]
  · exact (State.report_tamper present).trans (s.tamper_eq u)
end

section
/-! The rota of a bus (R76, R77), and misses, answers and timeouts (R80, R86 to R88). -/

namespace Sys2Proof.Machine

-- One theorem at a time: each check by the kernel then needs one stack.
set_option Elab.async false

open Sys2Proof

/-! ## Units left to visit -/

/-- A unit is left to visit in a round above an address: it is configured on the bus, and SILENT only in a round 0 (R76). -/
def LeftToVisit (units : Vector UnitRec 240) (line : Bus) (round above : Nat) (u : UnitId) : Prop :=
  busOf u = line ∧ units[u].kind ≠ .absent ∧ (units[u].link = .silent → round = 0) ∧ above < addressOf u

section
variable {units : Vector UnitRec 240} {line : Bus} {c : BusState}

theorem leftToVisit_iff (round above : Nat) (u : UnitId) :
    (visited units line round u && decide (above < addressOf u)) = true ↔ LeftToVisit units line round above u := by
  simp only [visited, LeftToVisit, Bool.and_eq_true, Bool.or_eq_true, beq_iff_eq, decide_eq_true_eq, and_assoc, ne_eq,
    ← imp_iff_not_or]

theorem nextVisit_none : nextVisit units line c = none ↔ ∀ u, ¬ LeftToVisit units line c.round c.position u := by
  simp only [nextVisit, allUnits, List.find?_eq_none, List.mem_finRange, forall_const, leftToVisit_iff]

theorem nextVisit_left {u : UnitId} (next : nextVisit units line c = some u) : LeftToVisit units line c.round c.position u :=
  (leftToVisit_iff _ _ u).mp (List.find?_some (p := fun u => visited units line c.round u && decide (c.position < addressOf u)) next)

theorem busOf_eq_a (u : UnitId) : busOf u = .a ↔ u.val < 120 := by
  unfold busOf
  split <;> simp_all

/-- On one bus the units stand in the order of their addresses. -/
theorem eq_of_addressOf_le {u v : UnitId} (bus : busOf u = busOf v) (order : v.val ≤ u.val) (address : addressOf u ≤ addressOf v) :
    v = u := by
  have half : u.val < 120 ↔ v.val < 120 := by rw [← busOf_eq_a, ← busOf_eq_a, bus]
  simp only [addressOf] at address
  exact Fin.ext (by omega)

/-- The next unit is the one with the lowest address of those left (R76). -/
theorem nextVisit_lowest {u : UnitId} (left : LeftToVisit units line c.round c.position u)
    (lowest : ∀ v, LeftToVisit units line c.round c.position v → addressOf u ≤ addressOf v) : nextVisit units line c = some u := by
  cases next : nextVisit units line c with
  | none => exact absurd left (nextVisit_none.mp next u)
  | some v =>
    have found := nextVisit_left next
    obtain ⟨-, i, inside, here, before⟩ := List.find?_eq_some_iff_getElem.mp next
    have place : i = v.val := by
      have := congrArg Fin.val here
      simpa [allUnits] using this
    have order : v.val ≤ u.val := by
      refine Nat.le_of_not_lt fun earlier => ?_
      have skipped := before u.val (place ▸ earlier)
      simp only [allUnits, List.getElem_finRange, Fin.cast_mk, Fin.eta, (leftToVisit_iff _ _ u).mpr left, Bool.not_true] at skipped
      exact Bool.false_ne_true skipped
    exact congrArg some (eq_of_addressOf_le (left.1.trans found.1.symm) order (lowest v found))

/-! ## Rounds that end -/

/-- A bus with no unit ends no round (R77). -/
theorem settleRounds_empty (empty : rotaEmpty units line = true) (fuel : Nat) : settleRounds units line fuel c = c := by
  cases fuel with
  | zero => rfl
  | succ fuel => rw [settleRounds, empty, Bool.true_or, if_pos rfl]

theorem settleRounds_left {u : UnitId} (left : LeftToVisit units line c.round c.position u) (fuel : Nat) :
    settleRounds units line fuel c = c := by
  cases fuel with
  | zero => rfl
  | succ fuel =>
    have next : (nextVisit units line c).isSome = true := by
      cases next : nextVisit units line c with
      | none => exact absurd left (nextVisit_none.mp next u)
      | some v => rfl
    rw [settleRounds, next, Bool.or_true, if_pos rfl]

/-- A round with no unit left ends, where the bus has a unit (R76). -/
theorem settleRounds_end {u : UnitId} (own : busOf u = line) (configured : units[u].kind ≠ .absent)
    (ended : ∀ v, ¬ LeftToVisit units line c.round c.position v) (fuel : Nat) :
    settleRounds units line (fuel + 1) c = settleRounds units line fuel c.endRound := by
  have rota : rotaEmpty units line = false :=
    Bool.eq_false_of_not_eq_true fun empty => configured ((rotaEmpty_iff units line).mp empty u own)
  rw [settleRounds, rota, nextVisit_none.mpr ended]
  rfl

/-- Where the units of a bus are all SILENT, its rounds end up to round 0 (R76). -/
theorem settleRounds_silent {u : UnitId} (own : busOf u = line) (configured : units[u].kind ≠ .absent)
    (silent : ∀ v : UnitId, busOf v = line → units[v].kind ≠ .absent → units[v].link = .silent) (fuel : Nat) {c : BusState}
    (start : c.position = 0) (round : c.round < 16) (enough : (16 - c.round) % 16 ≤ fuel) :
    settleRounds units line fuel c = { c with round := 0, position := 0 } := by
  by_cases first : c.round = 0
  · have left : LeftToVisit units line c.round c.position u := ⟨own, configured, fun _ => first, start ▸ Nat.succ_pos _⟩
    rw [settleRounds_left left]
    obtain ⟨⟩ := c
    obtain rfl : _ = 0 := first
    obtain rfl : _ = 0 := start
    rfl
  · have ended : ∀ v, ¬ LeftToVisit units line c.round c.position v := fun v ⟨own, present, quiet, _⟩ =>
      first (quiet (silent v own present))
    induction fuel generalizing c with
    | zero => omega
    | succ fuel ih =>
      rw [settleRounds_end own configured ended]
      by_cases last : c.endRound.round = 0
      · have left : LeftToVisit units line c.endRound.round c.endRound.position u :=
          ⟨own, configured, fun _ => last, Nat.succ_pos _⟩
        rw [settleRounds_left left, BusState.endRound]
        have zero : (c.round + 1) % 16 = 0 := last
        rw [zero]
      · have advanced : c.endRound.round = c.round + 1 := by
          have : (c.round + 1) % 16 ≠ 0 := last
          simp only [BusState.endRound]
          omega
        refine (ih rfl (Nat.mod_lt _ (by decide)) ?_ last fun v ⟨own, present, quiet, _⟩ => last (quiet (silent v own present))).trans rfl
        rw [advanced]
        omega

/-- From any round with no unit left, the rounds of SILENT units end up to round 0. -/
theorem settleRounds_allSilent {u : UnitId} (own : busOf u = line) (configured : units[u].kind ≠ .absent)
    (silent : ∀ v : UnitId, busOf v = line → units[v].kind ≠ .absent → units[v].link = .silent)
    (ended : ∀ v, ¬ LeftToVisit units line c.round c.position v) :
    settleRounds units line 17 c = { c with round := 0, position := 0 } := by
  rw [settleRounds_end own configured ended]
  exact settleRounds_silent own configured silent 16 rfl (Nat.mod_lt _ (by decide)) (Nat.le_of_lt (Nat.mod_lt _ (by decide)))

/-- Where the next round has a unit to visit, one round ends (R76). -/
theorem settleRounds_next {u : UnitId} (ended : ∀ v, ¬ LeftToVisit units line c.round c.position v)
    (left : LeftToVisit units line ((c.round + 1) % 16) 0 u) : settleRounds units line 17 c = c.endRound := by
  rw [settleRounds_end left.1 left.2.1 ended]
  exact settleRounds_left (c := c.endRound) left 16

end

/-! ## Misses and answers -/

section
variable {s : State} {u : UnitId}

theorem State.appendUnit_setUnit (r : UnitRec) (same : r.kind = s.units[u].kind) (card : Option Nat) (d : Detail) :
    (s.setUnit u r).appendUnit u card d = (s.setUnit u r).append (.unit u) card s.units[u].kind.slot? d := by
  rw [State.appendUnit, State.unitSlot, State.getElem_setUnit, if_pos rfl, same]

theorem State.unitGate_setUnit (r : UnitRec) (same : r.kind = s.units[u].kind) :
    (s.setUnit u r).unitGate u = s.units[u].kind.gate? := by
  rw [State.unitGate, State.getElem_setUnit, if_pos rfl, same]

theorem State.miss_absent (absent : s.units[u].kind = .absent) : s.miss u = s := if_pos absent

section
variable (present : s.units[u].kind ≠ .absent)

include present in
theorem State.miss_third (heard : s.units[u].link ≠ .silent) (third : 2 ≤ s.units[u].misses) :
    s.miss u = ((s.setUnit u { s.units[u] with misses := 3, link := .silent, expected := none }).append (.unit u) none
      s.units[u].kind.slot? (.unitSilent s.units[u].link s.units[u].kind.gate?)).raise .se (.unitSilent u) := by
  rw [State.miss, if_neg present, if_pos ⟨Nat.succ_le_succ third, heard⟩]
  dsimp only
  rw [State.appendUnit_setUnit, State.unitGate_setUnit]
  · rfl
  · rfl

include present in
theorem State.miss_other (few : s.units[u].link = .silent ∨ s.units[u].misses < 2) :
    s.miss u = s.setUnit u { s.units[u] with misses := min 3 (s.units[u].misses + 1) } := by
  rw [State.miss, if_neg present, if_neg]
  rintro ⟨third, heard⟩
  rcases few with silent | early
  · exact heard silent
  · omega

end

theorem State.answered_heard (heard : s.units[u].link ≠ .silent) :
    s.answered u = s.setUnit u { s.units[u] with misses := 0, link := .online } := if_neg heard

theorem State.answered_back (silent : s.units[u].link = .silent) :
    s.answered u = ((s.setUnit u { s.units[u] with misses := 0, link := .online }).append (.unit u) none s.units[u].kind.slot?
      (.unitBack s.units[u].kind.gate?)).raise .se (.unitBack u) := by
  rw [State.answered, if_pos silent, State.appendUnit_setUnit, State.unitGate_setUnit]
  · rfl
  · rfl

end

/-! ## Timeouts -/

section
variable {s : State} (line : Bus)

/-- A transaction ended by its timeout, with the count raised in the same store (R80, R86). -/
theorem State.timedOut_eq (u : UnitId) :
    s.timedOut line u
      = ((s.setBus line { s.bus line with flight := .none, timeouts := min 65535 ((s.bus line).timeouts + 1) }).miss u).settleRota line := by
  simp only [State.timedOut, State.endFlight, State.setBus_bus, State.setBus_setBus]
  rfl

variable {line}

theorem pollTimeout_due {u : UnitId} {relock : Bool} (running : s.running = true) (flight : (s.bus line).flight = .poll u relock) :
    pollTimeout line s = s.timedOut line u := by
  simp only [pollTimeout, flight, running, if_true]

theorem pollTimeout_other (other : ∀ u relock, (s.bus line).flight ≠ .poll u relock) : pollTimeout line s = s := by
  unfold pollTimeout
  split
  · next u relock flight => exact absurd flight (other u relock)
  · rfl

theorem verdictTimeout_due {u : UnitId} {granted : Bool} (running : s.running = true)
    (flight : (s.bus line).flight = .verdict u granted) : verdictTimeout line s = s.timedOut line u := by
  simp only [verdictTimeout, flight, running, if_true]

theorem verdictTimeout_other (other : ∀ u granted, (s.bus line).flight ≠ .verdict u granted) : verdictTimeout line s = s := by
  unfold verdictTimeout
  split
  · next u granted flight => exact absurd flight (other u granted)
  · rfl

end

end Sys2Proof.Machine

open Sys2Proof Sys2Proof.Machine

set_option Elab.async false in
/-- Settles O35: misses and answers by the unit's link, timeouts by the transaction in flight, and the end of rounds by the units
left to visit. -/
theorem missesAnswersAndTimeouts : Obligations.MissesAnswersAndTimeouts := by
  unfold Obligations.MissesAnswersAndTimeouts
  refine ⟨fun s u => ⟨State.miss_absent, State.miss_third, State.miss_other, State.answered_heard, State.answered_back⟩,
    fun s line running => ⟨fun u relock flight => ?_, fun u granted flight => ?_,
      fun other => congrArg Host.Outcome.next (pollTimeout_other other),
      fun other => congrArg Host.Outcome.next (verdictTimeout_other other)⟩,
    fun s line => ⟨fun ⟨u, left⟩ => ?_, fun empty => ?_, fun ended ⟨u, left⟩ => ?_, fun ended ⟨u, own, configured⟩ silent => ?_⟩⟩
  · exact congrArg Host.Outcome.next ((pollTimeout_due running flight).trans (s.timedOut_eq line u))
  · exact congrArg Host.Outcome.next ((verdictTimeout_due running flight).trans (s.timedOut_eq line u))
  · rw [State.settleRota, settleRounds_left left, State.setBus_self]
  · rw [State.settleRota, settleRounds_empty ((rotaEmpty_iff s.units line).mpr empty), State.setBus_self]
  · exact congrArg (s.setBus line) (settleRounds_next ended left)
  · exact congrArg (s.setBus line) (settleRounds_allSilent own configured silent ended)
end

section
/-! What a controller sends between transactions (R68, R69, R76 to R80, R86): a verdict, then a MODE broadcast, then a POLL. -/

namespace Sys2Proof.Machine

-- One theorem at a time: each check by the kernel then needs one stack.
set_option Elab.async false

open Sys2Proof

section
variable {s : State} {line : Bus}

/-- Nothing is sent with a transaction in flight, or while the part does not run (R67, R199). -/
theorem State.canSend_false (busy : s.running = false ∨ (s.bus line).flight ≠ .none) : s.canSend line = false := by
  unfold State.canSend
  rcases busy with stopped | flight
  · rw [stopped, Bool.false_and]
  · rw [decide_eq_false flight, Bool.and_false]

theorem State.canSend_true (running : s.running = true) (quiet : (s.bus line).flight = .none) : s.canSend line = true := by
  rw [State.canSend, running, decide_eq_true quiet]
  rfl

/-! ## Verdicts -/

theorem sendVerdict_busy (busy : s.canSend line = false) : sendVerdict line s = s := by
  unfold sendVerdict
  split
  · rw [busy, if_neg Bool.false_ne_true]
  · rfl

theorem sendVerdict_none (nothing : s.verdictDue line = none) : sendVerdict line s = s := by
  simp only [sendVerdict, nothing]

theorem sendVerdict_due {d : DueVerdict} (free : s.canSend line = true) (due : s.verdictDue line = some d) :
    sendVerdict line s = s.setBus line { s.bus line with
      due := none, flight := .verdict d.unit d.verdict.isGrant, sent := verdictFrame d.unit d.verdict } := by
  simp only [sendVerdict, due, free, if_true]

/-! ## MODE broadcasts -/

theorem sendMode_busy (busy : s.canSend line = false) : sendMode line s = s := by
  rw [sendMode, busy]
  rfl

theorem sendMode_none (nothing : (s.bus line).broadcast = false) : sendMode line s = s := by
  simp only [sendMode, nothing, Bool.and_false, Bool.false_and, Bool.false_eq_true, if_false]

theorem sendMode_after {d : DueVerdict} (due : s.verdictDue line = some d) : sendMode line s = s := by
  simp only [sendMode, due, Option.isNone_some, Bool.and_false, Bool.false_eq_true, if_false]

theorem sendMode_sent (free : s.canSend line = true) (nothing : s.verdictDue line = none) (broadcast : (s.bus line).broadcast = true) :
    sendMode line s = s.setBus line { s.bus line with broadcast := false, sent := modeFrame s.wing.mode } := by
  simp only [sendMode, free, nothing, broadcast, Option.isNone_none, Bool.and_self, if_true]

/-! ## POLLs -/

theorem sendPoll_busy (busy : s.canSend line = false) : sendPoll line s = s := by
  rw [sendPoll, busy]
  rfl

theorem sendPoll_afterVerdict {d : DueVerdict} (due : s.verdictDue line = some d) : sendPoll line s = s := by
  simp only [sendPoll, due, Option.isNone_some, Bool.and_false, Bool.false_eq_true, if_false]

theorem sendPoll_afterMode (broadcast : (s.bus line).broadcast = true) : sendPoll line s = s := by
  simp only [sendPoll, broadcast, Bool.not_true, Bool.and_false, Bool.false_and, Bool.false_eq_true, if_false]

/-- A bus with no unit has no unit to poll (R77). -/
theorem sendPoll_empty (empty : rotaEmpty s.units line = true) : sendPoll line s = s := by
  have nobody : nextVisit s.units line (s.bus line) = none :=
    nextVisit_none.mpr fun u ⟨own, present, _⟩ => present ((rotaEmpty_iff s.units line).mp empty u own)
  simp only [sendPoll, settleRounds_empty empty, nobody, ite_self]

/-- The controller of `s` with the POLL to a unit sent in a given round (R80). -/
def State.polled (s : State) (line : Bus) (round : Nat) (u : UnitId) : State :=
  s.setBus line { s.bus line with
    round := round, position := addressOf u, flight := .poll u s.units[u].relock
    sent := pollFrame u s.wing.mode s.units[u].relock s.units[u].expected }

section
variable (free : s.canSend line = true) (nothing : s.verdictDue line = none) (still : (s.bus line).broadcast = false)

include free nothing still in
theorem sendPoll_next {c : BusState} {u : UnitId} (settled : settleRounds s.units line 17 (s.bus line) = c)
    (next : nextVisit s.units line c = some u) :
    sendPoll line s = s.setBus line { c with
      position := addressOf u, flight := .poll u s.units[u].relock
      sent := pollFrame u s.wing.mode s.units[u].relock s.units[u].expected } := by
  simp only [sendPoll, free, nothing, still, settled, next, Bool.not_false, Option.isNone_none, Bool.and_self, if_true]

include free nothing still in
theorem sendPoll_left {u : UnitId} (left : LeftToVisit s.units line (s.bus line).round (s.bus line).position u)
    (lowest : ∀ v, LeftToVisit s.units line (s.bus line).round (s.bus line).position v → addressOf u ≤ addressOf v) :
    sendPoll line s = s.polled line (s.bus line).round u :=
  sendPoll_next free nothing still (settleRounds_left left 17) (nextVisit_lowest left lowest)

variable (ended : ∀ v, ¬ LeftToVisit s.units line (s.bus line).round (s.bus line).position v)

include free nothing still ended in
theorem sendPoll_nextRound {u : UnitId} (left : LeftToVisit s.units line (((s.bus line).round + 1) % 16) 0 u)
    (lowest : ∀ v, LeftToVisit s.units line (((s.bus line).round + 1) % 16) 0 v → addressOf u ≤ addressOf v) :
    sendPoll line s = s.polled line (((s.bus line).round + 1) % 16) u :=
  sendPoll_next free nothing still (settleRounds_next ended left) (nextVisit_lowest (c := (s.bus line).endRound) left lowest)

include free nothing still ended in
theorem sendPoll_silent (silent : ∀ v : UnitId, busOf v = line → s.units[v].kind ≠ .absent → s.units[v].link = .silent) {u : UnitId}
    (left : LeftToVisit s.units line 0 0 u) (lowest : ∀ v, LeftToVisit s.units line 0 0 v → addressOf u ≤ addressOf v) :
    sendPoll line s = s.polled line 0 u :=
  sendPoll_next free nothing still (settleRounds_allSilent left.1 left.2.1 silent ended)
    (nextVisit_lowest (c := { s.bus line with round := 0, position := 0 }) left lowest)

end

end

end Sys2Proof.Machine

open Sys2Proof Sys2Proof.Machine

set_option Elab.async false in
/-- Settles O34: nothing while the controller may not send; then by what waits, a verdict, a broadcast, or the unit due next. -/
theorem controllersSendInOrder : Obligations.ControllersSendInOrder := by
  unfold Obligations.ControllersSendInOrder
  intro s line framed modeSent configured
  have rota_empty : ¬ configured → rotaEmpty s.units line = true := fun bare =>
    (rotaEmpty_iff s.units line).mpr fun u own => by_contra fun present => bare ⟨u, own, present⟩
  have rota_held : configured → rotaEmpty s.units line = false := fun ⟨u, own, present⟩ =>
    Bool.eq_false_of_not_eq_true fun empty => present ((rotaEmpty_iff s.units line).mp empty u own)
  have no_verdict : (s.bus line).due = none ∨ ¬ configured → s.verdictDue line = none := by
    rintro (nothing | bare)
    · rw [State.verdictDue, nothing, ite_self]
    · exact State.verdictDue_empty (rota_empty bare)
  refine ⟨fun busy => ?_, fun running quiet => ?_⟩
  · have shut := State.canSend_false busy
    exact ⟨congrArg Host.Outcome.next (sendVerdict_busy shut), congrArg Host.Outcome.next (sendMode_busy shut),
      congrArg Host.Outcome.next (sendPoll_busy shut)⟩
  have free := State.canSend_true running quiet
  refine ⟨fun d due held => ?_, fun bare => ?_, fun nothing => ?_, fun still => congrArg Host.Outcome.next (sendMode_none still),
    fun nothing broadcast => ?_, fun nothing still => ?_⟩
  · have waits : s.verdictDue line = some d := (State.verdictDue_configured (rota_held held)).trans due
    refine ⟨congrArg Host.Outcome.next ((sendVerdict_due free waits).trans ?_), congrArg Host.Outcome.next (sendMode_after waits),
      congrArg Host.Outcome.next (sendPoll_afterVerdict waits)⟩
    cases d.verdict <;> rfl
  · exact ⟨congrArg Host.Outcome.next (sendVerdict_none (no_verdict (.inr bare))),
      congrArg Host.Outcome.next (sendPoll_empty (rota_empty bare))⟩
  · exact congrArg Host.Outcome.next (sendVerdict_none (no_verdict (.inl nothing)))
  · exact ⟨congrArg Host.Outcome.next (sendMode_sent free (no_verdict nothing) broadcast),
      congrArg Host.Outcome.next (sendPoll_afterMode broadcast)⟩
  · intro left round next polled
    have polls (u : UnitId) (n : Nat) : s.polled line n u = polled u n := by
      have expected : answerBitCode s.units[u].expected
          = match s.units[u].expected with | none => 0xFF | some false => 0 | some true => 1 := by
        cases s.units[u].expected with
        | none => rfl
        | some b => cases b <;> rfl
      simp only [State.polled, pollFrame, expected]
      rfl
    have waits := no_verdict (.inl nothing)
    exact ⟨fun u due lowest => congrArg Host.Outcome.next ((sendPoll_left free waits still due lowest).trans (polls u _)),
      fun ended u due lowest => congrArg Host.Outcome.next ((sendPoll_nextRound free waits still ended due lowest).trans (polls u _)),
      fun ended silent u due lowest =>
        congrArg Host.Outcome.next ((sendPoll_silent free waits still ended silent due lowest).trans (polls u _))⟩
end

section
/-! The reply frame that ends a transaction (R70, R81 to R86, R114), by what the checks find of it. -/

namespace Sys2Proof.Machine

-- One theorem at a time: each check by the kernel then needs one stack.
set_option Elab.async false

open Sys2Proof

section
variable {s : State} {line : Bus} {u : UnitId}

/-! ## A reply that fails a check -/

/-- A bus with the transaction over and one count raised, and a miss at the unit (R70, R81). -/
def State.replyFailed (s : State) (line : Bus) (u : UnitId) (c : BusState) : State :=
  ((s.setBus line { c with flight := .none }).miss u).settleRota line

theorem State.failedReply_crcError : (s.endFlight line).failedReply line u .crcError
    = s.replyFailed line u { s.bus line with crcErrors := min 65535 ((s.bus line).crcErrors + 1) } := by
  simp only [State.failedReply, State.countError, State.endFlight, State.setBus_bus, State.setBus_setBus]
  rfl

theorem State.failedReply_stray : (s.endFlight line).failedReply line u .stray
    = s.replyFailed line u { s.bus line with strays := min 65535 ((s.bus line).strays + 1) } := by
  simp only [State.failedReply, State.countError, State.endFlight, State.setBus_bus, State.setBus_setBus]
  rfl

theorem State.failedReply_malformed : (s.endFlight line).failedReply line u .malformed
    = s.replyFailed line u { s.bus line with malformed := min 65535 ((s.bus line).malformed + 1) } := by
  simp only [State.failedReply, State.countError, State.endFlight, State.setBus_bus, State.setBus_setBus]
  rfl

/-! ## The reply of a poll transaction -/

section
variable {relock : Bool} {frame : List Byte}

theorem State.pollReply_crcError (check : checkFrame frame (addressOf u) 0x20 = .crcError) :
    s.pollReply line u relock frame = s.replyFailed line u { s.bus line with crcErrors := min 65535 ((s.bus line).crcErrors + 1) } := by
  simp only [State.pollReply, check, State.failedReply_crcError]

theorem State.pollReply_stray (check : checkFrame frame (addressOf u) 0x20 = .stray) :
    s.pollReply line u relock frame = s.replyFailed line u { s.bus line with strays := min 65535 ((s.bus line).strays + 1) } := by
  simp only [State.pollReply, check, State.failedReply_stray]

theorem State.pollReply_malformed (check : checkFrame frame (addressOf u) 0x20 = .malformed) :
    s.pollReply line u relock frame = s.replyFailed line u { s.bus line with malformed := min 65535 ((s.bus line).malformed + 1) } := by
  simp only [State.pollReply, check, State.failedReply_malformed]

variable {payload : List Byte} (check : checkFrame frame (addressOf u) 0x20 = .wellFormed payload)

include check in
theorem State.pollReply_unread (unread : answerOf? payload = none) :
    s.pollReply line u relock frame = s.replyFailed line u { s.bus line with malformed := min 65535 ((s.bus line).malformed + 1) } := by
  simp only [State.pollReply, check, unread, State.failedReply_malformed]

include check in
theorem State.pollReply_answer {a : AnswerContent} (read : answerOf? payload = some a) :
    s.pollReply line u relock frame = (s.endFlight line).pollAnswered line u relock a := by
  simp only [State.pollReply, check, read]

end

section
variable {a : AnswerContent} {relock : Bool}

/-- An answer changes a unit's misses and link, and no other item of it (R88). -/
theorem State.answered_units : (s.answered u).units = (s.setUnit u { s.units[u] with misses := 0, link := .online }).units := by
  by_cases silent : s.units[u].link = .silent
  · rw [State.answered_back silent, (State.raise_same _ _ _).agree .units, (State.append_same _ _ _ _ _).agree .units]
  · rw [State.answered_heard silent]

/-- The answer bit a unit last gave stays through an answer and the relock it clears. -/
theorem State.deliverRelock_expected : ((s.answered u).deliverRelock u relock).units[u].expected = s.units[u].expected := by
  have heard : (s.answered u).units[u].expected = s.units[u].expected := by
    rw [State.answered_units, State.getElem_setUnit, if_pos rfl]
  unfold State.deliverRelock
  split
  · rw [State.getElem_setUnit, if_pos rfl, heard]
  · exact heard

theorem State.pollAnswered_absent (absent : s.units[u].kind = .absent) : s.pollAnswered line u relock a = s.settleRota line := by
  rw [State.pollAnswered_eq, if_pos absent]

section
variable (present : s.units[u].kind ≠ .absent)

include present in
/-- A repeat is discarded whole, once it has cleared its relock (R82, R85). -/
theorem State.pollAnswered_repeat (same : s.units[u].expected = some a.bit) :
    s.pollAnswered line u relock a = ((s.answered u).deliverRelock u relock).settleRota line := by
  rw [State.pollAnswered_eq, if_neg present, if_pos (State.deliverRelock_expected.trans same)]

include present in
theorem State.pollAnswered_new (new : s.units[u].expected ≠ some a.bit) :
    s.pollAnswered line u relock a = ((s.answered u).deliverRelock u relock).takeAnswer line u a := by
  rw [State.pollAnswered_eq, if_neg present, if_neg fun same => new (State.deliverRelock_expected.symm.trans same)]

end

/-- A unit with the bit and the status of an answer, and the answer's reports taken (R82, R84). -/
def State.reported (s : State) (u : UnitId) (a : AnswerContent) : State :=
  (s.setUnit u { s.units[u] with expected := some a.bit, lastStatus := some a.status }).reports u a.reports

theorem State.takeAnswer_bare (bare : a.card = none) : s.takeAnswer line u a = (s.reported u a).settleRota line := by
  simp only [State.takeAnswer, bare]
  rfl

theorem State.takeAnswer_presented {side : Side} {image : CardImage} (card : a.card = some (side, image)) :
    s.takeAnswer line u a
      = ((s.reported u a).present u side image).1.setBus line { ((s.reported u a).present u side image).1.bus line with
          due := some { unit := u, verdict := ((s.reported u a).present u side image).2 } } := by
  simp only [State.takeAnswer, card]
  rfl

end

/-! ## The reply of a verdict transaction -/

section
variable {granted : Bool} {frame : List Byte}

theorem State.verdictReply_crcError (check : checkFrame frame (addressOf u) 0x21 = .crcError) :
    s.verdictReply line u granted frame
      = s.replyFailed line u { s.bus line with crcErrors := min 65535 ((s.bus line).crcErrors + 1) } := by
  simp only [State.verdictReply, check, State.failedReply_crcError]

theorem State.verdictReply_stray (check : checkFrame frame (addressOf u) 0x21 = .stray) :
    s.verdictReply line u granted frame
      = s.replyFailed line u { s.bus line with strays := min 65535 ((s.bus line).strays + 1) } := by
  simp only [State.verdictReply, check, State.failedReply_stray]

theorem State.verdictReply_malformed (check : checkFrame frame (addressOf u) 0x21 = .malformed) :
    s.verdictReply line u granted frame
      = s.replyFailed line u { s.bus line with malformed := min 65535 ((s.bus line).malformed + 1) } := by
  simp only [State.verdictReply, check, State.failedReply_malformed]

/-- An ACK has no payload (R86). -/
theorem State.verdictReply_long {payload : List Byte} (check : checkFrame frame (addressOf u) 0x21 = .wellFormed payload)
    (long : payload ≠ []) :
    s.verdictReply line u granted frame
      = s.replyFailed line u { s.bus line with malformed := min 65535 ((s.bus line).malformed + 1) } := by
  cases payload with
  | nil => exact absurd rfl long
  | cons b rest => simp only [State.verdictReply, check, State.failedReply_malformed]

theorem State.verdictReply_ack (check : checkFrame frame (addressOf u) 0x21 = .wellFormed []) :
    s.verdictReply line u granted frame = (s.endFlight line).verdictAcked line u granted := by
  simp only [State.verdictReply, check]

theorem State.verdictAcked_absent (absent : s.units[u].kind = .absent) : s.verdictAcked line u granted = s.settleRota line :=
  if_pos absent

section
variable (present : s.units[u].kind ≠ .absent)

include present in
theorem State.verdictAcked_denied : s.verdictAcked line u false = (s.answered u).settleRota line := if_neg present

include present in
theorem State.verdictAcked_granted : s.verdictAcked line u true = ((s.answered u).acknowledge u).settleRota line := if_neg present

end

theorem State.acknowledge_none (free : s.grants[u] = none) : s.acknowledge u = s := by simp only [State.acknowledge, free]

theorem State.acknowledge_some {g : Grant} (held : s.grants[u] = some g) :
    s.acknowledge u = s.setGrant u (some { g with acknowledged := true }) := by
  simp only [State.acknowledge, held]

end

/-! ## A frame closed on a bus -/

section
variable {frame : List Byte}

/-- Nothing is taken outside a transaction, or while the part does not run (R67, R199). -/
theorem frameClosed_outside (outside : s.running = false ∨ (s.bus line).flight = .none) : frameClosed line frame s = s := by
  unfold frameClosed
  rcases outside with stopped | quiet
  · rw [stopped]
    rfl
  · rw [quiet, ite_self]

theorem frameClosed_poll {relock : Bool} (running : s.running = true) (flight : (s.bus line).flight = .poll u relock) :
    frameClosed line frame s = s.pollReply line u relock frame := by
  simp only [frameClosed, running, flight, Bool.not_true, Bool.false_eq_true, if_false]

theorem frameClosed_verdict {granted : Bool} (running : s.running = true) (flight : (s.bus line).flight = .verdict u granted) :
    frameClosed line frame s = s.verdictReply line u granted frame := by
  simp only [frameClosed, running, flight, Bool.not_true, Bool.false_eq_true, if_false]

end

theorem State.endFlight_units : (s.endFlight line).units = s.units := s.setBus_units line _

theorem State.endFlight_grants : (s.endFlight line).grants = s.grants := s.setBus_grants line _

end

end Sys2Proof.Machine

open Sys2Proof Sys2Proof.Machine

set_option Elab.async false in
/-- Settles O37: a frame is judged by the transaction that waits for it, then by its checks, then by the unit and the answer. -/
theorem replyFramesEndTransactions : Obligations.ReplyFramesEndTransactions := by
  unfold Obligations.ReplyFramesEndTransactions
  refine ⟨fun s line frame => ⟨rfl, fun outside => ⟨congrArg Host.Outcome.next (frameClosed_outside outside),
    congrArg Host.Outcome.next (frameClosed_outside outside)⟩⟩, fun s line frame running => ?_⟩
  intro c ended failed
  have kept (u : UnitId) : ended.units[u] = s.units[u] := by rw [show ended.units = s.units from State.endFlight_units]
  refine ⟨fun u relock flight => ?_, fun u granted flight => ?_⟩
  · have closed {t : State} (reply : s.pollReply line u relock frame = t) : exec (.answer line frame) s = .next t :=
      congrArg Host.Outcome.next ((frameClosed_poll running flight).trans reply)
    refine ⟨fun check => closed (State.pollReply_crcError check), fun check => closed (State.pollReply_stray check),
      fun check => closed (State.pollReply_malformed check), fun payload check =>
      ⟨fun unread => closed (State.pollReply_unread check unread), fun a read => ?_⟩⟩
    have answered := State.pollReply_answer (relock := relock) (s := s) (line := line) check read
    refine ⟨fun absent => ?_, fun present => ?_⟩
    · exact closed (answered.trans (State.pollAnswered_absent ((congrArg UnitRec.kind (kept u)).trans absent)))
    intro heard cleared taken reported
    have here : ended.units[u].kind ≠ .absent := fun absent => present ((congrArg UnitRec.kind (kept u)).symm.trans absent)
    have before : ended.units[u].expected = s.units[u].expected := congrArg UnitRec.expected (kept u)
    refine ⟨fun same => closed (answered.trans (State.pollAnswered_repeat here (before.trans same))), fun new => ?_⟩
    have fresh := answered.trans (State.pollAnswered_new here fun same => new (before.symm.trans same))
    exact ⟨fun bare => closed (fresh.trans (State.takeAnswer_bare bare)),
      fun side image card => closed (fresh.trans (State.takeAnswer_presented card))⟩
  · have closed {t : State} (reply : s.verdictReply line u granted frame = t) : exec (.ack line frame) s = .next t :=
      congrArg Host.Outcome.next ((frameClosed_verdict running flight).trans reply)
    refine ⟨fun check => closed (State.verdictReply_crcError check), fun check => closed (State.verdictReply_stray check),
      fun check => closed (State.verdictReply_malformed check), fun payload check =>
      ⟨fun long => closed (State.verdictReply_long check long), fun bare absent => ?_, fun bare present => ?_⟩⟩
    · subst bare
      exact closed ((State.verdictReply_ack check).trans (State.verdictAcked_absent ((congrArg UnitRec.kind (kept u)).trans absent)))
    · subst bare
      intro heard
      have here : ended.units[u].kind ≠ .absent := fun absent => present ((congrArg UnitRec.kind (kept u)).symm.trans absent)
      have before : ended.grants = s.grants := State.endFlight_grants
      have same : heard.grants = ended.grants := (ended.answered_same u).agree .grants
      have grant : heard.grants[u] = s.grants[u] := by rw [same, before]
      refine ⟨fun denied => ?_, fun given free => ?_, fun given g held => ?_⟩
      · subst denied
        exact closed ((State.verdictReply_ack check).trans (State.verdictAcked_denied here))
      · subst given
        refine closed ((State.verdictReply_ack check).trans ((State.verdictAcked_granted here).trans ?_))
        rw [State.acknowledge_none (s := heard) (grant.trans free)]
      · subst given
        refine closed ((State.verdictReply_ack check).trans ((State.verdictAcked_granted here).trans ?_))
        rw [State.acknowledge_some (s := heard) (grant.trans held)]
end
